-- ==== Sys2Proof/Word.lean ====
section
/-! DEFINITION. The words of the controller: 32-bit words of the memory bus, 16-bit words of the display links, characters and timebase times (chapter 12, R90, R166). -/

namespace Sys2Proof

/-- A word of the memory bus: 32 bits, bit 31 the most significant (chapter 12). -/
abbrev Word := BitVec 32

/-- A word on a display link: 16 bits (R90). -/
abbrev Half := BitVec 16

/-- An 8-bit character code or brightness code. -/
abbrev Byte := BitVec 8

/-- A value of the timebase in milliseconds; it wraps at 2^32 (R166). -/
abbrev Time := BitVec 32

/-- The four byte lanes of a bus access; lane `i` carries bits `8i+7..8i` of the word (log 5). -/
abbrev Lanes := BitVec 4

end Sys2Proof
end

