-- ==== Sys2Proof/Syntax.lean ====
section
/-! DEFINITION. The commands of the controller: one constructor per row of spec/opcode_table.json, with the row's operands, and the operand types they need. -/

namespace Sys2Proof

/-- The three display links (Table 12-2). -/
inductive LinkId where
  | a | b | p
  deriving DecidableEq, Repr

/-- The two route images (Table 12-2). -/
inductive ImageId where
  | a | b
  deriving DecidableEq, Repr

/-- The place of a word in its bus access (R151, log 6): the word of a single access, or the first, a middle or the
last word of a burst. -/
inductive Beat where
  | single | first | middle | last
  deriving DecidableEq, Repr

/-- The counters of Table 9-3, in the order of their status words 16..35. -/
inductive Counter where
  | configParity | tapPartial | guardBlocked | mailboxBad | reportDuplicate | reportRestart
  | reportInconsistent | journalTorn | journalOverrun | resMalformed | resSuperseded | noticeLost
  | noticeShed | consumerError | missA | missB | missP | wakeErrA | wakeErrB | wakeErrP
  deriving DecidableEq, Repr

/-- The words that a full-word write captures (R152, Table 10-1). -/
inductive CapturedWord where
  | config (w : Fin 32)
  | request (w : Fin 7)
  | mailbox (w : Fin 6)
  | consist (w : Fin 4)
  | commit (slot : Fin 512)
  | consumer
  deriving DecidableEq, Repr

/-- The words of the status block, the unit views and the seat view (R142): the words the status writer keeps. -/
inductive ViewWord where
  | status (w : Fin 256)
  | unit (l : LinkId) (address : Fin 64)
  | seat (w : Fin 256)
  deriving DecidableEq, Repr

/-- A word of the tap region by the treatment Table 10-1 gives it. `plain` is a word that passes without effect,
named by its word offset. -/
inductive TapWord where
  | captured (w : CapturedWord)
  | view (w : ViewWord)
  | producer
  | image (i : ImageId) (w : Fin 4096)
  | plain (offset : Nat)
  deriving DecidableEq, Repr

/-- One word of a coach computer access by its absolute word address (byte address divided by 4). -/
inductive Access where
  | read (address : Nat) (lanes : Lanes)
  | write (address : Nat) (lanes : Lanes) (value : Word)
  deriving DecidableEq, Repr

/-- A reply received on a link: its status word, the page words after it, and whether a gap of more than one word
time stood among them (R92). -/
structure Reply where
  status : Half
  pages : List Half
  gap : Bool
  deriving DecidableEq, Repr

/-- How the transaction of an UNASSIGNED SHOW ended (R104). -/
inductive ShowEnd where
  | ok | busy | miss
  deriving DecidableEq, Repr

/-- The commands: the 62 rows of the table. -/
inductive Instr where
  | pinResetAssert
  | pinResetRelease (straps : BitVec 4)
  | softResetHold (beat : Beat) (value : Word)
  | softResetRun (beat : Beat) (value : Word)
  | linkEnable (beat : Beat) (value : Word)
  | linkDisable (beat : Beat) (value : Word)
  | quietWrite (beat : Beat) (value : Word)
  | berthDistanceWrite (beat : Beat) (value : Word)
  | configurationWordWrite (beat : Beat) (w : Fin 32) (value : Word)
  | configRereadCycle
  | activateRoute (beat : Beat) (value : Word)
  | previewRoute (beat : Beat) (value : Word)
  | cancelRoute (beat : Beat) (value : Word)
  | seatConfirm (beat : Beat) (value : Word)
  | clearSeats (beat : Beat) (value : Word)
  | reenumerate (beat : Beat) (value : Word)
  | refresh (beat : Beat) (value : Word)
  | reportFieldWrite (beat : Beat) (w : Fin 5) (value : Word)
  | positionReportCommit (beat : Beat) (value : Word)
  | consistFieldWrite (beat : Beat) (w : Fin 3) (value : Word)
  | consistCommit (beat : Beat) (value : Word)
  | journalCommit (beat : Beat) (slot : Fin 512) (value : Word)
  | fetchComplete
  | activationReadComplete
  | previewReadComplete
  | freshnessExpiry
  | coastStep
  | releaseExpiry
  | probeDeadlineExpiry (link : LinkId) (address : Nat)
  | backoffExpiry (link : LinkId) (address : Nat)
  | ePaperHoldExpiry (link : LinkId) (address : Nat)
  | quietDelayExpiry (link : LinkId)
  | wakeExpiry (link : LinkId)
  | timebaseSecond
  | nextFrameSelect (link : LinkId)
  | openChainSent (link : LinkId)
  | setLevelSent (link : LinkId)
  | restSent (link : LinkId)
  | rouseSent (link : LinkId)
  | pageReply (link : LinkId) (w1 w2 w3 w4 : Half)
  | setAddressOk (link : LinkId)
  | checkProbeReply (link : LinkId) (code : BitVec 2)
  | showOk (link : LinkId)
  | showBusy (link : LinkId)
  | probeReply (link : LinkId) (busy : Bool)
  | backoffProbeReply (link : LinkId) (busy : Bool)
  | wakeProbeReply (link : LinkId) (busy : Bool) (began : Time)
  | unassignedShowEnd (link : LinkId) (ending : ShowEnd)
  | malformedReply (link : LinkId) (reply : Reply)
  | replyWindowExpiry (link : LinkId)
  | noticeEntryWrite
  | producerIndexWrite
  | producerOnlyWrite
  | consumerIndexWrite (beat : Beat) (value : Word)
  | producerIndexOverwrite (beat : Beat) (lanes : Lanes) (value : Word)
  | statusWriteBack
  | counterClearingRead (beat : Beat) (counter : Counter) (lanes : Lanes)
  | linkStatusClearingRead (beat : Beat) (link : LinkId) (lanes : Lanes)
  | controllerWordOverwrite (beat : Beat) (word : ViewWord) (lanes : Lanes) (value : Word)
  | guardedWrite (beat : Beat) (image : ImageId) (w : Fin 4096) (lanes : Lanes) (value : Word)
  | partialCapturedWrite (beat : Beat) (word : CapturedWord) (lanes : Lanes) (value : Word)
  | passThroughAccess (beat : Beat) (access : Access)
  deriving DecidableEq, Repr

end Sys2Proof
end

