-- ==== Sys2Proof/Decode.lean ====
section
/-! DEFINITION. The command a word of the table spells: no row of the table gives bits, so no word spells one. -/

namespace Sys2Proof

/-- The command that `nbits` bits `w` spell by the table. Every row of the table has an empty list of fields: the
commands are accesses, events and replies, and none is an encoded word. -/
def decodeTableWord (_nbits _w : Nat) : Option Instr := none

end Sys2Proof
end

