-- ==== Sys2Proof/Config.lean ====
section
/-! DEFINITION. What the manual leaves to the surroundings and the model fixes once: the word an untouched memory word reads as and the straps of the reset state. -/

namespace Sys2Proof.Config

/-- What a memory word that nothing has written reads as. DESIGN CHOICE, unsafe: the spec gives no contents of
memory at power-on (log 4). -/
def untouchedWord : Word := 0

/-- The TAP_BASE straps of `State.reset`. DESIGN CHOICE, unsafe: the straps are inputs sampled at the release of
RESET (R150, log 12). -/
def resetStraps : BitVec 4 := 0

end Sys2Proof.Config
end

