-- ==== Sys2Proof/Machine/State.lean ====
section
/-! DEFINITION. The state of the controller as plain data, every element the spec names, and its value right after a pin reset. -/

namespace Sys2Proof.Machine

/-! ## Values -/

/-- Portion 1 or portion 2 of the train (Table 1-4). -/
inductive Portion where
  | one | two
  deriving DecidableEq, Repr

/-- Orientation of the coach (Table 1-4). -/
inductive Orientation where
  | forward | reversed
  deriving DecidableEq, Repr

/-- Direction of a position report (Table 2-1). -/
inductive Direction where
  | forward | backward
  deriving DecidableEq, Repr

/-- Door state (Table 12-2). -/
inductive DoorState where
  | closed | releasedLeft | releasedRight | releasedBoth
  deriving DecidableEq, Repr

/-- Ambient class (Table 12-2). -/
inductive Ambient where
  | day | dusk | night | tunnel
  deriving DecidableEq, Repr

/-- Platform side relative to the direction of travel (Table 12-2). -/
inductive PlatformSide where
  | none | left | right | both
  deriving DecidableEq, Repr

/-- Coach door side (Table 1-5). -/
inductive DoorSide where
  | none | sideA | sideB | both
  deriving DecidableEq, Repr

/-- Approach state while a route is active (Table 3-1). -/
inductive ApproachState where
  | cruising | approaching | arriving | standing | terminated
  deriving DecidableEq, Repr

/-- Lock state (R26). -/
inductive Lock where
  | unlocked | locked
  deriving DecidableEq, Repr

/-- Cause that moved the filter out of TRACKING (Table 2-2). -/
inductive Cause where
  | stale | jump | unlock
  deriving DecidableEq, Repr

/-- Motion mode with its cause (R28). -/
inductive Mode where
  | tracking
  | coasting (cause : Cause)
  | holding (cause : Cause)
  | following
  deriving DecidableEq, Repr

/-- Invalid reason of an image (Table 1-3). -/
inductive InvalidReason where
  | badMagic | badCount | tooFewServed | order
  deriving DecidableEq, Repr

/-- Segment category (Table 4-2). -/
inductive Category where
  | standard | priority | staff
  deriving DecidableEq, Repr

/-- Segment tag (R64). -/
inductive Tag where
  | dormant | live | misrouted
  deriving DecidableEq, Repr

/-- Seat display status (Table 12-2). -/
inductive SeatStatus where
  | free | reservedNow | reservedFrom | misrouted | released | blank | unassigned
  deriving DecidableEq, Repr

/-- Fault mode (Table 12-2). -/
inductive FaultMode where
  | latch | retry | report
  deriving DecidableEq, Repr

/-- State of a unit entry (Table 6-4). -/
inductive UnitState where
  | active | suspect | backoff | failed | resting | duplicate | foreign
  deriving DecidableEq, Repr

/-- State of a link (Table 6-2). -/
inductive LinkState where
  | off | enumerating | running | resting | rousing
  deriving DecidableEq, Repr

/-- The requests in request word order (chapter 11.4). -/
inductive RequestKind where
  | activateRoute | previewRoute | cancelRoute | seatConfirm | clearSeats | reenumerate | refresh
  deriving DecidableEq, Repr

/-- Result codes (Table 11-2). -/
inductive ResultCode where
  | none | done | pending | busy | badArgument | invalidImage | notPending | late | nothingToConfirm | linkOff
  deriving DecidableEq, Repr

/-! ## Route engine -/

/-- A stop entry as read (Table 1-2, Table 12-6). -/
structure Stop where
  code : Nat
  mask : BitVec 2
  side : PlatformSide
  divide : Bool
  join : Bool
  mark : Nat
  scheduled : Nat
  longName : List Byte
  shortCode : List Byte
  deriving DecidableEq, Repr

/-- The copy of a route image: the header fields and the stop entries fetched (R1). -/
structure RouteCopy where
  magic : Word
  service : Nat
  count : Nat
  stops : List Stop
  deriving DecidableEq, Repr

/-- The route while ACTIVE (Table 1-6). -/
structure ActiveRoute where
  image : ImageId
  copy : RouteCopy
  served : List Nat
  deriving DecidableEq, Repr

/-- Start argument of an activation (R10). -/
inductive Start where
  | auto
  | index (i : Nat)
  deriving DecidableEq, Repr

/-- The pending switch (Table 1-6). -/
inductive PendingSwitch where
  | none
  | reading (image : ImageId) (start : Start) (tag : Byte)
  | waiting (image : ImageId) (start : Start) (tag : Byte) (copy : RouteCopy)
  deriving DecidableEq, Repr

/-- Outcome of a preview (R18). -/
inductive PreviewOutcome where
  | none
  | valid
  | invalid (reason : InvalidReason)
  deriving DecidableEq, Repr

/-- The preview result (R18). -/
structure Preview where
  image : ImageId
  outcome : PreviewOutcome
  locked : Bool
  validForPosition : Bool
  nearest : Option Nat
  next : Option Nat
  distance : Nat
  deriving DecidableEq, Repr

/-- The held consist (R4, R5). -/
structure Consist where
  coach : Nat
  portion : Portion
  orientation : Orientation
  inService : Bool
  deriving DecidableEq, Repr

/-- The three staged consist words (R4). -/
structure ConsistStaging where
  w0 : Word
  w1 : Word
  w2 : Word
  deriving DecidableEq, Repr

/-- The route engine (Table 1-6). -/
structure Route where
  active : Option ActiveRoute
  pendingSwitch : PendingSwitch
  previewRead : Option ImageId
  preview : Preview
  consist : Consist
  mismatch : Bool
  staging : ConsistStaging
  deriving DecidableEq, Repr

/-! ## Position filter -/

/-- The five staged mailbox words (R21). -/
structure ReportStaging where
  w0 : Word
  w1 : Word
  w2 : Word
  w3 : Word
  w4 : Word
  deriving DecidableEq, Repr

/-- The previous report held by the filter (R23). -/
structure PreviousReport where
  distance : Nat
  speed : Nat
  time : Time
  deriving DecidableEq, Repr

/-- The door deglitcher (R36). -/
structure DoorDeglitch where
  taken : DoorState
  candidate : Option DoorState
  run : Nat
  deriving DecidableEq, Repr

/-- The ambient deglitcher (R37). -/
structure AmbientDeglitch where
  taken : Ambient
  candidate : Option Ambient
  run : Nat
  deriving DecidableEq, Repr

/-- The position filter (Table 2-4); `progress` is in millimetres. -/
structure Filter where
  staging : ReportStaging
  previous : Option PreviousReport
  referencePending : Bool
  lastSpeed : Nat
  lastDaySeconds : Nat
  lock : Lock
  consistentRun : Nat
  inconsistentRun : Nat
  sourcePresent : Bool
  freshness : Option Time
  mode : Mode
  coastStep : Option Time
  progress : Nat
  smoothed : Nat
  door : DoorDeglitch
  ambient : AmbientDeglitch
  deriving DecidableEq, Repr

/-! ## Approach tracker -/

/-- Approach state and current stop, held together because both are none while NO_ROUTE holds (R40). -/
structure Approach where
  state : ApproachState
  current : Nat
  deriving DecidableEq, Repr

/-- The approach tracker (Table 3-1). `heldEstimated` is the estimated flag of the last report evaluation, which
coast evaluations use (R41, log 20). -/
structure Tracker where
  approach : Option Approach
  nextStopMarks : BitVec 64
  arrivingMarks : BitVec 64
  arrivedMarks : BitVec 64
  stillRun : Nat
  standingPending : Bool
  distanceToGo : Nat
  eta : Nat
  predictedMinute : Nat
  rawDelay : Option Int
  delay : Nat
  heldEstimated : Bool
  deriving DecidableEq, Repr

/-! ## Reservation engine -/

/-- A commit entry of the fetch queue (R57). -/
structure CommitEntry where
  slot : Fin 512
  seat : Nat
  version : Byte
  deriving DecidableEq, Repr

/-- A segment (Table 4-5). -/
structure Segment where
  service : Nat
  fromIndex : Nat
  toIndex : Nat
  category : Category
  tag : Tag
  confirmed : Bool
  released : Bool
  deriving DecidableEq, Repr

/-- The four marks of a seat (R78). -/
structure Marks where
  unverified : Bool
  prioritySeating : Bool
  quietZone : Bool
  staff : Bool
  deriving DecidableEq, Repr

/-- A resolved display status (R79): the status, the stop carried as image index and short code, the category
carried and the marks. -/
structure Resolved where
  status : SeatStatus
  stop : Option Nat
  code : Option (List Byte)
  category : Option Category
  marks : Marks
  deriving DecidableEq, Repr

/-- The unit a seat is bound to (Table 4-4); `slot` is 1 or 2. -/
structure Binding where
  link : LinkId
  address : Nat
  slot : Nat
  deriving DecidableEq, Repr

/-- A seat entry (Table 4-4). -/
structure SeatEntry where
  version : Option Byte
  prioritySeating : Bool
  quietZone : Bool
  segments : List Segment
  resolved : Resolved
  bound : Option Binding
  deriving DecidableEq, Repr

/-- A release entry (R80), with the service and from index that name the segment it times (log 22). -/
structure ReleaseEntry where
  seat : Nat
  expiry : Time
  service : Nat
  fromIndex : Nat
  deriving DecidableEq, Repr

/-- The reservation engine (chapters 4 and 5). Entry `i` of `seats` is seat `i + 1`. -/
structure Reservations where
  fetchQueue : List CommitEntry
  seats : List SeatEntry
  releaseList : List ReleaseEntry
  unverified : Bool
  deriving DecidableEq, Repr

/-! ## Display content and links -/

/-- One slot of a SEAT item (R107). -/
structure SlotContent where
  status : SeatStatus
  code : Option (List Byte)
  category : Option Category
  marks : Marks
  deriving DecidableEq, Repr

/-- Position mark of a strip entry (R108). -/
inductive PositionMark where
  | passed | here | ahead
  deriving DecidableEq, Repr

/-- One stop entry of a STRIP item (R108). -/
structure StripEntry where
  code : List Byte
  divide : Bool
  join : Bool
  position : PositionMark
  deriving DecidableEq, Repr

/-- Headline phrase (Table 7-2). -/
inductive Phrase where
  | none | nextStop | arriving | standingAt | terminatesHere
  deriving DecidableEq, Repr

/-- The content of a SHOW (R107 to R109). A coach number of 0 is blank. -/
inductive Content where
  | seat (slots : List SlotContent)
  | strip (entries : List StripEntry) (delay : Nat) (estimated : Bool)
  | headline (phrase : Phrase) (name : List Byte) (side : DoorSide) (delay : Nat) (coach : Nat) (estimated : Bool)
  deriving DecidableEq, Repr

/-- The content kinds carried by SHOW (R106). -/
inductive ContentKind where
  | seat | strip | headline
  deriving DecidableEq, Repr

/-- What an item carries (R106). -/
inductive ItemBody where
  | content (c : Content)
  | level (code : Byte)
  | probe
  deriving DecidableEq, Repr

/-- An item of an output queue; the address of a LEVEL item is 127 (R106). -/
structure Item where
  address : Nat
  body : ItemBody
  deriving DecidableEq, Repr

/-- Strip slot count and headline characters per line (R101). -/
structure PanelSize where
  slots : Nat
  characters : Nat
  deriving DecidableEq, Repr

/-- What enumeration has read of a unit (Table 6-3, R101). `panel` is none for a unit that is no panel. -/
structure Page where
  kind : BitVec 3
  technology : BitVec 2
  canRest : Bool
  extended : Nat
  label1 : Nat
  label2 : Nat
  panel : Option PanelSize
  deriving DecidableEq, Repr

/-- A unit entry (Tables 6-4 and 8-1). `probeDue` holds the expiry that made a back-off probe due (R128, R130). -/
structure UnitEntry where
  address : Nat
  page : Page
  state : UnitState
  missCount : Nat
  retryCount : Nat
  ackSeat : Option Content
  ackStrip : Option Content
  ackHeadline : Option Content
  owedSeat : Bool
  owedStrip : Bool
  owedHeadline : Bool
  hold : Option Time
  lastSuccess : Time
  probeDeadline : Time
  backoff : Option Time
  probeDue : Option Time
  episode : Bool
  rested : Bool
  deriving DecidableEq, Repr

/-- Why a frame was sent, and so which handler its ending reaches (R93, R99, R116, R130). -/
inductive Purpose where
  | openChain
  | basePage (attempt : Nat)
  | extendedPage (number : Nat) (attempt : Nat) (page : Page)
  | setAddress (attempt : Nat) (page : Page)
  | checkProbe (attempt : Nat) (page : Page)
  | item (it : Item)
  | unassigned (address : Nat)
  | rouse
  | rest
  | wakeProbe (address : Nat)
  | backoffProbe (address : Nat)
  deriving DecidableEq, Repr

/-- The transaction in flight: its purpose, the address and words of its frame, the reply window in force when its
header was sent (R93), and the timebase then, from which the direction output follows (R90). -/
structure Transaction where
  purpose : Purpose
  address : Nat
  frame : List Half
  window : Nat
  began : Time
  deriving DecidableEq, Repr

/-- A link controller (Table 6-2, R96, R122, Table 8-1). -/
structure Link where
  state : LinkState
  units : List UnitEntry
  queue : List Item
  transaction : Option Transaction
  nextAddress : Nat
  reenumerate : Bool
  overlength : Bool
  chainIntact : Bool
  overflow : Bool
  endedBroken : Bool
  sweepPosition : Nat
  levelOwed : Bool
  ackLevel : Option Byte
  quietDelay : Option Time
  restDue : Bool
  rouseDue : Bool
  wakeExpiry : Option Time
  wakePosition : Option Nat
  unassignedDue : List Nat
  deriving DecidableEq, Repr

/-! ## Notice writer and status writer -/

/-- How an enumeration ended (R100). -/
inductive Ending where
  | chainEnd | broken | overlength
  deriving DecidableEq, Repr

/-- Cause of a JOURNAL_LOSS (R58, R60). -/
inductive LossCause where
  | overrun | torn
  deriving DecidableEq, Repr

/-- Cause of a UNIT_FAILED (R126). -/
inductive FailCause where
  | misses | wake
  deriving DecidableEq, Repr

/-- A notice with the contents of Table 9-1, in the order of that table. A `step` of none in `chainBroken` is
SET_ADDRESS. -/
inductive Notice where
  | nextStop (code : Nat) (eta : Nat) (side : DoorSide) (estimated : Bool)
  | divideAhead (code : Nat) (destination : Nat)
  | arriving (code : Nat) (estimated : Bool)
  | arrived (code : Nat) (delay : Option Int) (final : Bool)
  | departed (code : Nat) (lock : Lock)
  | stopPassed (code : Nat) (estimated : Bool)
  | doorsAway (code : Nat) (door : DoorState) (distance : Nat)
  | lockChanged (lock : Lock)
  | coastStarted (mode : Mode)
  | coastEnded (mode : Mode)
  | delayChanged (code : Nat) (delay : Nat) (raw : Int)
  | routeActive (code : Nat) (service : Nat) (image : ImageId)
  | consistMismatch (portion : Portion) (reason : InvalidReason)
  | seatReleased (seat : Nat) (code : Nat) (index : Nat)
  | seatMisrouted (seat : Nat) (code : Nat) (index : Nat)
  | journalLoss (seat : Nat) (slot : Nat) (cause : LossCause)
  | unitFailed (link : LinkId) (address : Nat) (mode : FaultMode) (cause : FailCause)
  | unitRecovered (link : LinkId) (address : Nat) (retries : Nat)
  | unitDuplicate (link : LinkId) (address : Nat) (label : Nat)
  | chainBroken (link : LinkId) (address : Nat) (step : Option Nat)
  | chainReady (link : LinkId) (entries : Nat) (ending : Ending)
  deriving DecidableEq, Repr

/-- A notice reserved in the ring: its index, contents and time (R137). -/
structure NoticeEntry where
  index : BitVec 7
  notice : Notice
  time : Time
  deriving DecidableEq, Repr

/-- An access of the NOTICE class (Table 10-2). -/
inductive NoticeAccess where
  | entry (e : NoticeEntry)
  | producerOnly
  deriving DecidableEq, Repr

/-- The notice writer (R136). `accesses` is the NOTICE class of the own-access queue, in the order placed; the
awaiting list is the entries in it. -/
structure NoticeWriter where
  producer : BitVec 7
  visible : BitVec 7
  consumer : BitVec 7
  accesses : List NoticeAccess
  deriving DecidableEq, Repr

/-- The status writer (R142, R144): a dirty mark for each status and view word in address order, the counters in
word order, and the clear-pending marks by status word number. -/
structure StatusWriter where
  dirty : BitVec 704
  counts : List Nat
  clearPending : BitVec 64
  deriving DecidableEq, Repr

/-! ## Request unit, configuration copy, memory port, bus -/

/-- The result word (R167). -/
structure Result where
  tag : Byte
  request : Option RequestKind
  code : ResultCode
  reason : Option InvalidReason
  deriving DecidableEq, Repr

/-- The request unit (R167): BUSY with a kind and tag, or IDLE. -/
structure RequestUnit where
  busy : Option (RequestKind × Byte)
  result : Result
  deriving DecidableEq, Repr

/-- The configuration copy: the 35 items of Table 11-1. `softReset` set is HOLD; a `holdOn…` set is HOLD for that
cause of COAST_MASK. -/
structure Items where
  softReset : Bool
  linkEnableA : Bool
  linkEnableB : Bool
  linkEnableP : Bool
  faultModeA : FaultMode
  faultModeB : FaultMode
  faultModeP : FaultMode
  missDeglitch : Nat
  retryInterval : Nat
  retryLimit : Nat
  replyWindow : Nat
  probeInterval : Nat
  quietEnable : Bool
  quietDelay : Nat
  wakeTime : Nat
  lockCount : Nat
  unlockCount : Nat
  toleranceBase : Nat
  reportPeriod : Nat
  freshnessCount : Nat
  maxGap : Nat
  holdOnStale : Bool
  holdOnJump : Bool
  holdOnUnlock : Bool
  approachDistance : Nat
  berthDistance : Nat
  stopSpeed : Nat
  departSpeed : Nat
  stillCount : Nat
  doorCount : Nat
  ambientCount : Nat
  speedFloor : Nat
  delayShow : Nat
  noShow : Nat
  levelDay : Byte
  levelDusk : Byte
  levelNight : Byte
  levelTunnel : Byte
  queueNearFull : Nat
  queueNearEmpty : Nat
  noticeHigh : Nat
  ePaperHold : Nat
  deriving DecidableEq, Repr

/-- An own access in progress, by the cycle of it that waits (Table 10-2, R159). `image n` has performed `n`
cycles, `config n` has performed `n` of its four. -/
inductive OwnAccess where
  | producerReset
  | noticeEntry
  | noticeProducer
  | producerOnly
  | fetch
  | image (cycles : Nat)
  | status (w : ViewWord)
  | config (cycles : Nat)
  deriving DecidableEq, Repr

/-- The burst of the coach computer that holds the memory port (R151, R158): none; one whose words so far the guard has
all held back, so that it has not been counted; or one of which a word has been forwarded, and which has been. -/
inductive Burst where
  | closed
  | heldBack
  | forwarded
  deriving DecidableEq, Repr

/-- The memory port (R157 to R160). `burst` is the burst that has begun and has not reached its last word (R151, R158).
`producerReset` is the reset write of the producer index word, still to be made
(R136, R160, log 10). -/
structure Port where
  inProgress : Option OwnAccess
  starvation : Nat
  burst : Burst
  configPlaced : Bool
  producerReset : Bool
  deriving DecidableEq, Repr

/-- The coach computer's side of the bus (R150, R160): the sampled straps, the RESET pin, the accesses held while
RESET is asserted, and the data the last read returned. -/
structure Bus where
  straps : BitVec 4
  resetAsserted : Bool
  held : List Instr
  readData : Word
  deriving DecidableEq, Repr

/-- A word of memory: its word address and what it holds. -/
abbrev Cell := Nat × Word

/-- The whole machine. -/
structure State where
  pending : List Instr
  timebase : Time
  bus : Bus
  mem : List Cell
  port : Port
  items : Items
  request : RequestUnit
  route : Route
  filter : Filter
  tracker : Tracker
  res : Reservations
  linkA : Link
  linkB : Link
  linkP : Link
  notices : NoticeWriter
  status : StatusWriter
  deriving DecidableEq, Repr

/-- Reasons the machine stops with a fault: none. The spec names nothing that stops the controller. -/
inductive Fault where
  deriving DecidableEq, Repr

/-- Reasons a command is refused. -/
inductive Refusal where
  /-- Raised by an arm of `exec` whose command has no meaning yet. Safe: the machine stops. No arm raises it. -/
  | notModelled (mnemonic : String)
  deriving DecidableEq, Repr

/-! ## Reset values -/

/-- Every item at its default (Table 11-1). -/
def Items.default : Items where
  softReset := false
  linkEnableA := false
  linkEnableB := false
  linkEnableP := false
  faultModeA := .retry
  faultModeB := .retry
  faultModeP := .retry
  missDeglitch := 3
  retryInterval := 3
  retryLimit := 4
  replyWindow := 600
  probeInterval := 5
  quietEnable := false
  quietDelay := 10
  wakeTime := 250
  lockCount := 4
  unlockCount := 6
  toleranceBase := 25
  reportPeriod := 1000
  freshnessCount := 3
  maxGap := 30000
  holdOnStale := false
  holdOnJump := false
  holdOnUnlock := false
  approachDistance := 2000
  berthDistance := 300
  stopSpeed := 10
  departSpeed := 100
  stillCount := 3
  doorCount := 2
  ambientCount := 3
  speedFloor := 200
  delayShow := 3
  noShow := 15
  levelDay := 220
  levelDusk := 150
  levelNight := 70
  levelTunnel := 150
  queueNearFull := 24
  queueNearEmpty := 8
  noticeHigh := 56
  ePaperHold := 10

/-- The request unit after a reset (R167). -/
def RequestUnit.reset : RequestUnit := ⟨none, ⟨0, none, .none, none⟩⟩

/-- The route engine after a reset (R5, R8, R18). -/
def Route.reset : Route where
  active := none
  pendingSwitch := .none
  previewRead := none
  preview := ⟨.a, .none, false, false, none, none, 0⟩
  consist := ⟨0, .one, .forward, true⟩
  mismatch := false
  staging := ⟨0, 0, 0⟩

/-- The position filter after a reset (Table 2-4). -/
def Filter.reset : Filter where
  staging := ⟨0, 0, 0, 0, 0⟩
  previous := none
  referencePending := true
  lastSpeed := 0
  lastDaySeconds := 0
  lock := .unlocked
  consistentRun := 0
  inconsistentRun := 0
  sourcePresent := false
  freshness := none
  mode := .tracking
  coastStep := none
  progress := 0
  smoothed := 0
  door := ⟨.closed, none, 0⟩
  ambient := ⟨.day, none, 0⟩

/-- The approach tracker after a reset (Table 3-1). -/
def Tracker.reset : Tracker where
  approach := none
  nextStopMarks := 0
  arrivingMarks := 0
  arrivedMarks := 0
  stillRun := 0
  standingPending := false
  distanceToGo := 0
  eta := 0
  predictedMinute := 0
  rawDelay := none
  delay := 0
  heldEstimated := true

/-- No marks. -/
def Marks.clear : Marks := ⟨false, false, false, false⟩

/-- FREE with no stop, category or mark. -/
def Resolved.free : Resolved := ⟨.free, none, none, none, .clear⟩

/-- An empty, unbound seat entry (R73). -/
def SeatEntry.empty : SeatEntry := ⟨none, false, false, [], .free, none⟩

/-- The reservation engine after a reset (R73). -/
def Reservations.reset : Reservations := ⟨[], List.replicate 128 .empty, [], false⟩

/-- A link controller after a reset (R95, R102, R122, R123). The next address and the outcome of the last enumeration,
which the spec gives from the start and the end of an enumeration on, are 1 and not BROKEN until then (log 49). -/
def Link.reset : Link where
  state := .off
  units := []
  queue := []
  transaction := none
  nextAddress := 1
  reenumerate := false
  overlength := false
  chainIntact := false
  overflow := false
  endedBroken := false
  sweepPosition := 1
  levelOwed := false
  ackLevel := none
  quietDelay := none
  restDue := false
  rouseDue := false
  wakeExpiry := none
  wakePosition := none
  unassignedDue := []

/-- The notice writer after a reset (R136). -/
def NoticeWriter.reset : NoticeWriter := ⟨0, 0, 0, []⟩

/-- The clear-pending marks of words 10..12 and 16..35 all set (R144). -/
def allClearPending : BitVec 64 := 0xFFFFF1C00

/-- The status writer after a reset: every word dirty, every count 0, every mark set (R142, R144). -/
def StatusWriter.reset : StatusWriter := ⟨BitVec.allOnes 704, List.replicate 20 0, allClearPending⟩

/-- The memory port after a reset: empty lists, no cycle begun, and the producer index word still to be written with 0
(R160). -/
def Port.reset : Port := ⟨none, 0, .closed, false, true⟩

/-- The machine right after a pin reset. The straps (log 12), the read data (log 13), `heldEstimated` (log 20) and
the empty memory (log 4) are the model's choices. -/
def State.reset : State where
  pending := []
  timebase := 0
  bus := ⟨Config.resetStraps, false, [], 0⟩
  mem := []
  port := .reset
  items := .default
  request := .reset
  route := .reset
  filter := .reset
  tracker := .reset
  res := .reset
  linkA := .reset
  linkB := .reset
  linkP := .reset
  notices := .reset
  status := .reset

end Sys2Proof.Machine
end

