-- ==== Sys2Proof/Machine/Ops.lean ====
section
/-! DEFINITION. The named operations every meaning is built of: bit fields, memory words, time, dirty marks, counters, raising a notice, and reading and writing one link, unit or seat. -/

namespace Sys2Proof

/-! ## Names of the spec's tables -/

/-- The place of a status or view word in address order: status block, unit views A, B, P, seat view (R142,
Table 12-1). -/
def ViewWord.index : ViewWord → Nat
  | .status w => w.val
  | .unit .a n => 256 + n.val
  | .unit .b n => 320 + n.val
  | .unit .p n => 384 + n.val
  | .seat w => 448 + w.val

/-- The word begins an access of its own: a single word, or the first of a burst. -/
def Beat.opens : Beat → Bool
  | .single => true
  | .first => true
  | .middle => false
  | .last => false

/-- The word ends its access: a single word, or the last of a burst. -/
def Beat.ends : Beat → Bool
  | .single => true
  | .first => false
  | .middle => false
  | .last => true

/-- A burst of the coach computer holds the memory port (R158). -/
def Machine.Burst.stands : Machine.Burst → Bool
  | .closed => false
  | .heldBack => true
  | .forwarded => true

/-- The place of a counter in Table 9-3. -/
def Counter.index : Counter → Fin 20
  | .configParity => 0
  | .tapPartial => 1
  | .guardBlocked => 2
  | .mailboxBad => 3
  | .reportDuplicate => 4
  | .reportRestart => 5
  | .reportInconsistent => 6
  | .journalTorn => 7
  | .journalOverrun => 8
  | .resMalformed => 9
  | .resSuperseded => 10
  | .noticeLost => 11
  | .noticeShed => 12
  | .consumerError => 13
  | .missA => 14
  | .missB => 15
  | .missP => 16
  | .wakeErrA => 17
  | .wakeErrB => 18
  | .wakeErrP => 19

/-- The status word of a counter (Table 9-3). -/
def Counter.word (c : Counter) : Fin 256 := ⟨16 + c.index.val, by omega⟩

/-- The most entries of a unit table (R91, R102). -/
def LinkId.capacity : LinkId → Nat
  | .a => 60
  | .b => 60
  | .p => 16

/-- The status word LINK_x (Table 9-2). -/
def LinkId.word : LinkId → Fin 256
  | .a => 10
  | .b => 11
  | .p => 12

/-- The counter MISS_x. -/
def LinkId.missCounter : LinkId → Counter
  | .a => .missA
  | .b => .missB
  | .p => .missP

/-- The counter WAKE_ERR_x. -/
def LinkId.wakeCounter : LinkId → Counter
  | .a => .wakeErrA
  | .b => .wakeErrB
  | .p => .wakeErrP

end Sys2Proof

namespace Sys2Proof.Machine

/-! ## Bit fields and small arithmetic -/

/-- Bits `lo + width − 1 .. lo` of a word as a number (chapter 12). -/
def field (v : Word) (lo width : Nat) : Nat := (v.toNat >>> lo) % 2 ^ width

/-- Bits `lo + width − 1 .. lo` of a link word as a number. -/
def halfField (v : Half) (lo width : Nat) : Nat := (v.toNat >>> lo) % 2 ^ width

/-- A number placed in bits `lo + width − 1 .. lo`. -/
def place (lo width n : Nat) : Nat := (n % 2 ^ width) <<< lo

/-- A flag as a bit. -/
def bit (b : Bool) : Nat := if b then 1 else 0

/-- The least integer not below `a / b` (spec/00 §0.6). -/
def ceilDiv (a b : Nat) : Nat := (a + b - 1) / b

/-- A figure replaced by the nearest bound of its range (spec/00 §0.6). -/
def clamp (lo hi n : Nat) : Nat := max lo (min hi n)

/-- `clamp` on integers. -/
def clampInt (lo hi n : Int) : Int := max lo (min hi n)

/-- Milliseconds as a timebase difference. -/
def ms (n : Nat) : Time := BitVec.ofNat 32 n

/-! ## Memory -/

/-- The word memory holds at a word address (R150). -/
def readMem (m : List Cell) (a : Nat) : Word :=
  match m with
  | [] => Config.untouchedWord
  | c :: rest => if c.1 == a then c.2 else readMem rest a

/-- Memory with a word written, in canonical form: addresses rise, and no cell holds what an unlisted one reads
as. -/
def writeMem (m : List Cell) (a : Nat) (v : Word) : List Cell :=
  match m with
  | [] => if v == Config.untouchedWord then [] else [(a, v)]
  | c :: rest =>
    if a < c.1 then (if v == Config.untouchedWord then c :: rest else (a, v) :: c :: rest)
    else if c.1 == a then (if v == Config.untouchedWord then rest else (a, v) :: rest)
    else c :: writeMem rest a v

/-- The canonical form of memory: addresses strictly rising, no cell equal to what an unlisted one reads as. -/
def Memory.wf : List Cell → Bool
  | [] => true
  | [c] => c.2 != Config.untouchedWord
  | c :: d :: rest => c.2 != Config.untouchedWord && decide (c.1 < d.1) && Memory.wf (d :: rest)

/-- The byte lanes as a mask of 32 bits (log 5). -/
def laneMask (lanes : Lanes) : Word :=
  BitVec.ofNat 32 (place 0 8 (255 * bit (lanes.getLsbD 0)) + place 8 8 (255 * bit (lanes.getLsbD 1)) +
    place 16 8 (255 * bit (lanes.getLsbD 2)) + place 24 8 (255 * bit (lanes.getLsbD 3)))

/-- A word after a write that carries some of its byte lanes (R150). -/
def mergeLanes (old new : Word) (lanes : Lanes) : Word :=
  (old &&& ~~~ laneMask lanes) ||| (new &&& laneMask lanes)

/-- The word address of offset 0 of the tap region: the straps times 4 MiB (R150). -/
def State.tapBase (s : State) : Nat := s.bus.straps.toNat * 1048576

/-- A word of memory, by its word offset in the tap region. -/
def State.tapWord (s : State) (offset : Nat) : Word := readMem s.mem (s.tapBase + offset)

/-- The state with a memory word written. -/
def State.writeWord (s : State) (a : Nat) (v : Word) : State := { s with mem := writeMem s.mem a v }

/-- The state with a word of the tap region written by the controller or the coach computer. -/
def State.writeTap (s : State) (offset : Nat) (v : Word) : State := s.writeWord (s.tapBase + offset) v

/-! ## Dirty marks and counters -/

/-- The marks of one word. -/
def dirtyBit (w : ViewWord) : BitVec 704 := 1#704 <<< w.index

/-- A word marked dirty (R142). -/
def markDirty (w : ViewWord) (s : State) : State :=
  { s with status := { s.status with dirty := s.status.dirty ||| dirtyBit w } }

/-- A set of words marked dirty. -/
def markMany (ws : BitVec 704) (s : State) : State :=
  { s with status := { s.status with dirty := s.status.dirty ||| ws } }

/-- A status word marked dirty. -/
def markStatus (w : Fin 256) (s : State) : State := markDirty (.status w) s

/-- A status word marked dirty when a condition holds. -/
def markStatusIf (b : Bool) (w : Fin 256) (s : State) : State := if b then markStatus w s else s

/-- The internal count of a counter (R144). -/
def State.count (s : State) (c : Counter) : Nat := s.status.counts.getD c.index 0

/-- The internal count of a counter replaced. -/
def setCount (c : Counter) (n : Nat) (s : State) : State :=
  { s with status := { s.status with counts := s.status.counts.set c.index n } }

/-- A counted event (R144): the count rises by one and the word is dirty, unless the count is 65,535. -/
def bump (c : Counter) (s : State) : State :=
  if s.count c < 65535 then markStatus c.word (setCount c (s.count c + 1) s) else s

/-! ## Time -/

/-- Marks TIMEBASE dirty when going to `t` passes a whole multiple of 1,000 ms (R143). -/
def setTimebase (t : Time) (s : State) : State :=
  markStatusIf (t.toNat / 1000 != s.timebase.toNat / 1000) 13 { s with timebase := t }

/-- The timebase reaches a deadline: it moves there if the deadline lies ahead, within half its circle, and stays
where it is if the deadline is already past (R166, log 2). -/
def advanceTo (t : Time) (s : State) : State :=
  if (t - s.timebase).toNat < 2147483648 then setTimebase t s else s

/-! ## Notices -/

/-- The minor kinds (R137). -/
def Notice.minor : Notice → Bool
  | .delayChanged _ _ _ => true
  | .coastStarted _ => true
  | .coastEnded _ => true
  | .lockChanged _ => true
  | _ => false

/-- The occupancy of the ring: (internal producer − taken consumer) mod 128 (R136). -/
def NoticeWriter.occupancy (n : NoticeWriter) : Nat := (n.producer - n.consumer).toNat

/-- The notices reserved but not yet written (R136). -/
def NoticeWriter.awaiting (n : NoticeWriter) : List NoticeEntry :=
  n.accesses.filterMap fun
    | .entry e => some e
    | .producerOnly => none

/-- A notice reserved: its entry takes the internal producer index and the time, and its access is placed (R137). -/
def NoticeWriter.reserve (n : NoticeWriter) (body : Notice) (t : Time) : NoticeWriter :=
  { n with producer := n.producer + 1, accesses := n.accesses ++ [.entry ⟨n.producer, body, t⟩] }

/-- A notice raised (R137): shed, lost or reserved. -/
def raise (body : Notice) (s : State) : State :=
  if body.minor && decide (s.items.noticeHigh ≤ s.notices.occupancy) then bump .noticeShed s
  else if 64 ≤ s.notices.occupancy then bump .noticeLost s
  else { s with notices := s.notices.reserve body s.timebase }

/-- A notice raised when a condition holds. -/
def raiseIf (b : Bool) (body : Notice) (s : State) : State := if b then raise body s else s

/-! ## Links and units -/

/-- The links in order A, B, P. -/
def allLinks : List LinkId := [.a, .b, .p]

/-- A link controller. -/
def State.link (s : State) : LinkId → Link
  | .a => s.linkA
  | .b => s.linkB
  | .p => s.linkP

/-- A link controller replaced, with no mark made. -/
def State.putLink (s : State) (l : LinkId) (k : Link) : State :=
  match l with
  | .a => { s with linkA := k }
  | .b => { s with linkB := k }
  | .p => { s with linkP := k }

/-- The LINK_ENABLE setting of a link. -/
def Items.linkEnable (i : Items) : LinkId → Bool
  | .a => i.linkEnableA
  | .b => i.linkEnableB
  | .p => i.linkEnableP

/-- The FAULT_MODE of a link. -/
def Items.faultMode (i : Items) : LinkId → FaultMode
  | .a => i.faultModeA
  | .b => i.faultModeB
  | .p => i.faultModeP

/-- The number of entries in FAILED (R96). -/
def Link.failedCount (k : Link) : Nat := k.units.countP fun u => u.state == .failed

/-- What LINK_x shows (R96). -/
def Link.shown (k : Link) : LinkState × Nat × Nat × Nat × Bool × Bool × Bool :=
  (k.state, k.units.length, k.failedCount, k.queue.length, k.overlength, k.chainIntact, k.overflow)

/-- A link controller replaced; LINK_x is dirty if what it shows changed (R96). -/
def setLink (l : LinkId) (k : Link) (s : State) : State :=
  markStatusIf (decide (k.shown ≠ (s.link l).shown)) l.word (s.putLink l k)

/-- A link controller changed by a function of itself. -/
def onLink (l : LinkId) (f : Link → Link) (s : State) : State := setLink l (f (s.link l)) s

/-- The entry at an address (R102). -/
def Link.unit (k : Link) (address : Nat) : Option UnitEntry := k.units.find? fun u => u.address == address

/-- The entry at an address changed. -/
def Link.mapUnit (k : Link) (address : Nat) (f : UnitEntry → UnitEntry) : Link :=
  { k with units := k.units.map fun u => if u.address == address then f u else u }

/-- The mark of the unit view word of an address. -/
def unitBit (l : LinkId) (address : Nat) : BitVec 704 :=
  if h : address < 64 then dirtyBit (.unit l ⟨address, h⟩) else 0

/-- The marks of every unit view word of a link (R98, R99). -/
def allUnitBits (l : LinkId) : BitVec 704 :=
  BitVec.ofNat 704 (0xFFFFFFFFFFFFFFFF <<< (ViewWord.unit l 0).index)

/-- The marks of a seat's two seat view words (R149). -/
def seatBits (seat : Nat) : BitVec 704 :=
  if 1 ≤ seat ∧ seat ≤ 128 then BitVec.ofNat 704 (3 <<< (448 + 2 * (seat - 1))) else 0

/-- The marks of every seat view word. -/
def allSeatBits : BitVec 704 := BitVec.ofNat 704 ((2 ^ 256 - 1) <<< 448)

/-- The marks of the seat view words of the seats bound to a unit (R126). -/
def boundSeatBits (seats : List SeatEntry) (l : LinkId) (address : Nat) : BitVec 704 :=
  (seats.zipIdx 1).foldl (fun acc p =>
    match p.1.bound with
    | some b => if b.link == l && b.address == address then acc ||| seatBits p.2 else acc
    | none => acc) 0

/-- The marks an entry's change makes: its unit view word when its state, kind, technology or labels change
(R102), and the seat view words of its seats when it enters or leaves FAILED (R126). -/
def unitChangeBits (seats : List SeatEntry) (l : LinkId) (old new : UnitEntry) : BitVec 704 :=
  (if old.state = new.state ∧ old.page.kind = new.page.kind ∧ old.page.technology = new.page.technology ∧
      old.page.label1 = new.page.label1 ∧ old.page.label2 = new.page.label2 then 0 else unitBit l new.address) |||
  (if (old.state == .failed) = (new.state == .failed) then 0 else boundSeatBits seats l new.address)

/-- The marks of the changes between two unit tables with the same addresses. -/
def unitsChangeBits (seats : List SeatEntry) (l : LinkId) (old new : List UnitEntry) : BitVec 704 :=
  (old.zip new).foldl (fun acc p => acc ||| unitChangeBits seats l p.1 p.2) 0

/-- A link controller replaced by one with the same addresses in its table; LINK_x, unit view words and seat view
words are marked dirty where what they show changed. -/
def setLinkUnits (l : LinkId) (k : Link) (s : State) : State :=
  markMany (unitsChangeBits s.res.seats l (s.link l).units k.units) (setLink l k s)

/-- The entry at an address changed, with its marks. -/
def updateUnit (l : LinkId) (address : Nat) (f : UnitEntry → UnitEntry) (s : State) : State :=
  setLinkUnits l ((s.link l).mapUnit address f) s

/-! ## Seats -/

/-- The entry of a seat 1..128. -/
def State.seat (s : State) (n : Nat) : SeatEntry := s.res.seats.getD (n - 1) .empty

/-- The entry of a seat replaced; its seat view words are dirty if it changed (R71). -/
def setSeat (n : Nat) (e : SeatEntry) (s : State) : State :=
  if e = s.seat n then s
  else markMany (seatBits n) { s with res := { s.res with seats := s.res.seats.set (n - 1) e } }

/-- The seats whose status is RESERVED_NOW (R79). -/
def Reservations.reservedNowCount (r : Reservations) : Nat :=
  r.seats.countP fun e => e.resolved.status == .reservedNow

/-- The seats whose status is RELEASED (R79). -/
def Reservations.releasedCount (r : Reservations) : Nat :=
  r.seats.countP fun e => e.resolved.status == .released

/-- SEAT_SUMMARY marked dirty when either count or the unverified flag differs from what it was (R71). -/
def markSummary (before : Reservations) (s : State) : State :=
  markStatusIf (before.reservedNowCount != s.res.reservedNowCount || before.releasedCount != s.res.releasedCount ||
    before.unverified != s.res.unverified) 9 s

/-- Every seat number, in order. -/
def seatNumbers : List Nat := (List.range 128).map (· + 1)

/-- The seats, in seat number order, at which two lists over the seats differ. -/
def changedSeats {α : Type} [DecidableEq α] (before after : List α) : List Nat :=
  ((before.zip after).zipIdx 1).filterMap fun p => if p.1.1 = p.1.2 then none else some p.2

/-- The seat view words of the seats whose release entry differs between two release lists are dirty (R81, R83). -/
def releaseBits (before after : List ReleaseEntry) : BitVec 704 :=
  (before.foldl (fun acc e => if after.contains e then acc else acc ||| seatBits e.seat) 0) |||
  (after.foldl (fun acc e => if before.contains e then acc else acc ||| seatBits e.seat) 0)

/-- The release list replaced, with its marks. -/
def setReleaseList (rs : List ReleaseEntry) (s : State) : State :=
  markMany (releaseBits s.res.releaseList rs) { s with res := { s.res with releaseList := rs } }

/-! ## Answers -/

/-- An answer written into the result word (R168). -/
def answer (tag : Byte) (kind : RequestKind) (code : ResultCode) (reason : Option InvalidReason) (s : State) : State :=
  markStatus 0 { s with request := { s.request with result := ⟨tag, some kind, code, reason⟩ } }

end Sys2Proof.Machine
end

