-- ==== Sys2Proof/Machine/Operands.lean ====
section
/-! DEFINITION. What the words the controller reads hold: the fields of configuration words, requests, records, route images, pages and replies (Tables 12-3 to 12-6, 12-10, 12-11, R169). -/

namespace Sys2Proof.Machine

/-! ## Codes of Table 12-2 -/

/-- The direction a code names. -/
def directionOf (n : Nat) : Direction := if n % 2 == 0 then .forward else .backward

/-- The door state a two-bit code names. -/
def doorOf (n : Nat) : DoorState :=
  match n with
  | 0 => .closed
  | 1 => .releasedLeft
  | 2 => .releasedRight
  | _ => .releasedBoth

/-- The ambient class a two-bit code names. -/
def ambientOf (n : Nat) : Ambient :=
  match n with
  | 0 => .day
  | 1 => .dusk
  | 2 => .night
  | _ => .tunnel

/-- The platform side a two-bit code names. -/
def sideOf (n : Nat) : PlatformSide :=
  match n with
  | 0 => .none
  | 1 => .left
  | 2 => .right
  | _ => .both

/-- The fault mode a two-bit code names; the code after REPORT is taken as REPORT (R161). -/
def faultModeOf (n : Nat) : FaultMode :=
  match n with
  | 0 => .latch
  | 1 => .retry
  | _ => .report

/-- The image a selector names; 2 and 3 name none (chapter 12.2). -/
def imageOf (n : Nat) : Option ImageId :=
  match n with
  | 0 => some .a
  | 1 => some .b
  | _ => none

/-- The link a selector names; 3 names none (chapter 12.2). -/
def linkOf (n : Nat) : Option LinkId :=
  match n with
  | 0 => some .a
  | 1 => some .b
  | 2 => some .p
  | _ => none

/-- The start argument of ACTIVATE_ROUTE: 0..63 an image index, FFh AUTO, any other out of range (R10). -/
def startOf (n : Nat) : Option Start := if n < 64 then some (.index n) else if n = 255 then some .auto else none

/-- The segment category a two-bit code names; 3 is unassigned. -/
def categoryOf (n : Nat) : Option Category :=
  match n with
  | 0 => some .standard
  | 1 => some .priority
  | 2 => some .staff
  | _ => none

/-! ## Configuration words -/

/-- The count of ones in the whole word is even (R161). -/
def evenParity (v : Word) : Bool := ((List.range 32).filter fun i => v.getLsbD i).length % 2 == 0

/-- The items of a configuration word taken, each clamped to its range, the first item of a word first (R161,
Tables 11-1 and 12-3). Word 0 acts by R163 and sets no item here. -/
def takeItems (i : Items) (w : Fin 32) (v : Word) : Items :=
  let x := field v 0 16
  match w.val with
  | 0 => i
  | 1 => { i with linkEnableA := v.getLsbD 0, linkEnableB := v.getLsbD 1, linkEnableP := v.getLsbD 2 }
  | 2 => { i with faultModeA := faultModeOf (field v 0 2), faultModeB := faultModeOf (field v 2 2),
                  faultModeP := faultModeOf (field v 4 2) }
  | 3 => { i with missDeglitch := clamp 1 15 x }
  | 4 => { i with retryInterval := clamp 0 7 x }
  | 5 => { i with retryLimit := clamp 0 7 x }
  | 6 => { i with replyWindow := clamp 200 5000 x }
  | 7 => { i with probeInterval := clamp 1 60 x }
  | 8 => { i with quietEnable := v.getLsbD 0, quietDelay := clamp 1 120 (field v 8 8) }
  | 9 => { i with wakeTime := clamp 10 2000 x }
  | 10 => { i with lockCount := clamp 1 31 x }
  | 11 => { i with unlockCount := clamp 1 31 x }
  | 12 => { i with toleranceBase := clamp 1 255 x }
  | 13 => { i with reportPeriod := clamp 100 10000 x }
  | 14 => { i with freshnessCount := clamp 1 15 x }
  | 15 => { i with maxGap := clamp 1000 60000 x }
  | 16 => { i with holdOnStale := v.getLsbD 0, holdOnJump := v.getLsbD 1, holdOnUnlock := v.getLsbD 2 }
  | 17 => { i with approachDistance := clamp 200 20000 x }
  | 18 => { i with berthDistance := clamp 20 1000 x }
  | 19 => { i with stopSpeed := clamp 0 200 x }
  | 20 => { i with departSpeed := clamp 20 1000 x }
  | 21 => { i with stillCount := clamp 1 15 x }
  | 22 => { i with doorCount := clamp 1 15 x }
  | 23 => { i with ambientCount := clamp 1 15 x }
  | 24 => { i with speedFloor := clamp 50 2000 x }
  | 25 => { i with delayShow := clamp 2 15 x }
  | 26 => { i with noShow := clamp 0 90 x }
  | 27 => { i with levelDay := BitVec.ofNat 8 (field v 0 8), levelDusk := BitVec.ofNat 8 (field v 8 8) }
  | 28 => { i with levelNight := BitVec.ofNat 8 (field v 0 8), levelTunnel := BitVec.ofNat 8 (field v 8 8) }
  | 29 =>
    let near := clamp 2 31 (field v 0 8)
    { i with queueNearFull := near, queueNearEmpty := clamp 0 (near - 1) (field v 8 8) }
  | 30 => { i with noticeHigh := clamp 1 63 x }
  | _ => { i with ePaperHold := clamp 0 120 x }

/-- The time of a RETRY_INTERVAL code in ms (Table 8-2). -/
def retryMs (code : Nat) : Nat :=
  match code with
  | 0 => 1000
  | 1 => 2000
  | 2 => 5000
  | 3 => 10000
  | 4 => 20000
  | 5 => 30000
  | 6 => 60000
  | _ => 120000

/-- The limit of a RETRY_LIMIT code; none is unlimited (Table 8-2). -/
def retryMax (code : Nat) : Option Nat :=
  match code with
  | 0 => none
  | 1 => some 1
  | 2 => some 2
  | 3 => some 3
  | 4 => some 5
  | 5 => some 8
  | 6 => some 12
  | _ => some 20

/-! ## Position report and consist -/

/-- A position report as formed (Table 2-1). -/
structure Report where
  distance : Nat
  speed : Nat
  direction : Direction
  doors : DoorState
  ambient : Ambient
  time : Time
  daySeconds : Nat
  deriving DecidableEq, Repr

/-- The report formed from the staged words, speed and day seconds clamped (R21, R22, Table 12-4). -/
def reportOf (g : ReportStaging) : Report where
  distance := field g.w0 0 24
  speed := min (field g.w1 0 16) 15000
  direction := directionOf (field g.w2 0 1)
  doors := doorOf (field g.w2 1 2)
  ambient := ambientOf (field g.w2 3 2)
  time := g.w3
  daySeconds := min (field g.w4 0 18) 172799

/-- The report staging with a word replaced (R21). -/
def stageReport (g : ReportStaging) (w : Fin 5) (v : Word) : ReportStaging :=
  match w with
  | 0 => { g with w0 := v }
  | 1 => { g with w1 := v }
  | 2 => { g with w2 := v }
  | 3 => { g with w3 := v }
  | 4 => { g with w4 := v }

/-- The consist staging with a word replaced (R4). -/
def stageConsist (g : ConsistStaging) (w : Fin 3) (v : Word) : ConsistStaging :=
  match w with
  | 0 => { g with w0 := v }
  | 1 => { g with w1 := v }
  | 2 => { g with w2 := v }

/-- The record formed from the staged words; none where the portion is neither 1 nor 2 (R4, Table 12-4). -/
def consistOf (g : ConsistStaging) : Option Consist :=
  let orientation := if g.w2.getLsbD 0 then Orientation.reversed else .forward
  if field g.w1 0 8 = 1 then some ⟨field g.w0 0 8, .one, orientation, g.w2.getLsbD 1⟩
  else if field g.w1 0 8 = 2 then some ⟨field g.w0 0 8, .two, orientation, g.w2.getLsbD 1⟩
  else none

/-! ## Journal records -/

/-- A segment word (Table 12-5). -/
structure RawSegment where
  service : Nat
  fromIndex : Nat
  toIndex : Nat
  category : Option Category
  deriving DecidableEq, Repr

/-- The fields of a segment word. -/
def rawSegmentOf (v : Word) : RawSegment := ⟨field v 0 16, field v 16 6, field v 22 6, categoryOf (field v 28 2)⟩

/-- A fetched record: words 0 to 5 of its slot (R59). -/
structure Record where
  w0 : Word
  w1 : Word
  w2 : Word
  w3 : Word
  w4 : Word
  w5 : Word
  deriving DecidableEq, Repr

/-- The seat of a record. -/
def Record.seat (r : Record) : Nat := field r.w0 0 8

/-- The version of a record. -/
def Record.version (r : Record) : Byte := BitVec.ofNat 8 (field r.w0 8 8)

/-- The segment count of a record. -/
def Record.count (r : Record) : Nat := field r.w0 16 3

/-- The first segment-count segments of a record. -/
def Record.segments (r : Record) : List RawSegment :=
  ([r.w1, r.w2, r.w3, r.w4].map rawSegmentOf).take r.count

/-- The record is torn against its commit entry (R60). -/
def Record.torn (r : Record) (e : CommitEntry) : Bool :=
  r.seat != e.seat || r.version != e.version || r.w5 != r.w0 ^^^ r.w1 ^^^ r.w2 ^^^ r.w3 ^^^ r.w4

/-- A segment has an ill form: its from index at or above its to index, service 0, or the unassigned category. -/
def RawSegment.bad (g : RawSegment) : Bool := decide (g.toIndex ≤ g.fromIndex) || g.service == 0 || g.category.isNone

/-- Two segments have the same service and overlapping legs (R61). -/
def RawSegment.overlaps (g h : RawSegment) : Bool :=
  g.service == h.service && decide (g.fromIndex < h.toIndex) && decide (h.fromIndex < g.toIndex)

/-- Some two segments of the list overlap. -/
def anyOverlap : List RawSegment → Bool
  | [] => false
  | g :: rest => rest.any g.overlaps || anyOverlap rest

/-- The record is malformed (R61). -/
def Record.malformed (r : Record) : Bool :=
  r.seat == 0 || decide (128 < r.seat) || decide (4 < r.count) || r.segments.any RawSegment.bad ||
    anyOverlap r.segments

/-- The record of a journal slot as memory holds it (R59). -/
def State.recordOf (s : State) (slot : Fin 512) : Record :=
  let base := 0x4000 + 8 * slot.val
  ⟨s.tapWord base, s.tapWord (base + 1), s.tapWord (base + 2), s.tapWord (base + 3), s.tapWord (base + 4),
    s.tapWord (base + 5)⟩

/-- The commit entry a commit word forms (R57, Table 12-5). -/
def commitOf (slot : Fin 512) (v : Word) : CommitEntry := ⟨slot, field v 8 8, BitVec.ofNat 8 (field v 16 8)⟩

/-! ## Route images -/

/-- The word offset of an image window in the tap region. -/
def imageWindow : ImageId → Nat
  | .a => 0x1000
  | .b => 0x2000

/-- Four characters of a memory word, the first in bits 7..0 (chapter 12). -/
def charsOf (v : Word) : List Byte :=
  [v.extractLsb' 0 8, v.extractLsb' 8 8, v.extractLsb' 16 8, v.extractLsb' 24 8]

/-- A stop entry as memory holds it, from the word offset of its word 0 (R2, Table 12-6). -/
def State.stopOf (s : State) (base : Nat) : Stop :=
  let w0 := s.tapWord base
  { code := field w0 0 16
    mask := BitVec.ofNat 2 (field w0 16 2)
    side := sideOf (field w0 18 2)
    divide := w0.getLsbD 20
    join := w0.getLsbD 21
    mark := field (s.tapWord (base + 1)) 0 24
    scheduled := field (s.tapWord (base + 2)) 0 12
    longName := (List.range 7).flatMap fun j => charsOf (s.tapWord (base + 3 + j))
    shortCode := charsOf (s.tapWord (base + 10)) }

/-- The magic word of a route image (R1). -/
def imageMagic : Word := 0x41465231

/-- The header passes the two checks under which the stop entries are fetched (R1). -/
def headerUsable (magic : Word) (count : Nat) : Bool := magic == imageMagic && decide (2 ≤ count) && decide (count ≤ 64)

/-- The copy an image read makes: the header, and every stop entry if the header is usable (R1). -/
def State.copyOf (s : State) (i : ImageId) : RouteCopy :=
  let base := imageWindow i
  let magic := s.tapWord base
  let count := field (s.tapWord (base + 2)) 0 8
  { magic := magic
    service := field (s.tapWord (base + 1)) 0 16
    count := count
    stops := if headerUsable magic count then (List.range count).map fun n => s.stopOf (base + 16 + 16 * n) else [] }

/-- The cycles of an image read: one for the header and two for each stop entry fetched (R157, chapter 12.2). -/
def State.imageCycles (s : State) (i : ImageId) : Nat :=
  let base := imageWindow i
  let count := field (s.tapWord (base + 2)) 0 8
  if headerUsable (s.tapWord base) count then 1 + 2 * count else 1

/-! ## Requests -/

/-- The tag of a request word, bits 31..24. -/
def tagOf (v : Word) : Byte := v.extractLsb' 24 8

/-! ## Pages and replies -/

/-- The unit kind is a panel. -/
def panelKind (kind : BitVec 3) : Bool := kind == 2 || kind == 3 || kind == 4

/-- The unit kind is a seat unit. -/
def seatKind (kind : BitVec 3) : Bool := kind == 0 || kind == 1

/-- The fields of base page 0 (Tables 6-3 and 12-11); a panel starts with 4 slots and 16 characters (R101). -/
def basePageOf (w1 w2 : Half) : Page where
  kind := BitVec.ofNat 3 (halfField w1 13 3)
  technology := BitVec.ofNat 2 (halfField w1 11 2)
  canRest := w1.getLsbD 10
  extended := halfField w1 0 2
  label1 := halfField w2 8 8
  label2 := halfField w2 0 8
  panel := if panelKind (BitVec.ofNat 3 (halfField w1 13 3)) then some ⟨4, 16⟩ else none

/-- An extended page taken: page 1 of a panel gives its size, every other is discarded (R101). -/
def takePage (p : Page) (number : Nat) (w1 : Half) : Page :=
  if number = 1 ∧ panelKind p.kind then
    { p with panel := some ⟨clamp 4 12 (halfField w1 8 8), halfField w1 0 8⟩ }
  else p

/-- The status code of a reply (Table 12-10): 0 OK, 1 BUSY, 2 FAULT, 3 PAGE_FOLLOWS. -/
def replyCode (r : Reply) : Nat := halfField r.status 14 2

/-- The address a reply carries. -/
def replyAddress (r : Reply) : Nat := halfField r.status 0 7

end Sys2Proof.Machine
end

