-- ==== Sys2Proof/Machine/Flags.lean ====
section
/-! DEFINITION. What the spec derives from the state rather than holds: served positions and marks, the door side, the estimated flag, the guard, ATTN, the live latches, and which dirty marks a change of a block makes. -/

namespace Sys2Proof.Machine

/-! ## The route in force -/

/-- A portion is included in a portion mask (R2, R6). -/
def Portion.servedBy (p : Portion) (mask : BitVec 2) : Bool :=
  match p with
  | .one => mask.getLsbD 0
  | .two => mask.getLsbD 1

/-- The served list of a copy for a portion (R6). -/
def RouteCopy.servedList (c : RouteCopy) (p : Portion) : List Nat :=
  (c.stops.zipIdx.filter fun x => p.servedBy x.1.mask).map Prod.snd

/-- A stop with nothing in it, for an index that names none. -/
def Stop.blank : Stop := ⟨0, 0, .none, false, false, 0, 4095, [], []⟩

/-- The stop at an image index. -/
def RouteCopy.stop (c : RouteCopy) (i : Nat) : Stop := c.stops.getD i .blank

/-- The distance marks along a served list. -/
def RouteCopy.marks (c : RouteCopy) (served : List Nat) : List Nat := served.map fun i => (c.stop i).mark

/-- The list does not decrease. -/
def nonDecreasing : List Nat → Bool
  | [] => true
  | [_] => true
  | a :: b :: rest => decide (a ≤ b) && nonDecreasing (b :: rest)

/-- Checks 3 and 4 of Table 1-3. -/
def RouteCopy.checkServed (c : RouteCopy) (served : List Nat) : Option InvalidReason :=
  if served.length < 2 then some .tooFewServed
  else if nonDecreasing (c.marks served) then none else some .order

/-- Validation: the first check of Table 1-3 that fails, for a portion (R3). -/
def RouteCopy.invalid (c : RouteCopy) (p : Portion) : Option InvalidReason :=
  if c.magic ≠ imageMagic then some .badMagic
  else if c.count < 2 ∨ 64 < c.count then some .badCount
  else c.checkServed (c.servedList p)

/-- The image index at a served position. A position past the served list, as that of the next stop of a train left
STANDING at the last position (R20), has image index 0 (log 47). -/
def ActiveRoute.index (r : ActiveRoute) (pos : Nat) : Nat := r.served.getD pos 0

/-- The stop at a served position. -/
def ActiveRoute.stop (r : ActiveRoute) (pos : Nat) : Stop := r.copy.stop (r.index pos)

/-- mark(x): the distance mark at a served position (R6). -/
def ActiveRoute.mark (r : ActiveRoute) (pos : Nat) : Nat := (r.stop pos).mark

/-- The position is the last served position. -/
def ActiveRoute.last (r : ActiveRoute) (pos : Nat) : Bool := decide (r.served.length ≤ pos + 1)

/-- The served position of an image index, if it is served. -/
def positionIn (served : List Nat) (i : Nat) : Option Nat := served.idxOf? i

/-- The distance between two figures. -/
def distanceTo (a b : Nat) : Nat := if a ≤ b then b - a else a - b

/-- The served position whose mark is nearest `p`, ties to the lower position (R14, R18). -/
def nearestPosition (marks : List Nat) (p : Nat) : Nat :=
  (marks.zipIdx.foldl (fun best x => if distanceTo x.1 p < distanceTo (marks.getD best 0) p then x.2 else best) 0)

/-- The last served position whose mark is at most `limit`, or 0 (R18, R20). -/
def lastAtMost (marks : List Nat) (limit : Nat) : Nat :=
  marks.zipIdx.foldl (fun best x => if x.1 ≤ limit then x.2 else best) 0

/-- The progress distance p in metres (R33). -/
def Filter.metres (f : Filter) : Nat := f.progress / 1000

/-- The next stop's served position: c+1, or none in TERMINATED (R40). -/
def Approach.next (a : Approach) : Option Nat := if a.state = .terminated then none else some (a.current + 1)

/-- The coach door side of a platform side (Table 1-5, R7). -/
def doorSide (o : Orientation) (p : PlatformSide) : DoorSide :=
  match p, o with
  | .left, .forward => .sideA
  | .left, .reversed => .sideB
  | .right, .forward => .sideB
  | .right, .reversed => .sideA
  | .both, _ => .both
  | .none, _ => .none

/-! ## The filter -/

/-- The estimated flag (R34). -/
def Filter.estimated (f : Filter) : Bool := f.mode != .tracking || f.lock == .unlocked

/-- The coast cap in millimetres, while there is a next stop (R32). -/
def coastCap (s : State) : Option Nat :=
  match s.route.active, s.tracker.approach with
  | some r, some a =>
    match a.next with
    | some n => some ((r.mark n - s.items.berthDistance) * 1000)
    | none => none
  | _, _ => none

/-- Progress lies above the coast cap. -/
def aboveCap (s : State) : Bool :=
  match coastCap s with
  | some cap => decide (cap < s.filter.progress)
  | none => false

/-- The motion mode is COASTING. -/
def Mode.coasts : Mode → Bool
  | .coasting _ => true
  | _ => false

/-- The motion mode is HOLDING. -/
def Mode.holds : Mode → Bool
  | .holding _ => true
  | _ => false

/-- The door state is a released value. -/
def DoorState.released (d : DoorState) : Bool := d != .closed

/-! ## Marks made by a change of a block -/

/-- The route engine replaced, with the marks of R5, R8 and R18. -/
def setRoute (r : Route) (s : State) : State :=
  let o := s.route
  let same (a b : Option ActiveRoute) : Bool :=
    decide (a.map (fun x => (x.image, x.copy.service, x.served.length)) =
      b.map (fun x => (x.image, x.copy.service, x.served.length)))
  markStatusIf (!(same o.active r.active && decide (o.pendingSwitch = r.pendingSwitch) &&
      decide (o.previewRead = r.previewRead))) 1 <|
  markStatusIf (decide (o.preview ≠ r.preview)) 6 <|
  markStatusIf (decide (o.preview ≠ r.preview)) 7 <|
  markStatusIf (decide (o.consist ≠ r.consist) || o.mismatch != r.mismatch) 8 { s with route := r }

/-- The position filter replaced, with the marks of R22, R27, R28, R33, R34, R35 and R38. -/
def setFilter (f : Filter) (s : State) : State :=
  let o := s.filter
  markStatusIf (decide (o.lock ≠ f.lock) || decide (o.mode ≠ f.mode) || o.sourcePresent != f.sourcePresent) 2 <|
  markStatusIf (o.metres != f.metres) 3 <|
  markStatusIf (o.smoothed != f.smoothed || o.lastSpeed != f.lastSpeed) 4 { s with filter := f }

/-- The approach tracker replaced, with the marks of R40. -/
def setTracker (t : Tracker) (s : State) : State :=
  let o := s.tracker
  markStatusIf (decide (o.approach ≠ t.approach)) 2 <|
  markStatusIf (o.eta != t.eta || decide (o.rawDelay ≠ t.rawDelay) || o.delay != t.delay) 5 { s with tracker := t }

/-! ## Guard, attention line, latches -/

/-- The image a pending switch names (R9). -/
def PendingSwitch.image : PendingSwitch → Option ImageId
  | .none => Option.none
  | .reading i _ _ => some i
  | .waiting i _ _ _ => some i

/-- The window of an image is guarded (R9); no window is while SOFT_RESET holds HOLD (R154). -/
def guarded (s : State) (i : ImageId) : Bool :=
  !s.items.softReset && (decide (s.route.active.map ActiveRoute.image = some i) ||
    decide (s.route.pendingSwitch.image = some i) || decide (s.route.previewRead = some i))

/-- ATTN is asserted (R140). -/
def attn (s : State) : Bool := s.notices.visible != s.notices.consumer

/-- The link is RUNNING, RESTING or ROUSING. -/
def LinkState.up : LinkState → Bool
  | .running => true
  | .resting => true
  | .rousing => true
  | .off => false
  | .enumerating => false

/-- The live chain state is intact (R96). -/
def Link.chainLive (k : Link) : Bool := k.state.up && !k.endedBroken

/-- The live overflow state: the queue holds 32 items (R121). -/
def Link.overflowLive (k : Link) : Bool := decide (32 ≤ k.queue.length)

/-- The unit can take content: ACTIVE or SUSPECT (R113). -/
def UnitEntry.able (u : UnitEntry) : Bool := u.state == .active || u.state == .suspect

/-- The seat's bound unit is FAILED (R126). -/
def unitFailed (s : State) (e : SeatEntry) : Bool :=
  match e.bound with
  | some b => ((s.link b.link).unit b.address).any fun u => u.state == .failed
  | none => false

/-- A word is clear-on-read: 10..12 and 16..35 (R143). -/
def clearOnRead (w : Nat) : Bool := (decide (10 ≤ w) && decide (w ≤ 12)) || (decide (16 ≤ w) && decide (w ≤ 35))

end Sys2Proof.Machine
end

