-- ==== Sys2Proof/Machine/Composer.lean ====
section
/-! DEFINITION. The content composer and the output queue: what each unit must show, the judgement of a target, the offer of an item, the re-append, the withdrawal and the refill sweep (R106 to R115, R121). -/

namespace Sys2Proof.Machine

/-! ## Items -/

/-- The kind of a content. -/
def Content.kind : Content → ContentKind
  | .seat _ => .seat
  | .strip _ _ _ => .strip
  | .headline _ _ _ _ _ _ => .headline

/-- Two items are of the same unit and kind (R106). -/
def Item.sameKey (a b : Item) : Bool :=
  a.address == b.address &&
  match a.body, b.body with
  | .content c, .content d => c.kind == d.kind
  | .level _, .level _ => true
  | .probe, .probe => true
  | _, _ => false

/-- A LEVEL item (R106, R110). -/
def levelItem (code : Byte) : Item := ⟨127, .level code⟩

/-- The content kinds carried by SHOW that a unit takes (Table 7-1). -/
def UnitEntry.kinds (u : UnitEntry) : List ContentKind :=
  if u.state = .foreign ∨ u.state = .duplicate then []
  else if seatKind u.page.kind then [.seat]
  else if u.page.kind = 2 then [.strip]
  else if u.page.kind = 3 then [.headline]
  else if u.page.kind = 4 then [.strip, .headline]
  else []

/-- The owed flag of a kind (R114). -/
def UnitEntry.owed (u : UnitEntry) : ContentKind → Bool
  | .seat => u.owedSeat
  | .strip => u.owedStrip
  | .headline => u.owedHeadline

/-- The owed flag of a kind replaced. -/
def UnitEntry.setOwed (u : UnitEntry) (kind : ContentKind) (b : Bool) : UnitEntry :=
  match kind with
  | .seat => { u with owedSeat := b }
  | .strip => { u with owedStrip := b }
  | .headline => { u with owedHeadline := b }

/-- The acknowledged content of a kind (R106). -/
def UnitEntry.acknowledged (u : UnitEntry) : ContentKind → Option Content
  | .seat => u.ackSeat
  | .strip => u.ackStrip
  | .headline => u.ackHeadline

/-- The acknowledged content of a content's kind replaced (R117). -/
def UnitEntry.acknowledge (u : UnitEntry) (c : Content) : UnitEntry :=
  match c.kind with
  | .seat => { u with ackSeat := some c }
  | .strip => { u with ackStrip := some c }
  | .headline => { u with ackHeadline := some c }

/-- A full refresh: the owed flag of every kind the unit takes is set (R114). -/
def UnitEntry.refresh (u : UnitEntry) : UnitEntry := u.kinds.foldl (fun v kind => v.setOwed kind true) u

/-! ## Targets -/

/-- A slot of a SEAT item: the seat bound to the unit and slot, or BLANK (R107). -/
def slotContent (seats : List SeatEntry) (l : LinkId) (address slot : Nat) : SlotContent :=
  match seats.find? fun e => e.bound == some ⟨l, address, slot⟩ with
  | some e => ⟨e.resolved.status, e.resolved.code, e.resolved.category, e.resolved.marks⟩
  | none => ⟨.blank, none, none, .clear⟩

/-- The SEAT target of a unit: one slot for a SEAT_SINGLE, two for a SEAT_PAIR (R107). -/
def seatTarget (s : State) (l : LinkId) (u : UnitEntry) : Content :=
  .seat ((if u.page.kind = 1 then [1, 2] else [1]).map (slotContent s.res.seats l u.address))

/-- The entries of a strip of `k` slots (R108). -/
def stripEntries (r : ActiveRoute) (a : Approach) (k : Nat) : List StripEntry :=
  let here := a.state = .standing ∨ a.state = .terminated
  (List.range (min k (r.served.length - a.current))).map fun j =>
    let st := r.stop (a.current + j)
    ⟨st.shortCode, st.divide, st.join, if j = 0 then (if here then .here else .passed) else .ahead⟩

/-- The STRIP target of a panel of `k` slots (R108). -/
def stripTarget (s : State) (k : Nat) : Content :=
  match s.route.active, s.tracker.approach with
  | some r, some a => .strip (stripEntries r a k) s.tracker.delay s.filter.estimated
  | _, _ => .strip [] 0 s.filter.estimated

/-- The phrase of an approach state (Table 7-2). -/
def phraseOf : ApproachState → Phrase
  | .cruising => .nextStop
  | .approaching => .nextStop
  | .arriving => .arriving
  | .standing => .standingAt
  | .terminated => .terminatesHere

/-- The served position a headline names (Table 7-2). -/
def Approach.named (a : Approach) : Nat :=
  match a.state with
  | .standing => a.current
  | .terminated => a.current
  | .cruising => a.current + 1
  | .approaching => a.current + 1
  | .arriving => a.current + 1

/-- The coach number as shown: 0 is blank (R109). -/
def shownCoach (n : Nat) : Nat := if 1 ≤ n ∧ n ≤ 16 then n else 0

/-- The HEADLINE target of a panel of `n` characters a line (R109). Where no stop is named the name field holds
zeros (log 25). -/
def headlineTarget (s : State) (n : Nat) : Content :=
  let coach := shownCoach s.route.consist.coach
  match s.route.active, s.tracker.approach with
  | some r, some a =>
    let st := r.stop a.named
    .headline (phraseOf a.state) (st.longName.take n) (doorSide s.route.consist.orientation st.side)
      s.tracker.delay coach s.filter.estimated
  | _, _ => .headline .none (List.replicate (min 28 n) 0) .none s.tracker.delay coach s.filter.estimated

/-- The target content of a unit and kind (R111). A panel's size is that of R101. -/
def target (s : State) (l : LinkId) (u : UnitEntry) : ContentKind → Content
  | .seat => seatTarget s l u
  | .strip => stripTarget s (u.page.panel.getD ⟨4, 16⟩).slots
  | .headline => headlineTarget s (u.page.panel.getD ⟨4, 16⟩).characters

/-- The brightness code of the taken ambient class (R110). -/
def levelCode (s : State) : Byte :=
  match s.filter.ambient.taken with
  | .day => s.items.levelDay
  | .dusk => s.items.levelDusk
  | .night => s.items.levelNight
  | .tunnel => s.items.levelTunnel

/-- What a sweep draws on: QUEUE_NEAR_FULL and the targets at this moment. -/
structure Supply where
  nearFull : Nat
  level : Byte
  target : UnitEntry → ContentKind → Content

/-- The supply of a link. -/
def State.supply (s : State) (l : LinkId) : Supply :=
  ⟨s.items.queueNearFull, levelCode s, target s l⟩

/-! ## Owed flags and the queue -/

/-- The item's owed flag set; a PROBE is discarded (R113, R114). -/
def Link.owe (k : Link) (it : Item) : Link :=
  match it.body with
  | .content c => k.mapUnit it.address fun u => u.setOwed c.kind true
  | .level _ => { k with levelOwed := true }
  | .probe => k

/-- The item's owed flag cleared (R114). -/
def Link.pay (k : Link) (it : Item) : Link :=
  match it.body with
  | .content c => k.mapUnit it.address fun u => u.setOwed c.kind false
  | .level _ => { k with levelOwed := false }
  | .probe => k

/-- The queue holds an item of the same unit and kind. -/
def Link.queued (k : Link) (it : Item) : Bool := k.queue.any fun q => q.sameKey it

/-- The item owed because the queue holds 32; the overflow latch is set unless it is a PROBE (R113, R121, log 18). -/
def Link.overflows (k : Link) (it : Item) : Link :=
  match it.body with
  | .probe => k
  | _ => { k.owe it with overflow := true }

/-- Cases 5 to 8 of R113. -/
def Link.enqueue (k : Link) (nearFull : Nat) (it : Item) : Link :=
  if k.queued it then ({ k with queue := k.queue.map fun q => if Item.sameKey q it then it else q } : Link).pay it
  else if 32 ≤ k.queue.length then k.overflows it
  else if nearFull ≤ k.queue.length then k.owe it
  else ({ k with queue := k.queue ++ [it] } : Link).pay it

/-- The item is content held back by a running e-paper hold of the unit (R113, R118). -/
def UnitEntry.holds (u : UnitEntry) (it : Item) : Bool :=
  match it.body with
  | .content _ => u.hold.isSome
  | .level _ => false
  | .probe => false

/-- An item offered to a link, judged in the order of R113. -/
def Link.offer (k : Link) (nearFull : Nat) (it : Item) : Link :=
  if k.state = .off then k
  else match it.body with
    | .level _ => if k.state = .enumerating then k.owe it else k.enqueue nearFull it
    | _ =>
      match k.unit it.address with
      | none => k
      | some u =>
        if k.state = .enumerating then k.owe it
        else if !u.able then k.owe it
        else if u.holds it then k.owe it
        else k.enqueue nearFull it

/-- An item re-appended (R113): at the tail, or owed at 32. Its owed flag is left as it stands (log 39). -/
def Link.reappend (k : Link) (it : Item) : Link :=
  if k.queue.length < 32 then { k with queue := k.queue ++ [it] } else k.overflows it

/-- An item returned after BUSY or a miss: discarded where a newer one of its unit and kind is queued, and
re-appended otherwise (R117, R124). What it is judged against from then on, log 57 says. -/
def Link.giveBack (k : Link) (it : Item) : Link := if k.queued it then k else k.reappend it

/-! ## The sweep -/

/-- The address following a unit's, or 1 after the last entry (R115). -/
def Link.following (k : Link) (address : Nat) : Nat :=
  if (k.units.getLast?.map UnitEntry.address) = some address then 1 else address + 1

/-- The addresses of the table in the order a sweep examines them (R115). -/
def Link.sweepOrder (k : Link) : List Nat :=
  let as := k.units.map UnitEntry.address
  (as.filter fun a => decide (k.sweepPosition ≤ a)) ++ as.filter fun a => decide (a < k.sweepPosition)

/-- One owed flag examined by a sweep: paid where the unit can take content, no hold runs and the queue is below
QUEUE_NEAR_FULL (R115). -/
def Link.sweepOne (sup : Supply) (k : Link) (x : Nat × ContentKind) : Link :=
  match k.unit x.1 with
  | none => k
  | some u =>
    if u.able && u.hold.isNone && u.owed x.2 && decide (k.queue.length < sup.nearFull) then
      { k.offer sup.nearFull ⟨x.1, .content (sup.target u x.2)⟩ with sweepPosition := k.following x.1 }
    else k

/-- The LEVEL owed flag examined by a sweep (R115). -/
def Link.sweepLevel (sup : Supply) (k : Link) : Link :=
  if k.levelOwed then k.offer sup.nearFull (levelItem sup.level) else k

/-- A refill sweep (R115): it runs on a link that is RUNNING, RESTING or ROUSING. LEVEL is offered whatever the depth
(log 45). -/
def Link.sweep (sup : Supply) (k : Link) : Link :=
  if k.state.up then
    (k.sweepOrder.flatMap fun a => [(a, .seat), (a, .strip), (a, .headline)]).foldl (Link.sweepOne sup)
      (k.sweepLevel sup)
  else k

/-! ## Judging a target -/

/-- The item in flight: that of a transaction taken from the queue (R116). -/
def Link.inFlight (k : Link) : Option Item :=
  match k.transaction with
  | some t =>
    match t.purpose with
    | .item it => some it
    | _ => none
  | none => none

/-- The reference content of a unit and kind: in flight, else acknowledged (R112). An item re-appended after BUSY is no
longer in flight, and its content is no reference (R117, log 57). -/
def Link.reference (k : Link) (u : UnitEntry) (kind : ContentKind) : Option Content :=
  match k.inFlight with
  | some ⟨a, .content c⟩ => if a = u.address ∧ c.kind = kind then some c else u.acknowledged kind
  | _ => u.acknowledged kind

/-- The reference brightness code: in flight, else acknowledged (R112, log 40). -/
def Link.referenceLevel (k : Link) : Option Byte :=
  match k.inFlight with
  | some ⟨_, .level c⟩ => some c
  | _ => k.ackLevel

/-! ## Changes of the depth

Each operation below is one change of the depth, or adds to it only, so that a depth that falls and rises again marks
LINK_x (R113). -/

/-- A sweep of a link. -/
def sweepLink (l : LinkId) (s : State) : State := onLink l (Link.sweep (s.supply l)) s

/-- A sweep if a removal took the depth from above QUEUE_NEAR_EMPTY to at or below it (R115). -/
def sweepAfterRemoval (l : LinkId) (before : Nat) (s : State) : State :=
  if s.items.queueNearEmpty < before ∧ (s.link l).queue.length ≤ s.items.queueNearEmpty then sweepLink l s else s

/-- An item offered to a link (R113). -/
def offerItem (l : LinkId) (it : Item) (s : State) : State := onLink l (fun k => k.offer s.items.queueNearFull it) s

/-- A queued item of the same unit and kind withdrawn, and then the sweep its removal may start (R112). -/
def withdrawItem (l : LinkId) (it : Item) (s : State) : State :=
  sweepAfterRemoval l (s.link l).queue.length
    (onLink l (fun k => { k with queue := k.queue.filter fun q => !Item.sameKey q it }) s)

/-! ## Judging a target -/

/-- A target judged: offered where it differs from the reference, else any queued item withdrawn (R112), be it one that
BUSY has sent back to the queue (R117, log 57). -/
def judgeTarget (l : LinkId) (s : State) (x : Nat × ContentKind) : State :=
  match (s.link l).unit x.1 with
  | none => s
  | some u =>
    if x.2 ∈ u.kinds then
      let c := target s l u x.2
      if (s.link l).reference u x.2 = some c then withdrawItem l ⟨x.1, .content c⟩ s
      else offerItem l ⟨x.1, .content c⟩ s
    else s

/-- The LEVEL target of a RUNNING link judged (R37, R112). -/
def judgeLevel (s : State) (l : LinkId) : State :=
  if (s.link l).state = .running then
    if (s.link l).referenceLevel = some (levelCode s) then withdrawItem l (levelItem (levelCode s)) s
    else offerItem l (levelItem (levelCode s)) s
  else s

/-! ## Events of Table 7-3 -/

/-- The strips and headlines recomposed: the units by ascending address, and STRIP before HEADLINE of each (log 50). -/
def composePanels (s : State) : State :=
  ((s.link .p).units.flatMap fun u => [(u.address, .strip), (u.address, .headline)]).foldl (judgeTarget .p) s

/-- The strips and headlines recomposed when a condition holds. -/
def composePanelsIf (b : Bool) (s : State) : State := if b then composePanels s else s

/-- The unit to which a seat is bound recomposed, if any (R72). -/
def composeSeat (s : State) (n : Nat) : State :=
  match (s.seat n).bound with
  | none => s
  | some b => judgeTarget b.link s (b.address, .seat)

/-- Seats handed to the composer one after the other, in the order of the list (logs 30 and 54). -/
def composeSeats (ns : List Nat) (s : State) : State := ns.foldl composeSeat s

/-- LEVEL composed on each RUNNING link (R37). -/
def composeLevels (s : State) : State := allLinks.foldl judgeLevel s

end Sys2Proof.Machine
end

