-- ==== Sys2Proof/Machine/Seats.lean ====
section
/-! DEFINITION. The reservation engine: commits, the judgement of a fetched record, tags, phases, the resolved status, the release list, confirms and CLEAR_SEATS (R57 to R89). -/

namespace Sys2Proof.Machine

/-! ## Tags and phases -/

/-- Phase of a LIVE segment (Table 5-1). -/
inductive Phase where
  | upcoming | now | ended
  deriving DecidableEq, Repr

/-- The tag of a service and leg against the active route (R64). -/
def tagFor (r : Option ActiveRoute) (service fromIndex toIndex : Nat) : Tag :=
  match r with
  | none => .dormant
  | some r =>
    if service ≠ r.copy.service then .dormant
    else if fromIndex ∈ r.served ∧ toIndex ∈ r.served then .live
    else .misrouted

/-- The active route and the current stop, while a route is active (R74). -/
def position (s : State) : Option (ActiveRoute × Nat) :=
  match s.route.active, s.tracker.approach with
  | some r, some a => some (r, a.current)
  | _, _ => none

/-- The phase of a segment; none unless it is LIVE (R74). -/
def segmentPhase (served : List Nat) (c : Nat) (g : Segment) : Option Phase :=
  if g.tag = .live then
    match positionIn served g.fromIndex, positionIn served g.toIndex with
    | some fp, some tp => some (if c < fp then .upcoming else if c < tp then .now else .ended)
    | _, _ => none
  else none

/-- The NOW segment of a list (R74). -/
def nowSegment (served : List Nat) (c : Nat) (gs : List Segment) : Option Segment :=
  gs.find? fun g => segmentPhase served c g == some .now

/-- The nearest UPCOMING segment: that with the lowest fp (R74). -/
def nearestUpcoming (served : List Nat) (c : Nat) (gs : List Segment) : Option Segment :=
  gs.foldl (fun best g =>
    if segmentPhase served c g = some .upcoming then
      match best with
      | none => some g
      | some b => if (positionIn served g.fromIndex).getD 0 < (positionIn served b.fromIndex).getD 0 then some g else best
    else best) none

/-- The misrouted stop of a segment (R65, R77). -/
def misroutedStop (served : List Nat) (g : Segment) : Nat := if g.fromIndex ∈ served then g.toIndex else g.fromIndex

/-! ## Resolved status -/

/-- The deciding segment of a seat entry (Table 5-2). -/
def decidingSegment (s : State) (e : SeatEntry) : Option Segment :=
  match position s with
  | none => none
  | some (r, c) =>
    match nowSegment r.served c e.segments with
    | some g => some g
    | none =>
      match e.segments.find? fun g => g.tag == .misrouted with
      | some g => some g
      | none => nearestUpcoming r.served c e.segments

/-- The short code of a stop of the active copy, where the index names one (R77). -/
def shortCodeAt (r : ActiveRoute) (i : Nat) : Option (List Byte) := r.copy.stops[i]?.map Stop.shortCode

/-- The marks of a seat entry under its deciding segment (R78). -/
def marksOf (s : State) (e : SeatEntry) (g : Option Segment) : Marks :=
  ⟨s.res.unverified, e.prioritySeating, e.quietZone, g.any fun g => g.category == .staff⟩

/-- The resolved display status of a seat entry (R76, R77, R78). -/
def resolve (s : State) (e : SeatEntry) : Resolved :=
  match position s, decidingSegment s e with
  | some (r, c), some g =>
    let marks := marksOf s e (some g)
    if g.tag = .misrouted then
      let i := misroutedStop r.served g
      ⟨.misrouted, some i, shortCodeAt r i, none, marks⟩
    else if segmentPhase r.served c g = some .now then
      if g.released then ⟨.released, none, none, none, marks⟩
      else ⟨.reservedNow, some g.toIndex, shortCodeAt r g.toIndex, some g.category, marks⟩
    else ⟨.reservedFrom, some g.fromIndex, shortCodeAt r g.fromIndex, some g.category, marks⟩
  | _, _ => ⟨.free, none, none, none, marksOf s e none⟩

/-- A seat entry with its status resolved afresh (R79). -/
def resolved (s : State) (e : SeatEntry) : SeatEntry := { e with resolved := resolve s e }

/-! ## The seat table -/

/-- The marks of the seats that differ between two seat tables (R71). -/
def seatTableBits (before after : List SeatEntry) : BitVec 704 :=
  (changedSeats before after).foldl (fun acc n => acc ||| seatBits n) 0

/-- The seat table replaced, with its marks (R71). -/
def setSeats (es : List SeatEntry) (s : State) : State :=
  markSummary s.res (markMany (seatTableBits s.res.seats es) { s with res := { s.res with seats := es } })

/-- One seat entry replaced with its status resolved afresh, and SEAT_SUMMARY marked where a count changed (R71). -/
def putSeat (n : Nat) (e : SeatEntry) (s : State) : State := markSummary s.res (setSeat n (resolved s e) s)

/-- Every status resolved afresh (R75, R66). -/
def resolveAll (s : State) : State := setSeats (s.res.seats.map (resolved s)) s

/-- The unverified flag set or cleared; a change resolves every seat and hands every seat to the composer (R66),
in seat number order (log 54). -/
def setUnverified (b : Bool) (s : State) : State :=
  if s.res.unverified = b then s
  else
    composeSeats seatNumbers
      (resolveAll (markStatus 9 { s with res := { s.res with unverified := b } }))

/-! ## The release list -/

/-- The segment a release entry times (R80). -/
def releaseSegment (s : State) (x : ReleaseEntry) : Option Segment :=
  (s.seat x.seat).segments.find? fun g => g.service == x.service && g.fromIndex == x.fromIndex

/-- The segment of a release entry is NOW (R75, R80). -/
def releaseStands (s : State) (x : ReleaseEntry) : Bool :=
  match position s, releaseSegment s x with
  | some (r, c), some g => segmentPhase r.served c g == some .now
  | _, _ => false

/-- Release entries whose segment is no longer NOW removed without release (R69, R75, R83). -/
def pruneReleases (s : State) : State := setReleaseList (s.res.releaseList.filter (releaseStands s)) s

/-- The seat's release entry removed without release (R83). -/
def dropRelease (n : Nat) (s : State) : State :=
  setReleaseList (s.res.releaseList.filter fun x => x.seat != n) s

/-- The order of the release list: remaining time, then seat number (R80). -/
def releaseBefore (now : Time) (x y : ReleaseEntry) : Bool :=
  decide ((x.expiry - now).toNat < (y.expiry - now).toNat) ||
    (x.expiry == y.expiry && decide (x.seat < y.seat))

/-- A release entry inserted at its place (R80). -/
def insertRelease (now : Time) (x : ReleaseEntry) : List ReleaseEntry → List ReleaseEntry
  | [] => [x]
  | y :: rest => if releaseBefore now x y then x :: y :: rest else y :: insertRelease now x rest

/-- The segment of an entry that a departure from served position `c` times: LIVE with fp = c, STANDARD, unconfirmed
and unreleased (R81). -/
def boardingSegment (served : List Nat) (c : Nat) (e : SeatEntry) : Option Segment :=
  e.segments.find? fun g => g.tag == .live && positionIn served g.fromIndex == some c &&
    g.category == .standard && !g.confirmed && !g.released

/-- The release list after a departure from served position `c`: an entry for each seat that has none (R81). -/
def releasesAfter (s : State) (served : List Nat) (c : Nat) : List ReleaseEntry :=
  seatNumbers.foldl (fun rs n =>
    match boardingSegment served c (s.seat n) with
    | some g =>
      if rs.any fun x => x.seat == n then rs
      else insertRelease s.timebase ⟨n, s.timebase + ms (s.items.noShow * 60000), g.service, g.fromIndex⟩ rs
    | none => rs) s.res.releaseList

/-- The reservation engine told that the train has departed from served position `c` (R81). -/
def departed (c : Nat) (lock : Lock) (s : State) : State :=
  match s.route.active with
  | some r => if lock = .locked ∧ s.items.noShow ≠ 0 then setReleaseList (releasesAfter s r.served c) s else s
  | none => s

/-! ## Judging phases and re-tagging -/

/-- The engine's act at a change of the current stop (R75). The seats whose status changed go to the composer in seat
number order (log 54). -/
def rejudge (s : State) : State :=
  let s1 := pruneReleases s
  let s2 := resolveAll s1
  composeSeats (changedSeats (s1.res.seats.map SeatEntry.resolved) (s2.res.seats.map SeatEntry.resolved)) s2

/-- The notice of a misrouted segment (R65). -/
def misroutedNotice (r : ActiveRoute) (n : Nat) (g : Segment) : Notice :=
  let i := misroutedStop r.served g
  .seatMisrouted n (match r.copy.stops[i]? with | some st => st.code | none => 0xFFFF) i

/-- A segment tagged again if it is examined; the flags stand only while it stays LIVE (R69 step 4, R70). -/
def retagSegment (examined : Segment → Bool) (r : ActiveRoute) (g : Segment) : Segment :=
  let t := tagFor (some r) g.service g.fromIndex g.toIndex
  if !examined g || (g.tag == .live && t == .live) then g
  else { g with tag := t, confirmed := false, released := false }

/-- The segments that take MISROUTED from another tag when the entry is tagged again (R65). -/
def newlyMisrouted (examined : Segment → Bool) (r : ActiveRoute) (e : SeatEntry) : List Segment :=
  e.segments.filter fun g => g.tag != .misrouted && (retagSegment examined r g).tag == .misrouted

/-- The segments of a service removed from an entry (R69 step 1). -/
def dropService (service : Option Nat) (e : SeatEntry) : SeatEntry :=
  { e with segments := e.segments.filter fun g => decide (some g.service ≠ service) }

/-- The SEAT_MISROUTED notices of a re-tagging, in seat order, then segment order (R65, R72). -/
def raiseMisrouted (examined : Segment → Bool) (r : ActiveRoute) (seats : List SeatEntry) (s : State) : State :=
  (seats.zipIdx 1).foldl (fun s x => (newlyMisrouted examined r x.1).foldl
    (fun s g => raise (misroutedNotice r x.2 g) s) s) s

/-- The segments examined tagged again against the route in force, after the segments of a removed service are
dropped; then the notices, the release entries that fall, and the entries changed resolved afresh and handed to the
composer once the whole is done (R69, R70, log 30). -/
def retag (examined : Segment → Bool) (r : ActiveRoute) (removed : Option Nat) (s : State) : State :=
  let before := s.res.seats
  let kept := before.map (dropService removed)
  let after := kept.map fun e => { e with segments := e.segments.map (retagSegment examined r) }
  let changed := changedSeats (before.map SeatEntry.segments) (after.map SeatEntry.segments)
  let s1 := pruneReleases (raiseMisrouted examined r kept (setSeats after s))
  composeSeats changed
    (setSeats (s1.res.seats.zipIdx 1 |>.map fun x => if x.2 ∈ changed then resolved s1 x.1 else x.1) s1)

/-! ## Commits and fetches -/

/-- A commit entry handed to the engine (R58). -/
def takeCommit (e : CommitEntry) (s : State) : State :=
  if s.res.fetchQueue.length < 16 then { s with res := { s.res with fetchQueue := s.res.fetchQueue ++ [e] } }
  else raise (.journalLoss e.seat e.slot.val .overrun) (setUnverified true (bump .journalOverrun s))

/-- A segment placed in the order of service, then from index (R63). -/
def insertSegment (g : Segment) : List Segment → List Segment
  | [] => [g]
  | h :: rest =>
    if g.service < h.service ∨ (g.service = h.service ∧ g.fromIndex ≤ h.fromIndex) then g :: h :: rest
    else h :: insertSegment g rest

/-- The new segments of a record, sorted and tagged against the route in force (R63 steps 3 and 4). -/
def newSegments (active : Option ActiveRoute) (r : Record) : List Segment :=
  (r.segments.map fun g =>
    (⟨g.service, g.fromIndex, g.toIndex, g.category.getD .standard, tagFor active g.service g.fromIndex g.toIndex,
      false, false⟩ : Segment)).foldr insertSegment []

/-- A record is newer than an entry (R62). -/
def newer (version : Byte) (held : Option Byte) : Bool :=
  match held with
  | none => true
  | some h => decide (1 ≤ (version - h).toNat ∧ (version - h).toNat ≤ 127)

/-- A newer record applied to the entry of its seat (R63). -/
def applyRecord (r : Record) (s : State) : State :=
  let n := r.seat
  let s1 := dropRelease n s
  let gs := newSegments s1.route.active r
  let e := { s1.seat n with version := some r.version, prioritySeating := r.w0.getLsbD 24,
                            quietZone := r.w0.getLsbD 25, segments := gs }
  let s2 := match s1.route.active with
    | some a => (gs.filter fun g => g.tag == .misrouted).foldl (fun s g => raise (misroutedNotice a n g) s) s1
    | none => s1
  composeSeat (putSeat n e s2) n

/-- The words of a completed fetch judged: torn, malformed, superseded or applied (R59 to R63). -/
def judgeRecord (e : CommitEntry) (r : Record) (s : State) : State :=
  if r.torn e then raise (.journalLoss e.seat e.slot.val .torn) (setUnverified true (bump .journalTorn s))
  else if r.malformed then bump .resMalformed s
  else if newer r.version (s.seat r.seat).version then applyRecord r s
  else bump .resSuperseded s

/-- The fetch of the head entry completes: the entry leaves the queue and its words are judged (R59). -/
def completeFetch (s : State) : State :=
  match s.res.fetchQueue with
  | [] => s
  | e :: rest => judgeRecord e (s.recordOf e.slot) { s with res := { s.res with fetchQueue := rest } }

/-! ## CLEAR_SEATS, expiry, confirm -/

/-- Every seat entry emptied, its binding kept; the release list emptied, the flag cleared, SEAT_SUMMARY marked dirty,
every seat handed to the composer (R68), in seat number order (log 54). -/
def clearSeats (s : State) : State :=
  let s1 := setReleaseList [] s
  let s2 := markStatus 9 { s1 with res := { s1.res with unverified := false } }
  composeSeats seatNumbers
    (setSeats (s2.res.seats.map fun e => { SeatEntry.empty with bound := e.bound }) s2)

/-- A segment of an entry changed, named by service and from index. -/
def mapSegment (e : SeatEntry) (g : Segment) (f : Segment → Segment) : SeatEntry :=
  { e with segments := e.segments.map fun h => if h.service = g.service ∧ h.fromIndex = g.fromIndex then f h else h }

/-- A release entry expires: it is removed, the seat's NOW segment is released, SEAT_RELEASED is raised, SEAT_SUMMARY is
marked dirty and the seat is handed to the composer (R82). -/
def expireRelease (x : ReleaseEntry) (s : State) : State :=
  let s1 := dropRelease x.seat s
  let e := s1.seat x.seat
  match position s1 with
  | none => s1
  | some (r, c) =>
    match nowSegment r.served c e.segments with
    | none => s1
    | some g =>
      let s2 := raise (.seatReleased x.seat (r.copy.stop g.fromIndex).code g.fromIndex) s1
      composeSeat (markStatus 9 (putSeat x.seat (mapSegment e g fun h => { h with released := true }) s2)) x.seat

/-- The segment a confirm applies to: the NOW one, failing that the nearest UPCOMING one (R85). -/
def confirmable (s : State) (e : SeatEntry) : Option Segment :=
  match position s with
  | none => none
  | some (r, c) => (nowSegment r.served c e.segments).or (nearestUpcoming r.served c e.segments)

/-- A SEAT_CONFIRM judged (R85, R86). LATE marks SEAT_SUMMARY dirty whatever the counts. -/
def confirmSeat (tag : Byte) (n : Nat) (s : State) : State :=
  if n = 0 ∨ 128 < n then answer tag .seatConfirm .badArgument none s
  else
    let e := s.seat n
    match confirmable s e with
    | none => answer tag .seatConfirm .nothingToConfirm none s
    | some g =>
      let s1 := if g.released then s else dropRelease n s
      let e' := mapSegment e g fun h => { h with confirmed := true, released := false }
      let s2 := markStatusIf g.released 9 (if e' = e then s1 else composeSeat (putSeat n e' s1) n)
      answer tag .seatConfirm (if g.released then .late else .done) none s2

end Sys2Proof.Machine
end

