-- ==== Sys2Proof/Machine/Formats.lean ====
section
/-! DEFINITION. The words the controller writes, to memory and to the links: status words, view words, notice entries, headers and payloads (Tables 12-2 and 12-7 to 12-12, R169, R170). -/

namespace Sys2Proof.Machine

/-! ## Codes of Table 12-2 -/

/-- The code of an image. -/
def imageCode : ImageId → Nat
  | .a => 0
  | .b => 1

/-- The code of a link. -/
def linkCode : LinkId → Nat
  | .a => 0
  | .b => 1
  | .p => 2

/-- The number of a portion. -/
def portionCode : Portion → Nat
  | .one => 1
  | .two => 2

/-- The code of an orientation. -/
def orientationCode : Orientation → Nat
  | .forward => 0
  | .reversed => 1

/-- The code of a door state. -/
def doorCode : DoorState → Nat
  | .closed => 0
  | .releasedLeft => 1
  | .releasedRight => 2
  | .releasedBoth => 3

/-- The code of a coach door side. -/
def doorSideCode : DoorSide → Nat
  | .none => 0
  | .sideA => 1
  | .sideB => 2
  | .both => 3

/-- The code of an approach state; 0 is none. -/
def approachCode : Option Approach → Nat
  | none => 0
  | some a =>
    match a.state with
    | .cruising => 1
    | .approaching => 2
    | .arriving => 3
    | .standing => 4
    | .terminated => 5

/-- The code of a lock state. -/
def lockCode : Lock → Nat
  | .unlocked => 0
  | .locked => 1

/-- The code of a motion mode. -/
def modeCode : Mode → Nat
  | .tracking => 0
  | .coasting _ => 1
  | .holding _ => 2
  | .following => 3

/-- The code of a cause; 0 is none. -/
def causeCode : Option Cause → Nat
  | none => 0
  | some .stale => 1
  | some .jump => 2
  | some .unlock => 3

/-- The cause of a mode. -/
def modeCause : Mode → Option Cause
  | .coasting c => some c
  | .holding c => some c
  | .tracking => none
  | .following => none

/-- The code of an invalid reason; 0 is none. -/
def reasonCode : Option InvalidReason → Nat
  | none => 0
  | some .badMagic => 1
  | some .badCount => 2
  | some .tooFewServed => 3
  | some .order => 4

/-- The code of a carried category; 0 is none. -/
def carriedCode : Option Category → Nat
  | none => 0
  | some .standard => 1
  | some .priority => 2
  | some .staff => 3

/-- The code of a seat status. -/
def seatStatusCode : SeatStatus → Nat
  | .free => 0
  | .reservedNow => 1
  | .reservedFrom => 2
  | .misrouted => 3
  | .released => 4
  | .blank => 5
  | .unassigned => 6

/-- The four marks as bits. -/
def marksCode (m : Marks) : Nat :=
  bit m.unverified + 2 * bit m.prioritySeating + 4 * bit m.quietZone + 8 * bit m.staff

/-- The code of a fault mode. -/
def faultModeCode : FaultMode → Nat
  | .latch => 0
  | .retry => 1
  | .report => 2

/-- The code of a unit state. -/
def unitStateCode : UnitState → Nat
  | .active => 0
  | .suspect => 1
  | .backoff => 2
  | .failed => 3
  | .resting => 4
  | .duplicate => 5
  | .foreign => 6

/-- The code of a link state (Table 12-7). -/
def linkStateCode : LinkState → Nat
  | .off => 0
  | .enumerating => 1
  | .running => 2
  | .resting => 3
  | .rousing => 4

/-- A position or index; none is 127 (R170). -/
def orNone (n : Option Nat) : Nat := n.getD 127

/-- The number of a request in the result word; 0 is none (Table 12-7). -/
def requestCode : Option RequestKind → Nat
  | none => 0
  | some .activateRoute => 1
  | some .previewRoute => 2
  | some .cancelRoute => 3
  | some .seatConfirm => 4
  | some .clearSeats => 5
  | some .reenumerate => 6
  | some .refresh => 7

/-- The code of a result (chapter 12). -/
def resultCode : ResultCode → Nat
  | .none => 0
  | .done => 1
  | .pending => 2
  | .busy => 3
  | .badArgument => 4
  | .invalidImage => 5
  | .notPending => 6
  | .late => 7
  | .nothingToConfirm => 8
  | .linkOff => 9

/-- A raw delay as ARRIVAL shows it: the delay plus 99, or 2,047 (R170). -/
def rawDelayShown (r : Option Int) : Nat :=
  match r with
  | none => 2047
  | some d => (d + 99).toNat

/-- A raw delay as a notice carries it: two's complement in 16 bits, or 8000h (R170). -/
def rawDelayCarried (r : Option Int) : Nat :=
  match r with
  | none => 0x8000
  | some d => (BitVec.ofInt 16 d).toNat

/-! ## Status words (Table 12-7) -/

/-- RESULT. -/
def resultWord (r : Result) : Nat :=
  place 24 8 r.tag.toNat + place 20 4 (requestCode r.request) + place 8 8 (resultCode r.code) +
    place 0 4 (reasonCode r.reason)

/-- The phase of a pending switch. -/
def phaseCode : PendingSwitch → Nat
  | .none => 0
  | .reading _ _ _ => 1
  | .waiting _ _ _ _ => 2

/-- ROUTE_STATE; the fields of an absent route or switch are 0 (log 14). -/
def routeStateWord (r : Route) : Nat :=
  let active := match r.active with
    | none => 0
    | some a => 1 + place 1 1 (imageCode a.image) + place 8 7 a.served.length + place 16 16 a.copy.service
  let pending := match r.pendingSwitch.image with
    | none => 0
    | some i => place 4 1 (imageCode i)
  active + place 2 2 (phaseCode r.pendingSwitch) + pending + place 5 1 (bit r.previewRead.isSome)

/-- PROGRESS. -/
def progressWord (t : Tracker) (f : Filter) : Nat :=
  place 0 7 (orNone (t.approach.map Approach.current)) + place 8 7 (orNone (t.approach.bind Approach.next)) +
    place 16 3 (approachCode t.approach) + place 20 1 (lockCode f.lock) + place 22 2 (modeCode f.mode) +
    place 24 1 (bit f.sourcePresent) + place 25 1 (bit f.estimated)

/-- SPEEDS. -/
def speedsWord (f : Filter) : Nat := place 0 16 f.smoothed + place 16 16 f.lastSpeed

/-- ARRIVAL (R170). -/
def arrivalWord (t : Tracker) : Nat :=
  place 0 11 (ceilDiv t.eta 60) + place 11 11 (rawDelayShown t.rawDelay) + place 22 10 t.delay

/-- The code of a preview outcome. -/
def outcomeCode : PreviewOutcome → Nat
  | .none => 0
  | .valid => 1
  | .invalid r => 1 + reasonCode (some r)

/-- The first PREVIEW word. -/
def previewWord (p : Preview) : Nat :=
  place 0 1 (imageCode p.image) + place 1 3 (outcomeCode p.outcome) + place 4 1 (bit p.locked) +
    place 5 1 (bit p.validForPosition) + place 8 7 (orNone p.nearest) + place 16 7 (orNone p.next)

/-- CONSIST. -/
def consistWord (r : Route) : Nat :=
  place 0 8 r.consist.coach + place 8 2 (portionCode r.consist.portion) +
    place 12 1 (orientationCode r.consist.orientation) + place 13 1 (bit r.consist.inService) +
    place 16 1 (bit r.mismatch)

/-- SEAT_SUMMARY. -/
def summaryWord (r : Reservations) : Nat :=
  place 0 8 r.reservedNowCount + place 8 8 r.releasedCount + place 16 1 (bit r.unverified)

/-- LINK_x. -/
def linkWord (k : Link) : Nat :=
  place 0 3 (linkStateCode k.state) + place 3 1 (bit k.overlength) + place 4 1 (bit k.chainIntact) +
    place 5 1 (bit k.overflow) + place 8 6 k.units.length + place 16 6 k.failedCount + place 24 6 k.queue.length

/-- The current value of a status word (Table 9-2). -/
def statusValue (s : State) (w : Nat) : Nat :=
  match w with
  | 0 => resultWord s.request.result
  | 1 => routeStateWord s.route
  | 2 => progressWord s.tracker s.filter
  | 3 => place 0 24 s.filter.metres
  | 4 => speedsWord s.filter
  | 5 => arrivalWord s.tracker
  | 6 => previewWord s.route.preview
  | 7 => place 0 24 s.route.preview.distance
  | 8 => consistWord s.route
  | 9 => summaryWord s.res
  | 10 => linkWord s.linkA
  | 11 => linkWord s.linkB
  | 12 => linkWord s.linkP
  | 13 => s.timebase.toNat
  | n => if 16 ≤ n ∧ n ≤ 35 then place 0 16 (s.status.counts.getD (n - 16) 0) else 0

/-! ## View words (Table 12-8) -/

/-- A unit view word (R148). -/
def unitViewValue (k : Link) (address : Nat) : Nat :=
  match k.unit address with
  | none => 0
  | some u =>
    1 + place 1 3 (unitStateCode u.state) + place 4 3 u.page.kind.toNat + place 8 2 u.page.technology.toNat +
      place 16 8 u.page.label1 + place 24 8 u.page.label2

/-- The first seat view word of a seat (R149). -/
def seatViewFirst (e : SeatEntry) : Nat :=
  place 0 3 (seatStatusCode e.resolved.status) + place 8 7 (orNone e.resolved.stop) +
    place 16 2 (carriedCode e.resolved.category) + place 24 4 (marksCode e.resolved.marks)

/-- The second seat view word of a seat (R149). -/
def seatViewSecond (s : State) (n : Nat) : Nat :=
  let e := s.seat n
  let g := decidingSegment s e
  let version := match e.version with
    | none => 0
    | some v => place 0 8 v.toNat + place 8 1 1
  let bound := match e.bound with
    | none => 0
    | some b => place 12 1 1 + place 13 2 (linkCode b.link) + place 16 6 b.address + place 22 1 (b.slot - 1)
  version + place 9 1 (bit (g.any Segment.confirmed)) + place 10 1 (bit (g.any Segment.released)) +
    place 11 1 (bit (s.res.releaseList.any fun x => x.seat == n)) + bound + place 23 1 (bit (unitFailed s e))

/-- The current value of a status or view word (R142, R148, R149). -/
def currentValue (s : State) (w : ViewWord) : Word :=
  BitVec.ofNat 32 (match w with
    | .status w => statusValue s w.val
    | .unit l n => unitViewValue (s.link l) n.val
    | .seat w =>
      let n := w.val / 2 + 1
      if w.val % 2 = 0 then seatViewFirst (s.seat n) else seatViewSecond s n)

/-! ## Notice entries (R141, Tables 9-1 and 12-9) -/

/-- The kind of a notice, 1..21 in the order of Table 9-1. -/
def noticeKind : Notice → Nat
  | .nextStop _ _ _ _ => 1
  | .divideAhead _ _ => 2
  | .arriving _ _ => 3
  | .arrived _ _ _ => 4
  | .departed _ _ => 5
  | .stopPassed _ _ => 6
  | .doorsAway _ _ _ => 7
  | .lockChanged _ => 8
  | .coastStarted _ => 9
  | .coastEnded _ => 10
  | .delayChanged _ _ _ => 11
  | .routeActive _ _ _ => 12
  | .consistMismatch _ _ => 13
  | .seatReleased _ _ _ => 14
  | .seatMisrouted _ _ _ => 15
  | .journalLoss _ _ _ => 16
  | .unitFailed _ _ _ _ => 17
  | .unitRecovered _ _ _ => 18
  | .unitDuplicate _ _ _ => 19
  | .chainBroken _ _ _ => 20
  | .chainReady _ _ _ => 21

/-- The subject of a unit: the link in bits 25..24 and the address in bits 22..16 of word 0. -/
def unitSubject (l : LinkId) (address : Nat) : Nat := place 8 2 (linkCode l) + place 0 7 address

/-- The subject of a notice, of 16 bits. -/
def noticeSubject : Notice → Nat
  | .nextStop code _ _ _ => code
  | .divideAhead code _ => code
  | .arriving code _ => code
  | .arrived code _ _ => code
  | .departed code _ => code
  | .stopPassed code _ => code
  | .doorsAway code _ _ => code
  | .lockChanged _ => 0
  | .coastStarted _ => 0
  | .coastEnded _ => 0
  | .delayChanged code _ _ => code
  | .routeActive code _ _ => code
  | .consistMismatch _ _ => 0
  | .seatReleased seat _ _ => seat
  | .seatMisrouted seat _ _ => seat
  | .journalLoss seat _ _ => seat
  | .unitFailed l a _ _ => unitSubject l a
  | .unitRecovered l a _ => unitSubject l a
  | .unitDuplicate l a _ => unitSubject l a
  | .chainBroken l _ _ => linkCode l
  | .chainReady l _ _ => linkCode l

/-- The first argument of a notice. -/
def noticeFirst : Notice → Nat
  | .nextStop _ eta _ _ => eta
  | .divideAhead _ destination => destination
  | .arriving _ estimated => bit estimated
  | .arrived _ delay _ => rawDelayCarried delay
  | .departed _ lock => lockCode lock
  | .stopPassed _ estimated => bit estimated
  | .doorsAway _ door _ => doorCode door
  | .lockChanged lock => lockCode lock
  | .coastStarted mode => modeCode mode
  | .coastEnded mode => modeCode mode
  | .delayChanged _ delay _ => delay
  | .routeActive _ service _ => service
  | .consistMismatch portion _ => portionCode portion
  | .seatReleased _ code _ => code
  | .seatMisrouted _ code _ => code
  | .journalLoss _ slot _ => slot
  | .unitFailed _ _ mode _ => faultModeCode mode
  | .unitRecovered _ _ retries => retries
  | .unitDuplicate _ _ label => label
  | .chainBroken _ address _ => address
  | .chainReady _ entries _ => entries

/-- The second argument of a notice. -/
def noticeSecond : Notice → Nat
  | .nextStop _ _ side estimated => doorSideCode side + 256 * bit estimated
  | .divideAhead _ _ => 0
  | .arriving _ _ => 0
  | .arrived _ _ final => bit final
  | .departed _ _ => 0
  | .stopPassed _ _ => 0
  | .doorsAway _ _ distance => distance
  | .lockChanged _ => 0
  | .coastStarted mode => causeCode (modeCause mode)
  | .coastEnded _ => 0
  | .delayChanged _ _ raw => rawDelayCarried (some raw)
  | .routeActive _ _ image => imageCode image
  | .consistMismatch _ reason => reasonCode (some reason)
  | .seatReleased _ _ index => index
  | .seatMisrouted _ _ index => index
  | .journalLoss _ _ cause => match cause with | .overrun => 1 | .torn => 2
  | .unitFailed _ _ _ cause => match cause with | .misses => 1 | .wake => 2
  | .unitRecovered _ _ _ => 0
  | .unitDuplicate _ _ _ => 0
  | .chainBroken _ _ step => step.getD 0xFF
  | .chainReady _ _ ending => match ending with | .chainEnd => 0 | .broken => 1 | .overlength => 2

/-- The four words of a notice entry (chapter 12). -/
def noticeWords (e : NoticeEntry) : List Word :=
  [BitVec.ofNat 32 (place 0 8 (noticeKind e.notice) + place 16 16 (noticeSubject e.notice)),
    BitVec.ofNat 32 (noticeFirst e.notice), BitVec.ofNat 32 (noticeSecond e.notice), e.time]

/-! ## Link words (Tables 12-10 and 12-12) -/

/-- The request kinds of the links, in the order of Table 6-1. -/
inductive FrameKind where
  | openChain | readPage | setAddress | show | setLevel | probe | rest | rouse
  deriving DecidableEq, Repr

/-- The code of a request kind. -/
def frameCode : FrameKind → Nat
  | .openChain => 0
  | .readPage => 1
  | .setAddress => 2
  | .show => 3
  | .setLevel => 4
  | .probe => 5
  | .rest => 6
  | .rouse => 7

/-- A link word of a number. -/
def half (n : Nat) : Half := BitVec.ofNat 16 n

/-- A frame: the header, then the payload words (R90, Table 12-10). -/
def frameOf (address : Nat) (kind : FrameKind) (payload : List Half) : List Half :=
  half (place 9 7 address + place 6 3 (frameCode kind) + place 0 6 payload.length) :: payload

/-- Characters on a link, two to a word, the first in bits 15..8; an odd last one is padded with 00h (chapter 12). -/
def charWords : List Byte → List Half
  | [] => []
  | [a] => [half (256 * a.toNat)]
  | a :: b :: rest => half (256 * a.toNat + b.toNat) :: charWords rest

/-- A short code of four characters, or 00h characters for none. -/
def codeWords (code : Option (List Byte)) : List Half := charWords (code.getD [0, 0, 0, 0])

/-- The three words of a slot (Table 12-12). -/
def slotWords (c : SlotContent) : List Half :=
  half (place 0 4 (seatStatusCode c.status) + place 4 2 (carriedCode c.category) + place 6 4 (marksCode c.marks)) ::
    codeWords c.code

/-- The code of a position mark. -/
def positionMarkCode : PositionMark → Nat
  | .passed => 0
  | .here => 1
  | .ahead => 2

/-- The three words of a strip entry (Table 12-12). -/
def stripEntryWords (e : StripEntry) : List Half :=
  half (place 0 2 (positionMarkCode e.position) + place 2 1 (bit e.divide) + place 3 1 (bit e.join)) ::
    codeWords (some e.code)

/-- The code of a headline phrase. -/
def phraseCode : Phrase → Nat
  | .none => 0
  | .nextStop => 1
  | .arriving => 2
  | .standingAt => 3
  | .terminatesHere => 4

/-- The payload words of a SHOW (Table 12-12). -/
def contentWords : Content → List Half
  | .seat slots => half 0 :: slots.flatMap slotWords
  | .strip entries delay estimated =>
    half (place 14 2 1 + place 13 1 (bit estimated) + place 0 4 entries.length) :: half delay ::
      entries.flatMap stripEntryWords
  | .headline phrase name side delay coach estimated =>
    half (place 14 2 2 + place 0 3 (phraseCode phrase) + place 4 2 (doorSideCode side) + place 6 1 (bit estimated)) ::
      half delay :: half coach :: charWords name

end Sys2Proof.Machine
end

