-- ==== Sys2Proof/Machine/Enumeration.lean ====
section
/-! DEFINITION. Transactions, link enable and disable, and enumeration: its steps, the entering of a unit and its bindings, and its ending (R93 to R105). -/

namespace Sys2Proof.Machine

/-! ## Transactions -/

/-- A transaction begun: the frame, the reply window in force and the time of its header (R93). -/
def beginFrame (l : LinkId) (purpose : Purpose) (address : Nat) (kind : FrameKind) (payload : List Half) (s : State) :
    State :=
  s.putLink l { s.link l with
    transaction := some ⟨purpose, address, frameOf address kind payload, s.items.replyWindow, s.timebase⟩ }

/-- The transaction in flight gone. -/
def clearTransaction (l : LinkId) (s : State) : State := s.putLink l { s.link l with transaction := none }

/-- The frame of a purpose awaits a reply; a broadcast does not (R93). -/
def Purpose.awaits : Purpose → Bool
  | .openChain => false
  | .rouse => false
  | .rest => false
  | .item it => match it.body with | .level _ => false | .content _ => true | .probe => true
  | .basePage _ => true
  | .extendedPage _ _ _ => true
  | .setAddress _ _ => true
  | .checkProbe _ _ => true
  | .unassigned _ => true
  | .wakeProbe _ => true
  | .backoffProbe _ => true

/-- The direction output of a link (R90, Table 0-4): driven from the header of a frame until its last word has gone. The
last word of a broadcast ends its transaction; that of any other frame goes 32 µs a word after the header, which the
timebase shows to the millisecond (log 28). -/
def Link.driving (k : Link) (now : Time) : Bool :=
  match k.transaction with
  | some t => !t.purpose.awaits || decide ((now - t.began).toNat * 1000 < 32 * t.frame.length)
  | none => false

/-- A reply is well-formed for a transaction (R92): its status code is admitted, it carries the frame's address, and
PAGE_FOLLOWS brings exactly four page words without a gap. -/
def wellFormedReply (t : Transaction) (r : Reply) : Bool :=
  let code := replyCode r
  t.purpose.awaits && replyAddress r == t.address &&
  match t.purpose with
  | .basePage _ => code == 3 && r.pages.length == 4 && !r.gap
  | .extendedPage _ _ _ => code == 3 && r.pages.length == 4 && !r.gap
  | .setAddress _ _ => code == 0
  | _ => code == 0 || code == 1

/-- A miss counted: MISS_x rises, and on a link that is RUNNING, RESTING or ROUSING the chain-intact latch clears
(R94). -/
def countMiss (l : LinkId) (s : State) : State :=
  let s1 := bump l.missCounter s
  if (s1.link l).state.up then onLink l (fun k => { k with chainIntact := false }) s1 else s1

/-! ## Starting and stopping -/

/-- Every seat binding that names a unit of a link removed (R98, R99). -/
def unbind (l : LinkId) (s : State) : State :=
  setSeats (s.res.seats.map fun e => if e.bound.any fun b => b.link == l then { e with bound := none } else e) s

/-- An enumeration starts: OPEN_CHAIN is sent, the table, the bindings, the queue and the flags are emptied, and the
link elements take their reset values, but for the overflow latch (R99, R121 to R123, log 27). -/
def startEnumeration (l : LinkId) (s : State) : State :=
  let s1 := markMany (allUnitBits l) (unbind l s)
  beginFrame l .openChain 127 .openChain []
    (setLink l { Link.reset with state := .enumerating, overflow := (s1.link l).overflow } s1)

/-- A link disabled (R98): everything it holds returns to the reset values and it enters OFF. -/
def disableLink (l : LinkId) (s : State) : State := setLink l .reset (markMany (allUnitBits l) (unbind l s))

/-- A LINK_ENABLE setting taken for one link (R97, R98). -/
def switchLink (before after : Bool) (l : LinkId) (s : State) : State :=
  if !before && after then (if (s.link l).state = .off then startEnumeration l s else s)
  else if before && !after then disableLink l s
  else s

/-! ## Steps -/

/-- READ_PAGE 0 sent to address 0. -/
def sendBasePage (l : LinkId) (attempt : Nat) (s : State) : State :=
  beginFrame l (.basePage attempt) 0 .readPage [half 0] s

/-- READ_PAGE of an extended page sent to address 0. -/
def sendExtendedPage (l : LinkId) (number attempt : Nat) (page : Page) (s : State) : State :=
  beginFrame l (.extendedPage number attempt page) 0 .readPage [half number] s

/-- SET_ADDRESS with the next address sent to address 0. -/
def sendSetAddress (l : LinkId) (attempt : Nat) (page : Page) (s : State) : State :=
  beginFrame l (.setAddress attempt page) 0 .setAddress [half (place 0 7 (s.link l).nextAddress)] s

/-- The check probe sent to the address a missed SET_ADDRESS carried. -/
def sendCheckProbe (l : LinkId) (attempt : Nat) (page : Page) (s : State) : State :=
  beginFrame l (.checkProbe attempt page) (s.link l).nextAddress .probe [] s

/-! ## Entering a unit -/

/-- A label names a seat. -/
def labelUsable (n : Nat) : Bool := decide (1 ≤ n) && decide (n ≤ 128)

/-- The usable labels of a seat unit, each with its slot (R103). -/
def usableLabels (p : Page) : List (Nat × Nat) :=
  let first := if labelUsable p.label1 then [(p.label1, 1)] else []
  let second := if p.kind = 1 ∧ labelUsable p.label2 ∧ p.label2 ≠ p.label1 then [(p.label2, 2)] else []
  first ++ second

/-- A unit is entered FOREIGN (R104). -/
def entersForeign (l : LinkId) (p : Page) : Bool :=
  !(seatKind p.kind || panelKind p.kind) || p.technology == 3 ||
  match l with
  | .p => seatKind p.kind
  | .a => panelKind p.kind || (usableLabels p).isEmpty
  | .b => panelKind p.kind || (usableLabels p).isEmpty

/-- The first usable label already bound, of a seat unit that may bind (R103). -/
def boundLabel (s : State) (l : LinkId) (p : Page) : Option Nat :=
  if l = .p then none
  else ((usableLabels p).find? fun x => (s.seat x.1).bound.isSome).map Prod.fst

/-- The state a unit is entered in (Table 6-4). -/
def entryState (s : State) (l : LinkId) (p : Page) : UnitState :=
  if entersForeign l p then .foreign else if (boundLabel s l p).isSome then .duplicate else .active

/-- A new entry (Tables 6-4 and 8-1). -/
def newEntry (s : State) (l : LinkId) (address : Nat) (p : Page) : UnitEntry where
  address := address
  page := p
  state := entryState s l p
  missCount := 0
  retryCount := 0
  ackSeat := none
  ackStrip := none
  ackHeadline := none
  owedSeat := false
  owedStrip := false
  owedHeadline := false
  hold := none
  lastSuccess := s.timebase
  probeDeadline := s.timebase + ms (s.items.probeInterval * 1000)
  backoff := none
  probeDue := none
  episode := false
  rested := false

/-- The seats of a unit's usable labels bound to it (R103). -/
def bindSeats (l : LinkId) (address : Nat) (p : Page) (s : State) : State :=
  (usableLabels p).foldl (fun s x => setSeat x.1 { s.seat x.1 with bound := some ⟨l, address, x.2⟩ } s) s

/-- A unit entered at the next address: its entry, its bindings or UNIT_DUPLICATE, and the next address (R102 to
R104). -/
def enterUnit (l : LinkId) (p : Page) (s : State) : State :=
  let address := (s.link l).nextAddress
  let u := newEntry s l address p
  let s1 := onLink l (fun k => { k with units := k.units ++ [u], nextAddress := address + 1 }) s
  let s2 := markMany (unitBit l address) s1
  match u.state with
  | .active => if l = .p then s2 else bindSeats l address p s2
  | .duplicate => raise (.unitDuplicate l address ((boundLabel s l p).getD 0)) s2
  | _ => s2

/-! ## The quiet delay -/

/-- The start of a quiet delay judged: on a RUNNING link of a coach out of service, with QUIET enabled and none
running (R131). -/
def judgeQuiet (l : LinkId) (s : State) : State :=
  let k := s.link l
  if k.state = .running ∧ !s.route.consist.inService ∧ s.items.quietEnable ∧ k.quietDelay = none then
    s.putLink l { k with quietDelay := some (s.timebase + ms (s.items.quietDelay * 60000)) }
  else s

/-! ## Ending -/

/-- The link as an enumeration's end leaves it: RUNNING, with its flags, the UNASSIGNED frames due, a full refresh
owed to its ACTIVE units and LEVEL owed (R96, R100, R104, R110). -/
def Link.enumerated (k : Link) (ending : Ending) : Link :=
  { k with
    state := .running
    overlength := decide (ending = .overlength)
    chainIntact := decide (ending ≠ .broken)
    endedBroken := decide (ending = .broken)
    unassignedDue := (k.units.filter fun u => u.state == .duplicate).map UnitEntry.address
    units := k.units.map fun u => if u.state = .active then u.refresh else u
    levelOwed := true }

/-- An enumeration ends: CHAIN_READY, RUNNING, the sweep of the entry into RUNNING and the quiet delay (R100, R115,
R131). -/
def endEnumeration (l : LinkId) (ending : Ending) (s : State) : State :=
  let n := (s.link l).units.length
  judgeQuiet l (sweepLink l (raise (.chainReady l n ending) (onLink l (fun k => k.enumerated ending) s)))

/-- An enumeration ends BROKEN: CHAIN_BROKEN first, with the step that failed (R100). -/
def breakEnumeration (l : LinkId) (step : Option Nat) (s : State) : State :=
  endEnumeration l .broken (raise (.chainBroken l (s.link l).nextAddress step) s)

/-- The transaction in flight has ended: a waiting re-enumeration starts, and otherwise its ending is handed to the
handler (R93, R105). -/
def ended (l : LinkId) (handler : State → State) (s : State) : State :=
  let s1 := clearTransaction l s
  if (s.link l).reenumerate then startEnumeration l s1 else handler s1

/-! ## Answers to the steps -/

/-- A well-formed base page: overlength at capacity, else the extended pages or the address (R99, R100). -/
def takeBasePage (l : LinkId) (p : Page) (s : State) : State :=
  if l.capacity ≤ (s.link l).units.length then endEnumeration l .overlength s
  else if p.extended = 0 then sendSetAddress l 1 p s
  else sendExtendedPage l 1 1 p s

/-- A well-formed extended page: the next page or the address (R99, R101). -/
def takeExtendedPage (l : LinkId) (number : Nat) (p : Page) (w1 : Half) (s : State) : State :=
  let q := takePage p number w1
  if number < q.extended then sendExtendedPage l (number + 1) 1 q s else sendSetAddress l 1 q s

/-- An address step has succeeded: the unit is entered and the next base page is read (R99). -/
def addressTaken (l : LinkId) (p : Page) (s : State) : State := sendBasePage l 1 (enterUnit l p s)

/-- A step of the enumeration has missed (R99, R100): it is tried again up to two more times. -/
def missStep (l : LinkId) (purpose : Purpose) (s : State) : State :=
  match purpose with
  | .basePage n => if n < 3 then sendBasePage l (n + 1) s else endEnumeration l .chainEnd s
  | .extendedPage number n p =>
    if n < 3 then sendExtendedPage l number (n + 1) p s else breakEnumeration l (some number) s
  | .setAddress n p => sendCheckProbe l n p s
  | .checkProbe n p => if n < 3 then sendSetAddress l (n + 1) p s else breakEnumeration l none s
  | _ => s

/-- REENUMERATE taken for a link that is not OFF (R105): the link enters ENUMERATING and the enumeration starts now or
when the transaction in flight has ended. A rest, a rousing and a quiet delay end (R131, R134). -/
def reenumerateLink (l : LinkId) (s : State) : State :=
  let s1 := onLink l (fun k => { k with
    state := .enumerating, quietDelay := none, restDue := false, rouseDue := false, wakeExpiry := none,
    wakePosition := none, unassignedDue := [] }) s
  if (s1.link l).transaction.isSome then onLink l (fun k => { k with reenumerate := true }) s1
  else startEnumeration l s1

end Sys2Proof.Machine
end

