-- ==== Sys2Proof/Machine/Delivery.lean ====
section
/-! DEFINITION. Sending and its endings on a running link: the order of frames, replies to content, misses, fault modes, back-off, rest and rousing (R104, R116 to R119, R124 to R135). -/

namespace Sys2Proof.Machine

/-! ## Units -/

/-- A successful transaction: its time, and the probe deadline set afresh (R119). -/
def UnitEntry.succeed (u : UnitEntry) (now : Time) (interval : Nat) : UnitEntry :=
  { u with lastSuccess := now, probeDeadline := now + ms (interval * 1000) }

/-- An OK reply to a SHOW or a PROBE from the queue: the miss count is 0, SUSPECT becomes ACTIVE, the report episode
ends (R117, R129). -/
def UnitEntry.answered (u : UnitEntry) : UnitEntry :=
  { u with missCount := 0, state := if u.state = .suspect then .active else u.state, episode := false }

/-- The e-paper hold begun at an OK reply to a SHOW (R118). -/
def UnitEntry.beginHold (u : UnitEntry) (now : Time) (seconds : Nat) : UnitEntry :=
  if u.page.technology = 2 ∧ 0 < seconds then { u with hold := some (now + ms (seconds * 1000)) } else u

/-! ## Replies to content (R117) -/

/-- OK to a SHOW of a content. -/
def showOk (l : LinkId) (address : Nat) (c : Content) (s : State) : State :=
  updateUnit l address (fun u =>
    ((u.acknowledge c).answered.succeed s.timebase s.items.probeInterval).beginHold s.timebase s.items.ePaperHold) s

/-- OK to a PROBE from the queue. -/
def probeOk (l : LinkId) (address : Nat) (s : State) : State :=
  updateUnit l address (fun u => u.answered.succeed s.timebase s.items.probeInterval) s

/-- BUSY to a PROBE from the queue. -/
def probeBusy (l : LinkId) (address : Nat) (s : State) : State :=
  updateUnit l address (fun u => u.succeed s.timebase s.items.probeInterval) s

/-- BUSY to a SHOW: the item is discarded for a newer queued one, or re-appended. -/
def showBusy (l : LinkId) (it : Item) (s : State) : State :=
  onLink l (fun k => k.giveBack it)
    (updateUnit l it.address (fun u => u.succeed s.timebase s.items.probeInterval) s)

/-! ## Fault handling (R124 to R129) -/

/-- The item that brought an entry into fault handling set owed, or discarded if it is a PROBE (R125). -/
def oweItem (l : LinkId) (it : Option Item) (s : State) : State :=
  match it with
  | some it => onLink l (fun k => k.owe it) s
  | none => s

/-- The item that brought an entry into fault handling re-appended or discarded (R129). -/
def giveBackItem (l : LinkId) (it : Option Item) (s : State) : State :=
  match it with
  | some it => onLink l (fun k => k.giveBack it) s
  | none => s

/-- LATCH: the unit becomes FAILED and UNIT_FAILED is raised (R126). -/
def latchUnit (l : LinkId) (address : Nat) (cause : FailCause) (it : Option Item) (s : State) : State :=
  oweItem l it (raise (.unitFailed l address .latch cause) (updateUnit l address (fun u => { u with state := .failed }) s))

/-- RETRY: the unit becomes BACKOFF with a back-off expiry (R127). -/
def backoffUnit (l : LinkId) (address : Nat) (it : Option Item) (s : State) : State :=
  oweItem l it (updateUnit l address (fun u =>
    { u with state := .backoff, backoff := some (s.timebase + ms (retryMs s.items.retryInterval)), probeDue := none }) s)

/-- REPORT: the unit is ACTIVE with a miss count of 0, and UNIT_FAILED is raised once an episode (R129). -/
def reportUnit (l : LinkId) (address : Nat) (cause : FailCause) (it : Option Item) (s : State) : State :=
  let fresh := ((s.link l).unit address).any fun u => !u.episode
  let s1 := updateUnit l address (fun u => { u with state := .active, missCount := 0, episode := true }) s
  giveBackItem l it (raiseIf fresh (.unitFailed l address .report cause) s1)

/-- A unit enters fault handling under the FAULT_MODE of its link (R125). -/
def enterFault (l : LinkId) (address : Nat) (cause : FailCause) (it : Option Item) (s : State) : State :=
  match s.items.faultMode l with
  | .latch => latchUnit l address cause it s
  | .retry => backoffUnit l address it s
  | .report => reportUnit l address cause it s

/-- A queued SHOW or PROBE has missed (R124). -/
def missItem (l : LinkId) (it : Item) (s : State) : State :=
  match (s.link l).unit it.address with
  | none => s
  | some u =>
    let n := min 15 (u.missCount + 1)
    if n < s.items.missDeglitch then
      onLink l (fun k => k.giveBack it) (updateUnit l it.address (fun u =>
        { u with missCount := n, state := if u.state = .active then .suspect else u.state }) s)
    else
      enterFault l it.address .misses (some it) (updateUnit l it.address (fun u => { u with missCount := n }) s)

/-! ## Back-off probes (R128) -/

/-- A back-off probe answered: the unit has recovered. -/
def recoverUnit (l : LinkId) (address : Nat) (s : State) : State :=
  match (s.link l).unit address with
  | none => s
  | some u =>
    let rest := (s.link l).state = .resting ∧ u.page.canRest
    let s1 := updateUnit l address (fun u =>
      { (u.succeed s.timebase s.items.probeInterval).refresh with
        retryCount := 0
        missCount := 0
        state := if rest then .resting else .active
        rested := if rest then true else u.rested }) s
    sweepLink l (raise (.unitRecovered l address u.retryCount) s1)

/-- A back-off probe missed: the unit fails at the retry limit, or backs off again. -/
def missBackoff (l : LinkId) (address : Nat) (s : State) : State :=
  match (s.link l).unit address with
  | none => s
  | some u =>
    let n := min 255 (u.retryCount + 1)
    if (retryMax s.items.retryLimit).any fun limit => decide (limit ≤ n) then
      raise (.unitFailed l address .retry .misses)
        (updateUnit l address (fun u => { u with retryCount := n, state := .failed }) s)
    else
      updateUnit l address (fun u =>
        { u with retryCount := n, backoff := some (s.timebase + ms (retryMs s.items.retryInterval)) }) s

/-! ## Rest and rousing (R131 to R134) -/

/-- The lowest address of a unit whose rested flag is set, other than one (R132, R133). -/
def Link.nextRested (k : Link) (except : Option Nat) : Option Nat :=
  (k.units.find? fun u => u.rested && decide (some u.address ≠ except)).map UnitEntry.address

/-- The rousing complete once no unit is left unresolved: RUNNING, LEVEL owed, a sweep, and the quiet delay judged
(R134). -/
def finishRousing (l : LinkId) (s : State) : State :=
  if (s.link l).state = .rousing ∧ (s.link l).nextRested none = none then
    judgeQuiet l (sweepLink l (onLink l (fun k =>
      { k with state := .running, wakeExpiry := none, wakePosition := none, levelOwed := true }) s))
  else s

/-- The wake probe position moved to the next unit not yet probed (R133). -/
def advanceWake (l : LinkId) (except : Option Nat) (s : State) : State :=
  onLink l (fun k => { k with wakePosition := k.nextRested except }) s

/-- A unit has answered its wake probe in time (R133). Its owed refresh waits for the sweep of R134 (log 16). -/
def wakeUnit (l : LinkId) (address : Nat) (busy : Bool) (s : State) : State :=
  updateUnit l address (fun u =>
    { (u.succeed s.timebase s.items.probeInterval).refresh with
      state := .active
      rested := false
      missCount := 0
      episode := u.episode && busy }) s

/-- The report episode of a unit ended by an OK reply that has no other effect on it (R129). -/
def endEpisode (l : LinkId) (address : Nat) (s : State) : State :=
  updateUnit l address (fun u => { u with episode := false }) s

/-- A unit has not answered at rousing: WAKE_ERR_x counts, a refresh is owed and it enters fault handling (R133). The
refresh is owed by kind, whatever the state it leaves the unit in. -/
def wakeMissed (l : LinkId) (address : Nat) (s : State) : State :=
  enterFault l address .wake none
    (updateUnit l address (fun u => { u.refresh with rested := false }) (bump l.wakeCounter s))

/-- A wake probe's unit resolved; then the next position, or the end of the rousing (R133, R134). -/
def afterWake (l : LinkId) (s : State) : State := finishRousing l (advanceWake l none s)

/-- REST has been sent (R132). A coach found back in service rouses the link (log 17). -/
def rested (l : LinkId) (s : State) : State :=
  let s1 := setLinkUnits l { s.link l with
    state := .resting
    restDue := false
    units := (s.link l).units.map fun u =>
      if u.able && u.page.canRest then { u with state := .resting, rested := true } else u } s
  onLink l (fun k => { k with rouseDue := s1.route.consist.inService || k.rouseDue }) s1

/-- ROUSE has been sent (R132). -/
def roused (l : LinkId) (s : State) : State :=
  finishRousing l (advanceWake l none (onLink l (fun k =>
    { k with rouseDue := false, state := .rousing, wakeExpiry := some (s.timebase + ms s.items.wakeTime) }) s))

/-- The wake expiry is reached: every unit not yet probed is resolved as not answering, in ascending address (R133). -/
def expireWake (l : LinkId) (t : Time) (s : State) : State :=
  let s1 := advanceTo t s
  let probed := match (s1.link l).transaction with
    | some ⟨.wakeProbe a, _, _, _, _⟩ => some a
    | _ => none
  let due := ((s1.link l).units.filter fun u => u.rested && decide (some u.address ≠ probed)).map UnitEntry.address
  finishRousing l (advanceWake l probed (due.foldl (fun s a => wakeMissed l a s) s1))

/-- The in-service field of a taken consist handed to a link (R131, R132). A REST in flight keeps REST due until its
last word (log 17). -/
def handService (s : State) (l : LinkId) : State :=
  if s.route.consist.inService then
    onLink l (fun k =>
      let sending := match k.transaction with | some ⟨.rest, _, _, _, _⟩ => true | _ => false
      { k with quietDelay := none, restDue := k.restDue && sending, rouseDue := k.rouseDue || k.state == .resting }) s
  else judgeQuiet l s

/-- The quiet delay expires (R131). -/
def expireQuiet (l : LinkId) (t : Time) (s : State) : State :=
  let s1 := advanceTo t s
  onLink l (fun k => { k with quietDelay := none, restDue := k.restDue || (s1.items.quietEnable && k.state == .running) })
    s1

/-! ## The next frame (R116, R130) -/

/-- The content of an UNASSIGNED frame (R104). The spec states the status of each slot; the slots carry no stop, no
category and no marks (log 48). -/
def unassignedContent (u : UnitEntry) : Content :=
  .seat ((if u.page.kind = 1 then [1, 2] else [1]).map fun _ => ⟨.unassigned, none, none, .clear⟩)

/-- The back-off probe to send next among those due: the one whose expiry is longest past, then the lowest address
(R130, log 35). -/
def Link.dueProbe (k : Link) (now : Time) : Option Nat :=
  (k.units.foldl (fun (best : Option (Nat × Nat)) u =>
    match u.probeDue with
    | none => best
    | some t =>
      let past := (now - t).toNat
      match best with
      | none => some (u.address, past)
      | some b => if b.2 < past then some (u.address, past) else best) none).map Prod.fst

/-- The head item may be sent (R116). -/
def Link.sendable (k : Link) (it : Item) : Bool :=
  match it.body with
  | .level _ => true
  | .probe => (k.unit it.address).any UnitEntry.able
  | .content _ => (k.unit it.address).any fun u => u.able && u.hold.isNone

/-- The frame of an item begun (R116). -/
def beginItem (l : LinkId) (it : Item) (s : State) : State :=
  match it.body with
  | .content c => beginFrame l (.item it) it.address .show (contentWords c) s
  | .level code => beginFrame l (.item it) 127 .setLevel [half code.toNat] s
  | .probe => beginFrame l (.item it) it.address .probe [] s

/-- The head of the queue taken out and sent; one that may not be sent is owed or discarded and the next is taken.
Each removal is a change of the depth of its own and may start a sweep (R113, R115, R116, log 19). The bound is on the
number of heads taken. -/
def sendHeads (l : LinkId) : Nat → State → State
  | 0, s => s
  | n + 1, s =>
    let k := s.link l
    match k.queue with
    | [] => s
    | it :: rest =>
      let s1 := onLink l (fun k => { k with queue := rest }) s
      if k.sendable it then beginItem l it (sweepAfterRemoval l k.queue.length s1)
      else sendHeads l n (sweepAfterRemoval l k.queue.length (onLink l (fun k => k.owe it) s1))

/-- The head of the output queue sent (R116). -/
def sendHead (l : LinkId) (s : State) : State := sendHeads l ((s.link l).queue.length + 1) s

/-- The UNASSIGNED frame of a DUPLICATE unit begun, and no longer due (R104). -/
def sendUnassigned (l : LinkId) (address : Nat) (rest : List Nat) (s : State) : State :=
  let s1 := s.putLink l { s.link l with unassignedDue := rest }
  match (s1.link l).unit address with
  | some u => beginFrame l (.unassigned address) address .show (contentWords (unassignedContent u)) s1
  | none => s1

/-- The back-off probe of a unit begun, and no longer due (R128). -/
def sendBackoffProbe (l : LinkId) (address : Nat) (s : State) : State :=
  beginFrame l (.backoffProbe address) address .probe []
    (updateUnit l address (fun u => { u with probeDue := none }) s)

/-- The next frame of a link chosen and begun, in the order of R130. -/
def nextFrame (l : LinkId) (s : State) : State :=
  let k := s.link l
  if k.transaction.isSome || !k.state.up then s
  else match k.unassignedDue with
    | a :: rest => sendUnassigned l a rest s
    | [] =>
      if k.rouseDue then beginFrame l .rouse 127 .rouse [] s
      else if k.restDue then beginFrame l .rest 127 .rest [] s
      else match (if k.state = .rousing then k.wakePosition else none) with
        | some a => beginFrame l (.wakeProbe a) a .probe [] s
        | none =>
          match k.dueProbe s.timebase with
          | some a => sendBackoffProbe l a s
          | none => sendHead l s

/-! ## Misses -/

/-- A transaction has ended as a miss: counted, then handed to the handler of its frame, unless a re-enumeration waits
for it (R93, R94, R105). -/
def missTransaction (l : LinkId) (t : Transaction) (s : State) : State :=
  ended l (fun s =>
    match t.purpose with
    | .item it => missItem l it s
    | .unassigned _ => s
    | .wakeProbe a => afterWake l (wakeMissed l a s)
    | .backoffProbe a => missBackoff l a s
    | p => missStep l p s) (countMiss l s)

/-- A malformed reply is judged by R92 against the frame in flight: a FAULT with the right address answers a check
probe (R99), a reply that is well-formed after all is no malformed one (log 34), and any other is a miss. -/
def takeMalformed (l : LinkId) (t : Transaction) (r : Reply) (s : State) : State :=
  if !t.purpose.awaits || wellFormedReply t r then s
  else match t.purpose with
    | .checkProbe _ p =>
      if replyCode r = 2 ∧ replyAddress r = t.address then ended l (addressTaken l p) (countMiss l s)
      else missTransaction l t s
    | _ => missTransaction l t s

/-! ## Timers of units -/

/-- A probe deadline expires (R119). -/
def expireProbe (l : LinkId) (u : UnitEntry) (s : State) : State :=
  let s1 := advanceTo u.probeDeadline s
  let k := s1.link l
  let waiting := k.queue.any (fun q => q.address == u.address) || k.inFlight.any fun q => q.address == u.address
  let s2 := if k.state = .running ∧ u.able ∧ !waiting then
      onLink l (fun k => k.offer s1.items.queueNearFull ⟨u.address, .probe⟩) s1
    else s1
  updateUnit l u.address (fun v => { v with probeDeadline := u.probeDeadline + ms (s1.items.probeInterval * 1000) }) s2

/-- A back-off expiry is reached: it is cleared and the probe is due (R128). -/
def expireBackoff (l : LinkId) (address : Nat) (t : Time) (s : State) : State :=
  updateUnit l address (fun u => { u with backoff := none, probeDue := some t }) (advanceTo t s)

/-- An owed flag paid at the end of a hold: its target is composed and offered (R118). -/
def Link.payOwed (sup : Supply) (address : Nat) (k : Link) (kind : ContentKind) : Link :=
  match k.unit address with
  | none => k
  | some u =>
    if u.owed kind then k.offer sup.nearFull ⟨address, .content (sup.target u kind)⟩ else k

/-- An e-paper hold ends (R118). -/
def expireHold (l : LinkId) (address : Nat) (t : Time) (s : State) : State :=
  let s1 := updateUnit l address (fun u => { u with hold := none }) (advanceTo t s)
  if ((s1.link l).unit address).any UnitEntry.able then
    onLink l (fun k => [ContentKind.seat, .strip, .headline].foldl (Link.payOwed (s1.supply l) address) k) s1
  else s1

/-! ## REFRESH (R120) -/

/-- Every owed flag of every entry and the LEVEL flag set, and a sweep started. -/
def refreshLink (l : LinkId) (s : State) : State :=
  sweepLink l (onLink l (fun k => { k with units := k.units.map UnitEntry.refresh, levelOwed := true }) s)

end Sys2Proof.Machine
end

