-- ==== Sys2Proof/Machine/Motion.lean ====
section
/-! DEFINITION. The motion mode: its transitions, the notices and timers of a change, and the reading of the coast cap (R28, R30, R31, R32, R34). -/

namespace Sys2Proof.Machine

/-- The events of Table 2-3. -/
inductive MotionEvent where
  | stale | jump | unlock | regained | consistent | returned
  deriving DecidableEq, Repr

/-- COASTING or HOLDING for a cause, by its choice in COAST_MASK (Table 2-2). -/
def coastChoice (hold : Bool) (c : Cause) : Mode := if hold then .holding c else .coasting c

/-- FOLLOWING or HOLDING(UNLOCK), by the UNLOCK choice in COAST_MASK (Table 2-2). -/
def unlockChoice (i : Items) : Mode := if i.holdOnUnlock then .holding .unlock else .following

/-- The mode an event gives (Table 2-3). -/
def modeAfter (i : Items) (m : Mode) (e : MotionEvent) : Mode :=
  match m with
  | .tracking =>
    match e with
    | .stale => coastChoice i.holdOnStale .stale
    | .jump => coastChoice i.holdOnJump .jump
    | .unlock => unlockChoice i
    | .regained => m
    | .consistent => m
    | .returned => m
  | .coasting _ =>
    match e with
    | .stale => if i.holdOnStale then .holding .stale else m
    | .jump => if i.holdOnJump then .holding .jump else m
    | .unlock => unlockChoice i
    | .regained => .tracking
    | .consistent => .tracking
    | .returned => unlockChoice i
  | .holding .unlock =>
    match e with
    | .regained => .tracking
    | .stale => m
    | .jump => m
    | .unlock => m
    | .consistent => m
    | .returned => m
  | .holding _ =>
    match e with
    | .stale => m
    | .jump => m
    | .unlock => .holding .unlock
    | .regained => .tracking
    | .consistent => .tracking
    | .returned => unlockChoice i
  | .following =>
    match e with
    | .stale => coastChoice i.holdOnStale .stale
    | .regained => .tracking
    | .jump => m
    | .unlock => m
    | .consistent => m
    | .returned => m

/-- The notice a change of mode raises, if any (R30). -/
def modeNotice (old new : Mode) : Option Notice :=
  if (new.coasts || new.holds) && !(old.coasts || old.holds) then some (.coastStarted new)
  else if old.coasts && new.holds then some (.coastStarted new)
  else if (old.coasts || old.holds) && !(new.coasts || new.holds) then some (.coastEnded new)
  else none

/-- The coast-step time after a change of mode: it starts on entry into COASTING and stops on leaving it (R31). -/
def coastTimer (s : State) (new : Mode) : Option Time :=
  if new.coasts then
    if s.filter.mode.coasts then s.filter.coastStep else some (s.timebase + ms s.items.reportPeriod)
  else none

/-- A notice raised where there is one. -/
def raiseSome (n : Option Notice) (s : State) : State :=
  match n with
  | some body => raise body s
  | none => s

/-- The mode replaced: the coast-step time, the notice of R30, and the panels where the estimated flag changed
(R34). -/
def setMode (m : Mode) (s : State) : State :=
  if m = s.filter.mode then s
  else
    let f := { s.filter with mode := m, coastStep := coastTimer s m }
    composePanelsIf (f.estimated != s.filter.estimated) (raiseSome (modeNotice s.filter.mode m) (setFilter f s))

/-- COASTING entered while progress exceeds the coast cap gives HOLDING with that cause (R32). -/
def capped (s : State) (m : Mode) : Mode :=
  match m with
  | .coasting c => if !s.filter.mode.coasts && aboveCap s then .holding c else m
  | _ => m

/-- An event acts on the motion mode (R28). -/
def moveBy (e : MotionEvent) (s : State) : State := setMode (capped s (modeAfter s.items s.filter.mode e)) s

/-- The coast cap read again: progress above it while COASTING changes the mode to HOLDING (R32). -/
def readCap (s : State) : State :=
  match s.filter.mode with
  | .coasting c => if aboveCap s then setMode (.holding c) s else s
  | _ => s

end Sys2Proof.Machine
end

