-- ==== Sys2Proof/Machine/Routes.lean ====
section
/-! DEFINITION. The route engine: the switch and what it hands to its neighbours, a waiting switch at a stop, the preview, and a consist change on an active route (R10 to R20, R24). -/

namespace Sys2Proof.Machine

/-! ## The switch -/

/-- The current stop a switch chooses in the new served list (R14). -/
def chooseStop (c : RouteCopy) (served : List Nat) (start : Start) (p : Nat) : Nat :=
  match start with
  | .auto => nearestPosition (c.marks served) p
  | .index i => (positionIn served i).getD (nearestPosition (c.marks served) p)

/-- The approach state at a served position after a switch (R14). -/
def standingAt (r : ActiveRoute) (pos : Nat) : Approach :=
  ⟨if r.last pos then .terminated else .standing, pos⟩

/-- The tracker after a switch: every notice mark cleared, D 0, R unknown, ETA 0, the standing delay pending
(R46, R55, R56, log 33). -/
def Tracker.switched (t : Tracker) (a : Approach) : Tracker :=
  { t with approach := some a, nextStopMarks := 0, arrivingMarks := 0, arrivedMarks := 0, standingPending := true,
           distanceToGo := 0, eta := 0, rawDelay := none, delay := 0 }

/-- A switch (R15): the route engine's five steps, then the filter (R24), the tracker, the reservation engine (R69,
R75), the composer and ROUTE_ACTIVE. -/
def switchRoute (image : ImageId) (start : Start) (copy : RouteCopy) (s : State) : State :=
  let served := copy.servedList s.route.consist.portion
  let r : ActiveRoute := ⟨image, copy, served⟩
  let c := chooseStop copy served start s.filter.metres
  let old := s.route.active.map fun o => o.copy.service
  let removed := if old = some copy.service then none else old
  let s1 := setRoute { s.route with active := some r, pendingSwitch := .none, mismatch := false } s
  let s2 := setTracker (s1.tracker.switched (standingAt r c)) s1
  let s3 := setFilter { s2.filter with progress := r.mark c * 1000, referencePending := true } s2
  let s4 := readCap s3
  let s5 := rejudge (retag (fun g => g.service == copy.service) r removed s4)
  raise (.routeActive (r.stop c).code copy.service image) (composePanels s5)

/-- A waiting switch abandoned: the pending copy is discarded and INVALID_IMAGE is written with the activation's tag
(R13). -/
def abandonSwitch (tag : Byte) (reason : InvalidReason) (s : State) : State :=
  answer tag .activateRoute .invalidImage (some reason) (setRoute { s.route with pendingSwitch := .none } s)

/-- An entry into STANDING or TERMINATED handed to the route engine: a waiting switch is made or abandoned (R13). -/
def enterStop (s : State) : State :=
  match s.route.pendingSwitch with
  | .waiting image start tag copy =>
    match copy.checkServed (copy.servedList s.route.consist.portion) with
    | none => switchRoute image start copy s
    | some reason => abandonSwitch tag reason s
  | _ => s

/-! ## Reads completed -/

/-- The approach state lets a switch be made at once (R11). -/
def switchable (s : State) : Bool :=
  match s.route.active, s.tracker.approach with
  | some _, some a => a.state == .standing || a.state == .terminated
  | _, _ => true

/-- The read of a pending switch completes with a copy (R11). -/
def completeActivation (copy : RouteCopy) (s : State) : State :=
  match s.route.pendingSwitch with
  | .reading image start tag =>
    let s1 := { s with request := { s.request with busy := none } }
    match copy.invalid s1.route.consist.portion with
    | some reason => abandonSwitch tag reason s1
    | none =>
      if switchable s1 then answer tag .activateRoute .done none (switchRoute image start copy s1)
      else
        answer tag .activateRoute .pending none
          (setRoute { s1.route with pendingSwitch := .waiting image start tag copy } s1)
  | _ => s

/-- The result of a preview of a valid copy (R18). -/
def previewValid (s : State) (image : ImageId) (copy : RouteCopy) : Preview :=
  let marks := copy.marks (copy.servedList s.route.consist.portion)
  let p := s.filter.metres
  let locked := s.filter.lock == .locked
  let at_ := lastAtMost marks (p + s.items.berthDistance)
  let next := if marks.length ≤ at_ + 1 then none else some (at_ + 1)
  { image := image
    outcome := .valid
    locked := locked
    validForPosition := locked
    nearest := some (nearestPosition marks p)
    next := next
    distance := match next with | some n => marks.getD n 0 - p | none => 0 }

/-- The result of a preview of an invalid copy (R18). -/
def previewInvalid (s : State) (image : ImageId) (reason : InvalidReason) : Preview :=
  let locked := s.filter.lock == .locked
  ⟨image, .invalid reason, locked, locked, none, none, 0⟩

/-- The tag of the request that made the unit BUSY (R167). -/
def busyTag (s : State) : Byte :=
  match s.request.busy with
  | some (_, tag) => tag
  | none => 0

/-- The read of a preview completes with a copy (R17, R18). -/
def completePreview (copy : RouteCopy) (s : State) : State :=
  match s.route.previewRead with
  | none => s
  | some image =>
    let tag := busyTag s
    let s1 := { s with request := { s.request with busy := none } }
    match copy.invalid s1.route.consist.portion with
    | some reason =>
      answer tag .previewRoute .invalidImage (some reason)
        (setRoute { s1.route with previewRead := none, preview := previewInvalid s1 image reason } s1)
    | none =>
      answer tag .previewRoute .done none
        (setRoute { s1.route with previewRead := none, preview := previewValid s1 image copy } s1)

/-! ## Consist changes -/

/-- The approach a re-derivation gives for a new served list (R20), and whether it is an entry into TERMINATED. -/
def rederived (s : State) (old new : ActiveRoute) (a : Approach) : Approach × Bool :=
  let fallback : Approach × Bool :=
    let c := lastAtMost (new.copy.marks new.served) (s.filter.metres + s.items.berthDistance)
    if new.last c then (⟨.terminated, c⟩, true) else (⟨.cruising, c⟩, false)
  match a.state with
  | .terminated => (⟨.terminated, new.served.length - 1⟩, false)
  | .standing =>
    match positionIn new.served (old.index a.current) with
    | some c => (⟨.standing, c⟩, false)
    | none => fallback
  | .cruising => fallback
  | .approaching => fallback
  | .arriving => fallback

/-- The served list replaced and c and the approach state re-derived (R20). Then, in an order that is the model's: the
cap is read again (R32, logs 23 and 56), the segments are tagged again and judged (R70, R75), the panels are composed,
and last an entry into TERMINATED reaches the route engine, where it ends the wait of a switch (R13, log 55). -/
def replaceServed (old new : ActiveRoute) (s : State) : State :=
  match s.tracker.approach with
  | none => composePanels (setRoute { s.route with active := some new, mismatch := false } s)
  | some a =>
    let d := rederived s old new a
    let s1 := setRoute { s.route with active := some new, mismatch := false } s
    let s2 := setTracker { s1.tracker with approach := some d.1, standingPending := s1.tracker.standingPending || d.2 } s1
    let s3 := rejudge (retag (fun g => g.tag != .dormant) new none (readCap s2))
    let s4 := composePanels s3
    if d.2 then enterStop s4 else s4

/-- A consist of another portion taken on an active route (R19). The consist is already held. -/
def changePortion (r : ActiveRoute) (portion : Portion) (s : State) : State :=
  let served := r.copy.servedList portion
  match r.copy.checkServed served with
  | some reason =>
    composePanels (raise (.consistMismatch portion reason) (setRoute { s.route with mismatch := true } s))
  | none =>
    if served = r.served then
      composePanels (rejudge (retag (fun g => g.tag != .dormant) r none
        (setRoute { s.route with mismatch := false } s)))
    else replaceServed r { r with served := served } s

/-- A consist record taken by the route engine and the composer (R4, R19). -/
def takeConsist (k : Consist) (s : State) : State :=
  let s1 := markStatus 8 (setRoute { s.route with consist := k } s)
  match s.route.active with
  | some r => if k.portion = s.route.consist.portion then composePanels s1 else changePortion r k.portion s1
  | none => composePanels s1

end Sys2Proof.Machine
end

