-- ==== Sys2Proof/Machine/Approaches.lean ====
section
/-! DEFINITION. The approach tracker: the transition pass of a report evaluation, the coast evaluation, the doors-away test and the arrival arithmetic (R40 to R56). -/

namespace Sys2Proof.Machine

/-! ## Figures -/

/-- The approach distance in use: at least BERTH_DISTANCE + 1 m (R41). -/
def approachLimit (s : State) : Nat := max s.items.approachDistance (s.items.berthDistance + 1)

/-- The distance to go to a served position in metres (R54). -/
def toGo (s : State) (r : ActiveRoute) (n : Nat) : Nat := r.mark n - s.filter.metres

/-- The ETA of a distance to go (R54). -/
def etaOf (s : State) (dtg : Nat) : Nat :=
  if dtg = 0 then 0 else min 65535 (ceilDiv (dtg * 100) (max s.filter.smoothed s.items.speedFloor))

/-- The approach test for a served position; a negative value meets it (R43). -/
def approachMet (s : State) (r : ActiveRoute) (n : Nat) : Bool := decide (r.mark n ≤ s.filter.metres + approachLimit s)

/-- Progress lies within the berth of a served position (R44). -/
def inBerth (s : State) (r : ActiveRoute) (n : Nat) : Bool :=
  decide (distanceTo (r.mark n) s.filter.metres ≤ s.items.berthDistance)

/-- Progress lies beyond the berth of a served position (R49, R50). -/
def beyondBerth (s : State) (r : ActiveRoute) (n : Nat) : Bool :=
  decide (r.mark n + s.items.berthDistance < s.filter.metres)

/-- The stop has a schedule (R2). -/
def Stop.scheduledStop (st : Stop) : Bool := decide (st.scheduled ≤ 2879)

/-- A predicted minute against a stop's schedule, or unknown (R55). -/
def delayAgainst (st : Stop) (minute : Nat) : Option Int :=
  if st.scheduledStop then some (clampInt (-99) 999 ((minute : Int) - (st.scheduled : Int))) else none

/-- The standing delay at a stop (R55). -/
def standingDelay (s : State) (st : Stop) : Option Int := delayAgainst st ((s.filter.lastDaySeconds + 30) / 60)

/-- The displayed delay a known raw delay gives (R56). -/
def nextDelay (delayShow : Nat) (d : Nat) (r : Int) : Nat :=
  if d = 0 then (if (delayShow : Int) ≤ r then r.toNat else 0)
  else if r ≤ (delayShow : Int) - 2 then 0 else (max r 0).toNat

/-- A notice mark set (R46). -/
def setNoticeMark (marks : BitVec 64) (index : Nat) : BitVec 64 := marks ||| (1#64 <<< index)

/-- The approach state and current stop replaced. -/
def setApproach (a : Approach) (s : State) : State := setTracker { s.tracker with approach := some a } s

/-! ## Transitions -/

/-- NEXT_STOP, and DIVIDE_AHEAD where the stop divides, unless the stop's mark is set (R43). -/
def announceNext (r : ActiveRoute) (n : Nat) (s : State) : State :=
  if s.tracker.nextStopMarks.getLsbD (r.index n) then s
  else
    let st := r.stop n
    let s1 := setTracker { s.tracker with nextStopMarks := setNoticeMark s.tracker.nextStopMarks (r.index n) } s
    let s2 := raise (.nextStop st.code (etaOf s (toGo s r n)) (doorSide s.route.consist.orientation st.side)
      s.tracker.heldEstimated) s1
    raiseIf st.divide (.divideAhead st.code (r.stop (r.served.length - 1)).code) s2

/-- CRUISING to APPROACHING (R43). -/
def beginApproach (r : ActiveRoute) (a : Approach) (s : State) : State :=
  announceNext r (a.current + 1) (composePanels (setApproach { a with state := .approaching } s))

/-- APPROACHING to ARRIVING, with ARRIVING unless the stop's mark is set (R44). -/
def beginArriving (r : ActiveRoute) (a : Approach) (s : State) : State :=
  let n := a.current + 1
  let s1 := composePanels (setApproach { a with state := .arriving } s)
  if s1.tracker.arrivingMarks.getLsbD (r.index n) then s1
  else
    raise (.arriving (r.stop n).code s1.tracker.heldEstimated)
      (setTracker { s1.tracker with arrivingMarks := setNoticeMark s1.tracker.arrivingMarks (r.index n) } s1)

/-- The change of c handed to the reservation engine, the composer and the filter (R47, R50), in the order in which R53
lists them (log 56). -/
def handCurrent (s : State) : State := readCap (composePanels (rejudge s))

/-- An arrival at the next stop (R47). -/
def arrive (r : ActiveRoute) (a : Approach) (s : State) : State :=
  let n := a.current + 1
  let final := r.last n
  let raw := standingDelay s (r.stop n)
  let given := s.tracker.arrivedMarks.getLsbD (r.index n)
  let s1 := setTracker { s.tracker with
    approach := some ⟨if final then .terminated else .standing, n⟩
    rawDelay := raw
    standingPending := false
    arrivedMarks := setNoticeMark s.tracker.arrivedMarks (r.index n) } s
  enterStop (handCurrent (raiseIf (!given) (.arrived (r.stop n).code raw final) s1))

/-- The passing of the next stop (R50). -/
def passStop (r : ActiveRoute) (a : Approach) (s : State) : State :=
  let n := a.current + 1
  let final := r.last n
  let t := { s.tracker with approach := some ⟨if final then .terminated else .cruising, n⟩ }
  let t := if final then { t with rawDelay := standingDelay s (r.stop n), standingPending := false } else t
  let s1 := raise (.stopPassed (r.stop n).code s.tracker.heldEstimated) (setTracker t s)
  let s2 := departed n s1.filter.lock (handCurrent s1)
  if final then enterStop s2 else s2

/-- A departure from the current stop (R49). -/
def depart (r : ActiveRoute) (a : Approach) (s : State) : State :=
  let n := a.current + 1
  let near := approachMet s r n
  let s1 := setApproach { a with state := if near then .approaching else .cruising } s
  let s2 := composePanels (raise (.departed (r.stop a.current).code s.filter.lock) s1)
  let s3 := departed a.current s2.filter.lock s2
  if near then announceNext r n s3 else s3

/-! ## The pass -/

/-- A pass as it stands: the state, whether an arrival was made, whether the standing delay was computed, and whether
the pass has stopped. -/
structure Pass where
  state : State
  arrived : Bool
  standing : Bool
  stopped : Bool

/-- The departure condition of a report evaluation (R49). -/
def departs (s : State) (r : ActiveRoute) (a : Approach) : Bool :=
  (s.filter.door.taken == .closed && decide (s.items.departSpeed < s.filter.lastSpeed)) ||
    beyondBerth s r a.current

/-- The arrival condition within the berth; `release` says that the report brought a door release (R47). -/
def arrives (s : State) (r : ActiveRoute) (a : Approach) (release : Bool) : Bool :=
  inBerth s r (a.current + 1) && (decide (s.items.stillCount ≤ s.tracker.stillRun) || release)

/-- One round of the pass: the first test of Table 3-2 that is met (R42). A passing into TERMINATED leaves no test
that could be met, so it stops the pass. -/
def passRound (release : Bool) (x : Pass) : Pass :=
  let s := x.state
  match s.route.active, s.tracker.approach with
  | some r, some a =>
    let n := a.current + 1
    let go (s' : State) : Pass := { x with state := s' }
    let pass : Pass := { x with state := passStop r a s, standing := x.standing || r.last n, stopped := r.last n }
    match a.state with
    | .standing => if departs s r a then go (depart r a s) else { x with stopped := true }
    | .approaching =>
      if beyondBerth s r n then pass
      else if inBerth s r n then go (beginArriving r a s)
      else { x with stopped := true }
    | .arriving =>
      if beyondBerth s r n then pass
      else if arrives s r a release then
        { x with state := arrive r a s, arrived := true, standing := true, stopped := true }
      else { x with stopped := true }
    | .cruising =>
      if beyondBerth s r n then pass
      else if approachMet s r n then go (beginApproach r a s)
      else { x with stopped := true }
    | .terminated => { x with stopped := true }
  | _, _ => { x with stopped := true }

/-- The repeated pass (R42). A pass makes at most three transitions for each of at most 64 stops and one departure,
so 256 rounds reach its end. -/
def runPass (release : Bool) : Nat → Pass → Pass
  | 0, x => x
  | n + 1, x => if x.stopped then x else runPass release n (passRound release x)

/-- The rounds a pass is given. -/
def passRounds : Nat := 256

/-! ## Arithmetic and evaluations -/

/-- The displayed delay updated from the raw delay, where this evaluation computed one (R56). -/
def showDelay (computed : Bool) (code : Nat) (s : State) : State :=
  match s.tracker.rawDelay with
  | none => s
  | some r =>
    let d := nextDelay s.items.delayShow s.tracker.delay r
    if computed && d != s.tracker.delay then
      composePanels (raise (.delayChanged code d r) (setTracker { s.tracker with delay := d } s))
    else s

/-- The train stands at its current stop: STANDING or TERMINATED. -/
def Approach.settled (a : Approach) : Bool := a.state == .standing || a.state == .terminated

/-- The arithmetic while STANDING or TERMINATED: R is kept, but for a pending standing delay, which is computed here
(R54 to R56). -/
def arithmeticSettled (r : ActiveRoute) (a : Approach) (standing : Bool) (s : State) : State :=
  let st := r.stop a.current
  let pending := s.tracker.standingPending
  showDelay (standing || pending) st.code (setTracker { s.tracker with
    distanceToGo := 0
    eta := 0
    rawDelay := if pending then standingDelay s st else s.tracker.rawDelay
    standingPending := false } s)

/-- The arithmetic toward the next stop (R54 to R56). The pending flag does not outlive the evaluation (log 43). -/
def arithmeticMoving (r : ActiveRoute) (a : Approach) (s : State) : State :=
  let n := a.current + 1
  let st := r.stop n
  let eta := etaOf s (toGo s r n)
  let minute := min 2879 ((s.filter.lastDaySeconds + eta + 30) / 60)
  showDelay true st.code (setTracker { s.tracker with
    distanceToGo := toGo s r n
    eta := eta
    predictedMinute := minute
    rawDelay := delayAgainst st minute
    standingPending := false } s)

/-- The arrival arithmetic at the end of an evaluation (R54 to R56). -/
def arithmetic (standing : Bool) (s : State) : State :=
  match s.route.active, s.tracker.approach with
  | some r, some a => if a.settled then arithmeticSettled r a standing s else arithmeticMoving r a s
  | _, _ => s

/-- DOORS_AWAY after the pass (R48). -/
def doorsAway (release : Bool) (x : Pass) : State :=
  let s := x.state
  match s.route.active, s.tracker.approach with
  | some r, some a =>
    let moving := a.state == .cruising || a.state == .approaching || a.state == .arriving
    let n := a.current + 1
    raiseIf (release && !x.arrived && moving)
      (.doorsAway (r.stop n).code s.filter.door.taken (toGo s r n)) s
  | _, _ => s

/-- The still run count after a taken report (R45). -/
def nextStill (s : State) : Nat :=
  if s.filter.lastSpeed ≤ s.items.stopSpeed then min 15 (s.tracker.stillRun + 1) else 0

/-- A report evaluation; `release` says that this report changed the taken door state to a released value (R41). -/
def evaluateReport (release : Bool) (s : State) : State :=
  let s1 := setTracker { s.tracker with stillRun := nextStill s, heldEstimated := s.filter.estimated } s
  match s1.tracker.approach with
  | none => s1
  | some _ =>
    let x := runPass release passRounds ⟨s1, false, false, false⟩
    arithmetic x.standing (doorsAway release x)

/-- A coast evaluation (R51). -/
def evaluateCoast (s : State) : State :=
  match s.route.active, s.tracker.approach with
  | some r, some a =>
    let s1 :=
      match a.state with
      | .standing => if beyondBerth s r a.current then depart r a s else s
      | .cruising => if approachMet s r (a.current + 1) then beginApproach r a s else s
      | .approaching => s
      | .arriving => s
      | .terminated => s
    arithmetic false s1
  | _, _ => s

end Sys2Proof.Machine
end

