-- ==== Sys2Proof/Machine/Reports.lean ====
section
/-! DEFINITION. The position filter: a report classified, judged and taken in the order of R29, the freshness expiry and the coast step (R21 to R37). -/

namespace Sys2Proof.Machine

/-- What a formed report is (R23, R25). -/
inductive Verdict where
  | reference | duplicate | restart | consistent | inconsistent
  deriving DecidableEq, Repr

/-- The interval from the previous report, mod 2^32 (R23). -/
def interval (o : PreviousReport) (r : Report) : Nat := (r.time - o.time).toNat

/-- The consistency test against the previous report (R25). -/
def consistentWith (i : Items) (o : PreviousReport) (r : Report) : Bool :=
  let advance := (o.speed + r.speed) * interval o r / 200
  let residual := distanceTo (r.distance * 1000) (o.distance * 1000 + advance)
  let tolerance := i.toleranceBase * 1000 + advance / 16
  decide (residual ≤ tolerance) && r.direction == .forward

/-- A formed report classified (R23). -/
def classify (i : Items) (f : Filter) (r : Report) : Verdict :=
  match f.previous with
  | none => .reference
  | some o =>
    if interval o r = 0 then .duplicate
    else if i.maxGap < interval o r then .restart
    else if f.referencePending then .reference
    else if consistentWith i o r then .consistent
    else .inconsistent

/-- The smoothed speed moved toward a report's speed by a quarter of the difference (R35). -/
def smooth (s v : Nat) : Nat := if s ≤ v then s + ceilDiv (v - s) 4 else s - ceilDiv (s - v) 4

/-- A report updates the smoothed speed (R35). -/
def smooths (f : Filter) (v : Verdict) (r : Report) : Bool :=
  v == .consistent || (f.mode == .following && r.direction == .forward) ||
    (r.direction == .backward && f.lock == .unlocked)

/-- A report sets progress (R33). -/
def advances (f : Filter) (v : Verdict) (r : Report) : Bool :=
  (f.mode == .tracking && v == .consistent) || (f.mode == .following && r.direction == .forward)

/-- A value offered to the door deglitcher (R36). -/
def DoorDeglitch.offer (d : DoorDeglitch) (count : Nat) (v : DoorState) : DoorDeglitch :=
  let run := if d.candidate = some v then min 15 (d.run + 1) else 1
  ⟨if count ≤ run then v else d.taken, some v, run⟩

/-- A value offered to the ambient deglitcher (R37). -/
def AmbientDeglitch.offer (d : AmbientDeglitch) (count : Nat) (v : Ambient) : AmbientDeglitch :=
  let run := if d.candidate = some v then min 15 (d.run + 1) else 1
  ⟨if count ≤ run then v else d.taken, some v, run⟩

/-- Steps 1 and 2 of R29: the count of the verdict, the previous report replaced, the last figures kept. -/
def keepReport (v : Verdict) (r : Report) (s : State) : State :=
  let s1 := match v with
    | .restart => bump .reportRestart s
    | .inconsistent => bump .reportInconsistent s
    | .reference => s
    | .duplicate => s
    | .consistent => s
  setFilter { s1.filter with
    previous := some ⟨r.distance, r.speed, r.time⟩
    referencePending := false
    lastSpeed := r.speed
    lastDaySeconds := r.daySeconds } s1

/-- Step 3 of R29: the source is present and its deadline restarts; a return while UNLOCKED acts on the mode (R27,
R28). -/
def freshen (s : State) : State :=
  let returned := !s.filter.sourcePresent && s.filter.lock == .unlocked
  let s1 := setFilter { s.filter with
    sourcePresent := true
    freshness := some (s.timebase + ms (s.items.reportPeriod * s.items.freshnessCount)) } s
  if returned then moveBy .returned s1 else s1

/-- The lock counts after a report (R26). -/
def countRuns (v : Verdict) (f : Filter) : Filter :=
  match v with
  | .consistent => { f with consistentRun := min 31 (f.consistentRun + 1), inconsistentRun := 0 }
  | .inconsistent => { f with inconsistentRun := min 31 (f.inconsistentRun + 1), consistentRun := 0 }
  | .restart => { f with inconsistentRun := min 31 (f.inconsistentRun + 1), consistentRun := 0 }
  | .reference => f
  | .duplicate => f

/-- The lock state the counts decide (R26). -/
def decideLock (i : Items) (f : Filter) : Lock :=
  match f.lock with
  | .unlocked => if i.lockCount ≤ f.consistentRun then .locked else .unlocked
  | .locked => if i.unlockCount ≤ f.inconsistentRun then .unlocked else .locked

/-- A report changes the lock counts, and so has the lock decided (R26). -/
def Verdict.counts (v : Verdict) : Bool :=
  match v with
  | .consistent => true
  | .inconsistent => true
  | .restart => true
  | .reference => false
  | .duplicate => false

/-- Step 4 of R29: the lock counts and the lock state; a change raises LOCK_CHANGED, reaches the composer through the
estimated flag, and acts on the mode (R26, R28, R34). -/
def judgeLock (v : Verdict) (s : State) : State :=
  let f := countRuns v s.filter
  let lock := if v.counts then decideLock s.items f else f.lock
  let g := { f with lock := lock }
  let s1 := setFilter g s
  if lock = s.filter.lock then s1
  else
    let s2 := composePanelsIf (g.estimated != s.filter.estimated) (raise (.lockChanged lock) s1)
    moveBy (if lock = .locked then .regained else .unlock) s2

/-- Step 5 of R29: a JUMP, or a consistent report taken while LOCKED, acts on the mode; `before` is the lock state the
report found (R28). -/
def judgeMode (before : Lock) (v : Verdict) (s : State) : State :=
  if before = .locked ∧ s.filter.lock = .locked then
    match v with
    | .inconsistent => moveBy .jump s
    | .consistent => moveBy .consistent s
    | .reference => s
    | .restart => s
    | .duplicate => s
  else s

/-- Steps 6 and 7 of R29: the smoothed speed and the progress (R33, R35). -/
def moveFigures (v : Verdict) (r : Report) (s : State) : State :=
  setFilter { s.filter with
    smoothed := if smooths s.filter v r then smooth s.filter.smoothed r.speed else s.filter.smoothed
    progress := if advances s.filter v r then max s.filter.progress (r.distance * 1000) else s.filter.progress } s

/-- Step 8 of R29: the deglitchers; a change of the ambient class composes LEVEL (R36, R37). -/
def offerStates (r : Report) (s : State) : State :=
  let f := { s.filter with door := s.filter.door.offer s.items.doorCount r.doors,
                           ambient := s.filter.ambient.offer s.items.ambientCount r.ambient }
  let s1 := setFilter f s
  if f.ambient.taken = s.filter.ambient.taken then s1 else composeLevels s1

/-- A formed report handed to the filter (R23, R29): a duplicate is discarded, any other is taken and evaluated. -/
def takeReport (r : Report) (s : State) : State :=
  let v := classify s.items s.filter r
  if v = .duplicate then bump .reportDuplicate s
  else
    let s4 := judgeLock v (freshen (keepReport v r s))
    let s7 := moveFigures v r (judgeMode s.filter.lock v s4)
    let s8 := offerStates r s7
    let release := s8.filter.door.taken != s7.filter.door.taken && s8.filter.door.taken.released
    evaluateReport release s8

/-- The freshness deadline expires (R27): the flag is cleared and STALE acts on the mode. -/
def expireFreshness (s : State) : State :=
  match s.filter.freshness with
  | some t =>
    if s.filter.sourcePresent then
      let s1 := advanceTo t s
      moveBy .stale (setFilter { s1.filter with sourcePresent := false, freshness := none } s1)
    else s
  | none => s

/-- Progress after a coast step (R31). -/
def coastProgress (s : State) : Nat :=
  let moved := s.filter.progress + s.filter.smoothed * s.items.reportPeriod / 100
  let capped := match coastCap s with | some cap => min moved cap | none => moved
  max s.filter.progress (min capped 16777215000)

/-- A coast step fires (R31): the cap is read again, progress advances, the next step is set, and a change of p is
evaluated. -/
def fireCoastStep (s : State) : State :=
  match s.filter.coastStep with
  | some t =>
    if s.filter.mode.coasts then
      let s1 := readCap (advanceTo t s)
      if s1.filter.mode.coasts then
        let f := { s1.filter with progress := coastProgress s1, coastStep := some (t + ms s1.items.reportPeriod) }
        let s2 := setFilter f s1
        if f.metres = s1.filter.metres then s2 else evaluateCoast s2
      else s1
    else s
  | none => s

end Sys2Proof.Machine
end

