-- ==== Sys2Proof/Machine/Requests.lean ====
section
/-! DEFINITION. What the tap decoder's captures bring about: configuration words, the soft reset, requests, the report and consist commits, the journal commit and the consumer index (R4, R10, R16, R17, R21, R57, R105, R120, R139, R161 to R168). -/

namespace Sys2Proof.Machine

/-! ## Resets -/

/-- A soft reset (R164): every block at its reset value with SOFT_RESET at HOLD; the timebase, the straps, the bus and
memory are not touched, and a cycle of the coach computer in progress runs on (R160). -/
def softReset (s : State) : State :=
  { State.reset with
    pending := s.pending, timebase := s.timebase, bus := s.bus, mem := s.mem,
    port := { Port.reset with burst := s.port.burst },
    items := { Items.default with softReset := true } }

/-- A pin reset as RESET is released (R166): as a soft reset, but the straps are sampled, the timebase is 0 and
SOFT_RESET holds RUN. -/
def pinReset (straps : BitVec 4) (s : State) : State :=
  { State.reset with
    pending := s.pending, mem := s.mem, bus := { s.bus with straps := straps, resetAsserted := false, held := [] } }

/-! ## Configuration -/

/-- A taken word 0 (R163): HOLD while RUN makes the soft reset, RUN while HOLD places the re-read. -/
def takeSoftReset (hold : Bool) (s : State) : State :=
  if hold && !s.items.softReset then softReset s
  else if !hold && s.items.softReset then
    { s with items := { s.items with softReset := false }, port := { s.port with configPlaced := true } }
  else s

/-- The items of a word in force (R162). -/
def holdItems (w : Fin 32) (v : Word) (s : State) : State := { s with items := takeItems s.items w v }

/-- A configuration word handed to the configuration copy (R161): odd parity counts; an even word is taken, and words
0, 1, 8 and 18 act at the moment they are taken (R162, R163). -/
def takeConfig (w : Fin 32) (v : Word) (s : State) : State :=
  if !evenParity v then bump .configParity s
  else
    let s1 := holdItems w v s
    match w.val with
    | 0 => takeSoftReset (v.getLsbD 0) s
    | 1 => allLinks.foldl (fun t l => switchLink (s.items.linkEnable l) (s1.items.linkEnable l) l t) s1
    | 8 => allLinks.foldl (fun t l => judgeQuiet l t) s1
    | 18 => readCap s1
    | _ => s1

/-! ## Requests (R167) -/

/-- ACTIVATE_ROUTE judged by the route engine (R10). -/
def judgeActivate (v : Word) (s : State) : State :=
  match imageOf (field v 0 2), startOf (field v 8 8) with
  | some image, some start =>
    if s.route.active.map ActiveRoute.image = some image then answer (tagOf v) .activateRoute .badArgument none s
    else match s.route.pendingSwitch with
      | .waiting _ _ _ _ => answer (tagOf v) .activateRoute .busy none s
      | _ =>
        let s1 := setRoute { s.route with pendingSwitch := .reading image start (tagOf v) } s
        { s1 with request := { s1.request with busy := some (.activateRoute, tagOf v) } }
  | _, _ => answer (tagOf v) .activateRoute .badArgument none s

/-- PREVIEW_ROUTE judged by the route engine (R17). -/
def judgePreview (v : Word) (s : State) : State :=
  match imageOf (field v 0 2) with
  | some image =>
    if s.route.active.map ActiveRoute.image = some image then answer (tagOf v) .previewRoute .badArgument none s
    else
      let s1 := setRoute { s.route with previewRead := some image } s
      { s1 with request := { s1.request with busy := some (.previewRoute, tagOf v) } }
  | none => answer (tagOf v) .previewRoute .badArgument none s

/-- CANCEL_ROUTE judged by the route engine (R16). -/
def judgeCancel (v : Word) (s : State) : State :=
  match s.route.pendingSwitch with
  | .waiting _ _ _ _ =>
    answer (tagOf v) .cancelRoute .done none (setRoute { s.route with pendingSwitch := .none } s)
  | _ => answer (tagOf v) .cancelRoute .notPending none s

/-- CLEAR_SEATS taken by the reservation engine (R68). -/
def judgeClear (v : Word) (s : State) : State := answer (tagOf v) .clearSeats .done none (clearSeats s)

/-- A request on a link judged: its selector, OFF, else its act with the answer DONE (R105, R120). -/
def judgeLinkRequest (kind : RequestKind) (act : LinkId → State → State) (v : Word) (s : State) : State :=
  match linkOf (field v 0 2) with
  | none => answer (tagOf v) kind .badArgument none s
  | some l =>
    if (s.link l).state = .off then answer (tagOf v) kind .linkOff none s
    else act l (answer (tagOf v) kind .done none s)

/-- A request issued: answered BUSY while the unit is BUSY, else handed to the block that owns it (R167). -/
def issueRequest (kind : RequestKind) (v : Word) (s : State) : State :=
  if s.request.busy.isSome then answer (tagOf v) kind .busy none s
  else match kind with
    | .activateRoute => judgeActivate v s
    | .previewRoute => judgePreview v s
    | .cancelRoute => judgeCancel v s
    | .seatConfirm => confirmSeat (tagOf v) (field v 0 8) s
    | .clearSeats => judgeClear v s
    | .reenumerate => judgeLinkRequest .reenumerate reenumerateLink v s
    | .refresh => judgeLinkRequest .refresh refreshLink v s

/-- The request of a request word (chapter 11.4). -/
def requestOf (w : Fin 7) : RequestKind :=
  match w with
  | 0 => .activateRoute
  | 1 => .previewRoute
  | 2 => .cancelRoute
  | 3 => .seatConfirm
  | 4 => .clearSeats
  | 5 => .reenumerate
  | 6 => .refresh

/-! ## Records -/

/-- A mailbox field word staged (R21). -/
def stageMailbox (w : Fin 5) (v : Word) (s : State) : State :=
  { s with filter := { s.filter with staging := stageReport s.filter.staging w v } }

/-- Mailbox word 5: the marker A7h commits the staged report (R21). -/
def commitReport (v : Word) (s : State) : State :=
  if field v 0 8 = 0xA7 then takeReport (reportOf s.filter.staging) s else bump .mailboxBad s

/-- A consist field word staged (R4). -/
def stageConsistWord (w : Fin 3) (v : Word) (s : State) : State :=
  { s with route := { s.route with staging := stageConsist s.route.staging w v } }

/-- Consist word 3: the marker 3Ch commits the staged record, which is refused where its portion is neither 1 nor 2; a
taken one reaches the route engine, the composer and the links (R4). -/
def commitConsist (v : Word) (s : State) : State :=
  if field v 0 8 = 0x3C then
    match consistOf s.route.staging with
    | some k => allLinks.foldl handService (takeConsist k s)
    | none => bump .mailboxBad s
  else bump .mailboxBad s

/-- Word 7 of a journal slot: the marker C5h makes it a commit, any other is not taken (R57). -/
def commitJournal (slot : Fin 512) (v : Word) (s : State) : State :=
  if field v 0 8 = 0xC5 then takeCommit (commitOf slot v) s else s

/-- The consumer index taken, where memory already shows every entry it passes (R139). -/
def takeConsumer (v : Word) (s : State) : State :=
  let new : BitVec 7 := BitVec.ofNat 7 (field v 0 7)
  if (new - s.notices.consumer).toNat ≤ (s.notices.visible - s.notices.consumer).toNat then
    { s with notices := { s.notices with consumer := new } }
  else bump .consumerError s

/-! ## Captures -/

/-- A captured word's value handed to its block (R153). -/
def handCaptured (w : CapturedWord) (v : Word) (s : State) : State :=
  match w with
  | .config w => takeConfig w v s
  | .request w => issueRequest (requestOf w) v s
  | .mailbox w => if h : w.val < 5 then stageMailbox ⟨w.val, h⟩ v s else commitReport v s
  | .consist w => if h : w.val < 3 then stageConsistWord ⟨w.val, h⟩ v s else commitConsist v s
  | .commit slot => commitJournal slot v s
  | .consumer => takeConsumer v s

/-- The tap decoder takes from the word at all: while SOFT_RESET holds HOLD, only from configuration word 0 (R153,
R163). -/
def capturing (s : State) (w : CapturedWord) : Bool := !s.items.softReset || w == .config 0

/-- A full-word write captured (R153). -/
def capture (w : CapturedWord) (v : Word) (s : State) : State := if capturing s w then handCaptured w v s else s

end Sys2Proof.Machine
end

