-- ==== Sys2Proof/Machine/Port.lean ====
section
/-! DEFINITION. The memory port: the choice of the next own access, its cycles and what each brings about, and the starvation count (R138, R142, R157 to R159, R165). -/

namespace Sys2Proof.Machine

/-! ## Places in the tap region (Table 12-1, in words) -/

/-- The offset of a status or view word. -/
def viewOffset : ViewWord → Nat
  | .status w => 0x100 + w.val
  | .unit .a n => 0x400 + n.val
  | .unit .b n => 0x440 + n.val
  | .unit .p n => 0x480 + n.val
  | .seat w => 0x600 + w.val

/-- The offset of word `j` of the notice entry slot of an index (chapter 9.1). -/
def noticeOffset (index : BitVec 7) (j : Nat) : Nat := 0x800 + 4 * (index.toNat % 64) + j

/-- The offset of the producer index word. -/
def producerOffset : Nat := 0x900

/-- The offset of the consumer index word. -/
def consumerOffset : Nat := 0x901

/-- The word at a place in address order, the inverse of `ViewWord.index` (R142). -/
def viewAt (i : Nat) : ViewWord :=
  if i < 256 then .status (Fin.ofNat 256 i)
  else if i < 320 then .unit .a (Fin.ofNat 64 (i - 256))
  else if i < 384 then .unit .b (Fin.ofNat 64 (i - 320))
  else if i < 448 then .unit .p (Fin.ofNat 64 (i - 384))
  else .seat (Fin.ofNat 256 (i - 448))

/-- The lowest word of the dirty set (R142). -/
def lowestDirty (dirty : BitVec 704) : Option ViewWord :=
  ((List.range 704).find? fun i => dirty.getLsbD i).map viewAt

/-! ## The choice (R159) -/

/-- An image read is in flight (R1). -/
def imageReading (r : Route) : Option ImageId :=
  match r.pendingSwitch with
  | .reading image _ _ => some image
  | _ => r.previewRead

/-- The first access of the first non-empty class; the reset write of the producer index goes before them (R159, R160,
log 10). -/
def nextOwn (s : State) : Option OwnAccess :=
  if s.port.producerReset then some .producerReset
  else match s.notices.accesses with
    | .entry _ :: _ => some .noticeEntry
    | .producerOnly :: _ => some .producerOnly
    | [] =>
      if !s.res.fetchQueue.isEmpty then some .fetch
      else if (imageReading s.route).isSome then some (.image 0)
      else match lowestDirty s.status.dirty with
        | some w => some (.status w)
        | none => if s.port.configPlaced then some (.config 0) else none

/-- The next own access chosen, while none is in progress (R159). -/
def beginOwn (s : State) : State :=
  match s.port.inProgress with
  | some _ => s
  | none =>
    match nextOwn s with
    | some a =>
      { s with port := { s.port with
          inProgress := some a
          configPlaced := s.port.configPlaced && a != .config 0 } }
    | none => s

/-- The port is free to choose: no burst of the coach computer holds it, and RESET is not asserted (R158, R160). -/
def portFree (s : State) : Bool := !s.port.burst.stands && !s.bus.resetAsserted

/-- The state once a free port has chosen its next own access (R159). The port chooses before anything else comes to
the controller, so what comes later waits for the access chosen (log 46). -/
def State.ready (s : State) : State := if portFree s then beginOwn s else s

/-! ## Cycles -/

/-- The access in progress. -/
def setProgress (a : Option OwnAccess) (s : State) : State := { s with port := { s.port with inProgress := a } }

/-- A word written back: its current value, and its marks cleared (R142, R145). -/
def writeBack (w : ViewWord) (s : State) : State :=
  let s1 := s.writeTap (viewOffset w) (currentValue s w)
  let cleared := match w with
    | .status i => if clearOnRead i.val then s.status.clearPending &&& ~~~(1#64 <<< i.val) else s.status.clearPending
    | _ => s.status.clearPending
  { s1 with status := { s.status with dirty := s.status.dirty &&& ~~~dirtyBit w, clearPending := cleared } }

/-- The notice at the head of the NOTICE class. -/
def headNotice (s : State) : Option NoticeEntry :=
  match s.notices.accesses with
  | .entry e :: _ => some e
  | _ => none

/-- The four words of a notice written into its slot (R138). -/
def writeEntry (s : State) : State :=
  match headNotice s with
  | some e => ((noticeWords e).zipIdx).foldl (fun s x => s.writeTap (noticeOffset e.index x.2) x.1) s
  | none => s

/-- The producer index word written with a notice's index plus one: the notice leaves the awaiting list and the
memory-visible index advances (R138). -/
def writeProducer (s : State) : State :=
  match headNotice s with
  | some e =>
    let p := e.index + 1
    let s1 := s.writeTap producerOffset (BitVec.setWidth 32 p)
    { s1 with notices := { s.notices with visible := p, accesses := s.notices.accesses.tail } }
  | none => s

/-- The producer index word written with the memory-visible index (R138). -/
def writeVisible (s : State) : State := s.writeTap producerOffset (BitVec.setWidth 32 s.notices.visible)

/-- The image read in flight completes with the copy memory gives (R1, R11, R17, log 9). -/
def completeImage (s : State) : State :=
  match s.route.pendingSwitch with
  | .reading image _ _ => completeActivation (s.copyOf image) s
  | _ =>
    match s.route.previewRead with
    | some image => completePreview (s.copyOf image) s
    | none => s

/-- The configuration words of a cycle of the re-read (Table 10-2). -/
def rereadWords (cycle : Nat) : List (Fin 32) :=
  ((List.range (if cycle = 3 then 7 else 8)).map fun j => Fin.ofNat 32 (1 + 8 * cycle + j))

/-- A cycle of the re-read ends: its words are taken in ascending order, each as if written (R165). -/
def takeReread (cycle : Nat) (s : State) : State :=
  (rereadWords cycle).foldl (fun t w => takeConfig w (s.tapWord w.val) t) s

/-- One cycle of an own access performed (R157). -/
def performCycle (a : OwnAccess) (s : State) : State :=
  match a with
  | .producerReset =>
    setProgress none { writeVisible s with port := { s.port with producerReset := false } }
  | .noticeEntry => setProgress (some .noticeProducer) (writeEntry s)
  | .noticeProducer => setProgress none (writeProducer s)
  | .producerOnly =>
    let s1 := writeVisible s
    setProgress none { s1 with notices := { s1.notices with accesses := s1.notices.accesses.tail } }
  | .fetch => completeFetch (setProgress none s)
  | .image n =>
    match imageReading s.route with
    | none => setProgress none s
    | some image =>
      if s.imageCycles image ≤ n + 1 then completeImage (setProgress none s) else setProgress (some (.image (n + 1))) s
  | .status w => setProgress none (writeBack w s)
  | .config n => takeReread n (setProgress (if n < 3 then some (.config (n + 1)) else none) s)

/-- The starvation count replaced (R158). -/
def setStarvation (n : Nat) (s : State) : State := { s with port := { s.port with starvation := n } }

/-- The own cycle that waits performed, and the count 0 again (R158). -/
def performOwn (s : State) : State :=
  match s.port.inProgress with
  | some a => performCycle a (setStarvation 0 s)
  | none => s

/-- The count raised by a coach computer access performed while an own cycle waits (R158). -/
def countStarvation (s : State) : State :=
  if s.port.inProgress.isSome then setStarvation (min 16 (s.port.starvation + 1)) s else s

/-- The burst that holds the port once a word has come: none after the word that ends its access (R158). -/
def setBurst (b : Burst) (s : State) : State := { s with port := { s.port with burst := b } }

/-- The waiting own cycle performed where the starvation count is 16, before the access that has come (R158, log 7). -/
def yieldOwn (s : State) : State :=
  let s1 := beginOwn s
  if s1.port.inProgress.isSome ∧ 16 ≤ s1.port.starvation then beginOwn (performOwn s1) else s1

/-- A cycle of the coach computer admitted to the memory side (R158). -/
def admitCycle (s : State) : State := countStarvation (yieldOwn s)

/-- The word belongs to the burst that holds the port: it comes after the first (R151, R158). -/
def joinsBurst (beat : Beat) (s : State) : Bool := s.port.burst.stands && !beat.opens

/-- A word of the coach computer admitted to the memory side. A later word of a burst belongs to its one cycle, which
runs to the last word; the burst counts at the first of its words that is forwarded (R151, R158, logs 6 and 53). -/
def grantAccess (beat : Beat) (s : State) : State :=
  setBurst (if beat.ends then .closed else .forwarded)
    (if joinsBurst beat s then (if s.port.burst = .heldBack then countStarvation s else s) else admitCycle s)

/-- A word held back by the guard: it counts nothing, but holds its place in the burst, which is one cycle whether or
not some of its words are held back. A burst begins behind the own cycle that waits at 16, its first word held back or
not; a single access held back is not performed, and nothing goes before it (R151, R154, R158, logs 6 and 53). -/
def skipWord (beat : Beat) (s : State) : State :=
  setBurst (if beat.ends then .closed else if joinsBurst beat s then s.port.burst else .heldBack)
    (if joinsBurst beat s then s else if beat.ends then beginOwn s else yieldOwn s)

/-- An own cycle performed where the port would perform it: no burst holds the port, and the cycle in progress, or the
one it chooses now, is one the command names (R158, R159, log 8). -/
def ownStep (names : OwnAccess → Bool) (s : State) : State :=
  let s1 := s.ready
  if portFree s && s1.port.inProgress.any names then performOwn s1 else s

/-- All the cycles that remain of an image read performed at once (R1, log 9). -/
def finishImageRead (names : State → Bool) (s : State) : State :=
  let s1 := s.ready
  match s1.port.inProgress with
  | some (.image _) =>
    if portFree s && names s then completeImage (setProgress none (setStarvation 0 s1)) else s
  | _ => s

end Sys2Proof.Machine
end

