-- ==== Sys2Proof/Machine/Bus.lean ====
section
/-! DEFINITION. The coach computer's side: the tap decoder's judgement of a word by its offset, the guard, captures, restores, clearing reads, and accesses held while RESET is asserted (R145 to R147, R150 to R156, R160). -/

namespace Sys2Proof.Machine

/-! ## Places (Tables 10-1 and 12-1, offsets in words) -/

/-- The offset of a captured word. -/
def capturedOffset : CapturedWord → Nat
  | .config w => w.val
  | .request w => 0x200 + w.val
  | .mailbox w => 0x208 + w.val
  | .consist w => 0x210 + w.val
  | .commit slot => 0x4000 + 8 * slot.val + 7
  | .consumer => consumerOffset

/-- The offset of a word of the tap region. -/
def tapOffset : TapWord → Nat
  | .captured w => capturedOffset w
  | .view w => viewOffset w
  | .producer => producerOffset
  | .image i w => imageWindow i + w.val
  | .plain offset => offset

/-- The offset lies in a window of `n` words from `lo`. -/
def inWindow (lo n offset : Nat) : Bool := decide (lo ≤ offset) && decide (offset < lo + n)

/-- The word at an offset, by the windows of Table 10-1. -/
def classifyOffset (offset : Nat) : TapWord :=
  if inWindow 0 32 offset then .captured (.config (Fin.ofNat 32 offset))
  else if inWindow 0x100 256 offset then .view (.status (Fin.ofNat 256 (offset - 0x100)))
  else if inWindow 0x200 7 offset then .captured (.request (Fin.ofNat 7 (offset - 0x200)))
  else if inWindow 0x208 6 offset then .captured (.mailbox (Fin.ofNat 6 (offset - 0x208)))
  else if inWindow 0x210 4 offset then .captured (.consist (Fin.ofNat 4 (offset - 0x210)))
  else if inWindow 0x400 64 offset then .view (.unit .a (Fin.ofNat 64 (offset - 0x400)))
  else if inWindow 0x440 64 offset then .view (.unit .b (Fin.ofNat 64 (offset - 0x440)))
  else if inWindow 0x480 64 offset then .view (.unit .p (Fin.ofNat 64 (offset - 0x480)))
  else if inWindow 0x600 256 offset then .view (.seat (Fin.ofNat 256 (offset - 0x600)))
  else if offset = producerOffset then .producer
  else if offset = consumerOffset then .captured .consumer
  else if inWindow 0x1000 4096 offset then .image .a (Fin.ofNat 4096 (offset - 0x1000))
  else if inWindow 0x2000 4096 offset then .image .b (Fin.ofNat 4096 (offset - 0x2000))
  else if inWindow 0x4000 4096 offset && offset % 8 == 7 then .captured (.commit (Fin.ofNat 512 ((offset - 0x4000) / 8)))
  else .plain offset

/-- The words of the tap region: 256 KiB (R150). -/
def tapWords : Nat := 65536

/-! ## Words as one access -/

/-- One word of an access as the tap decoder judges it: inside the tap region by its word, outside by its word
address (R150, R151). -/
inductive BusOp where
  | read (w : TapWord) (lanes : Lanes)
  | write (w : TapWord) (lanes : Lanes) (value : Word)
  | readOutside (address : Nat) (lanes : Lanes)
  | writeOutside (address : Nat) (lanes : Lanes) (value : Word)
  deriving DecidableEq, Repr

/-- All four byte lanes. -/
def fullWord : Lanes := 0xF#4

/-- An access by its absolute word address judged against the tap base (R150). -/
def judgeAccess (s : State) (x : Access) : BusOp :=
  match x with
  | .read a lanes =>
    if inWindow s.tapBase tapWords a then .read (classifyOffset (a - s.tapBase)) lanes else .readOutside a lanes
  | .write a lanes v =>
    if inWindow s.tapBase tapWords a then .write (classifyOffset (a - s.tapBase)) lanes v else .writeOutside a lanes v

/-! ## Writes -/

/-- A captured word written (R152, R153): a full word passes and is captured; a partial one passes, is not captured,
and counts TAP_PARTIAL unless SOFT_RESET holds HOLD and the word is not word 0. -/
def writeCaptured (w : CapturedWord) (lanes : Lanes) (v : Word) (s : State) : State :=
  let s1 := s.writeTap (capturedOffset w) (mergeLanes (s.tapWord (capturedOffset w)) v lanes)
  if lanes = fullWord then capture w v s1
  else if capturing s1 w then bump .tapPartial s1
  else s1

/-- The clear-pending mark of a clear-on-read word set (R145, R147). -/
def setClearPending (w : Nat) (s : State) : State :=
  { s with status := { s.status with clearPending := s.status.clearPending ||| (1#64 <<< w) } }

/-- A status or view word overwritten: marked dirty, and a clear-on-read word's mark set (R147, R156). -/
def restoreView (w : ViewWord) (s : State) : State :=
  let s1 := markDirty w s
  match w with
  | .status i => if clearOnRead i.val then setClearPending i.val s1 else s1
  | _ => s1

/-- A producer-only access waits and has not begun (R138). One that the port has chosen has begun, be it at the very
write that asks (R159, log 51). -/
def producerWaits (s : State) : Bool :=
  match s.port.inProgress, s.notices.accesses with
  | some .producerOnly, _ :: rest => rest.contains .producerOnly
  | _, as => as.contains .producerOnly

/-- The producer index word overwritten: a producer-only access is placed, unless one waits and has not begun (R138,
R156). -/
def restoreProducer (s : State) : State :=
  if producerWaits s then s
  else { s with notices := { s.notices with accesses := s.notices.accesses ++ [.producerOnly] } }

/-- A word of the tap region written, after the write has been admitted (Table 10-1). -/
def writeTapWord (w : TapWord) (lanes : Lanes) (v : Word) (s : State) : State :=
  let passed := s.writeTap (tapOffset w) (mergeLanes (s.tapWord (tapOffset w)) v lanes)
  match w with
  | .captured c => writeCaptured c lanes v s
  | .view x => restoreView x passed
  | .producer => restoreProducer passed
  | .image _ _ => passed
  | .plain _ => passed

/-- A write held back by the guard (R154). -/
def heldBack (s : State) (w : TapWord) : Bool :=
  match w with
  | .image i _ => guarded s i
  | _ => false

/-! ## Reads -/

/-- A read is a clearing read (R145). -/
def clearingRead (s : State) (w : Nat) (lanes : Lanes) : Bool :=
  clearOnRead w && lanes == fullWord && !s.status.clearPending.getLsbD w && !s.items.softReset

/-- A clearing read of a counter that returned `v` (R145, log 37). -/
def clearCounter (c : Counter) (v : Word) (s : State) : State :=
  setClearPending c.word.val (markStatus c.word (setCount c (s.count c - field v 0 16) s))

/-- A clearing read of LINK_x that returned `v`: each latch shown at 0 takes its live state (R146). -/
def clearLink (l : LinkId) (v : Word) (s : State) : State :=
  let rearm (k : Link) : Link :=
    { k with
      chainIntact := if v.getLsbD 4 then k.chainIntact else k.chainLive
      overflow := if v.getLsbD 5 then k.overflow else k.overflowLive }
  setClearPending l.word.val (markStatus l.word (onLink l rearm s))

/-- The counter of a status word (Table 9-3). -/
def counterAt (w : Nat) : Option Counter :=
  [Counter.configParity, .tapPartial, .guardBlocked, .mailboxBad, .reportDuplicate, .reportRestart,
    .reportInconsistent, .journalTorn, .journalOverrun, .resMalformed, .resSuperseded, .noticeLost, .noticeShed,
    .consumerError, .missA, .missB, .missP, .wakeErrA, .wakeErrB, .wakeErrP].find? fun c => c.word.val == w

/-- The link of a status word (Table 9-2). -/
def linkAt (w : Nat) : Option LinkId := allLinks.find? fun l => l.word.val == w

/-- The report of a read of a status word that returned `v` (R155). -/
def reportRead (w : Nat) (lanes : Lanes) (v : Word) (s : State) : State :=
  if clearingRead s w lanes then
    match linkAt w with
    | some l => clearLink l v s
    | none =>
      match counterAt w with
      | some c => clearCounter c v s
      | none => s
  else s

/-- A word of the tap region read, after the read has been admitted. The whole word memory holds is returned, on the
byte lanes the read does not carry too (log 52). -/
def readTapWord (w : TapWord) (lanes : Lanes) (s : State) : State :=
  let v := s.tapWord (tapOffset w)
  let s1 := { s with bus := { s.bus with readData := v } }
  match w with
  | .view (.status i) => reportRead i.val lanes v s1
  | _ => s1

/-! ## Accesses -/

/-- One word of an access performed (R150 to R156). The guard is judged before the port: a word held back is not
forwarded. A read, partial or not, returns the whole word memory holds (log 52). -/
def performBus (beat : Beat) (x : BusOp) (s : State) : State :=
  match x with
  | .read w lanes => readTapWord w lanes (grantAccess beat s)
  | .write w lanes v =>
    if heldBack s w then bump .guardBlocked (skipWord beat s) else writeTapWord w lanes v (grantAccess beat s)
  | .readOutside a _ =>
    let s1 := grantAccess beat s
    { s1 with bus := { s1.bus with readData := readMem s1.mem a } }
  | .writeOutside a lanes v =>
    let s1 := grantAccess beat s
    s1.writeWord a (mergeLanes (readMem s1.mem a) v lanes)

/-- The word of an access that a command is, with its place in the burst; none for a command that is no access. -/
def busOpOf (s : State) (i : Instr) : Option (Beat × BusOp) :=
  let config (b : Beat) (w : Fin 32) (v : Word) := some (b, BusOp.write (.captured (.config w)) fullWord v)
  let request (b : Beat) (w : Fin 7) (v : Word) := some (b, BusOp.write (.captured (.request w)) fullWord v)
  match i with
  | .softResetHold b v => config b 0 v
  | .softResetRun b v => config b 0 v
  | .linkEnable b v => config b 1 v
  | .linkDisable b v => config b 1 v
  | .quietWrite b v => config b 8 v
  | .berthDistanceWrite b v => config b 18 v
  | .configurationWordWrite b w v => config b w v
  | .activateRoute b v => request b 0 v
  | .previewRoute b v => request b 1 v
  | .cancelRoute b v => request b 2 v
  | .seatConfirm b v => request b 3 v
  | .clearSeats b v => request b 4 v
  | .reenumerate b v => request b 5 v
  | .refresh b v => request b 6 v
  | .reportFieldWrite b w v => some (b, .write (.captured (.mailbox (w.castLE (by omega)))) fullWord v)
  | .positionReportCommit b v => some (b, .write (.captured (.mailbox 5)) fullWord v)
  | .consistFieldWrite b w v => some (b, .write (.captured (.consist (w.castLE (by omega)))) fullWord v)
  | .consistCommit b v => some (b, .write (.captured (.consist 3)) fullWord v)
  | .journalCommit b slot v => some (b, .write (.captured (.commit slot)) fullWord v)
  | .consumerIndexWrite b v => some (b, .write (.captured .consumer) fullWord v)
  | .producerIndexOverwrite b lanes v => some (b, .write .producer lanes v)
  | .counterClearingRead b c lanes => some (b, .read (.view (.status c.word)) lanes)
  | .linkStatusClearingRead b l lanes => some (b, .read (.view (.status l.word)) lanes)
  | .controllerWordOverwrite b w lanes v => some (b, .write (.view w) lanes v)
  | .guardedWrite b image w lanes v => some (b, .write (.image image w) lanes v)
  | .partialCapturedWrite b w lanes v => some (b, .write (.captured w) lanes v)
  | .passThroughAccess b x => some (b, judgeAccess s x)
  | .pinResetAssert => none
  | .pinResetRelease _ => none
  | .configRereadCycle => none
  | .fetchComplete => none
  | .activationReadComplete => none
  | .previewReadComplete => none
  | .freshnessExpiry => none
  | .coastStep => none
  | .releaseExpiry => none
  | .probeDeadlineExpiry _ _ => none
  | .backoffExpiry _ _ => none
  | .ePaperHoldExpiry _ _ => none
  | .quietDelayExpiry _ => none
  | .wakeExpiry _ => none
  | .timebaseSecond => none
  | .nextFrameSelect _ => none
  | .openChainSent _ => none
  | .setLevelSent _ => none
  | .restSent _ => none
  | .rouseSent _ => none
  | .pageReply _ _ _ _ _ => none
  | .setAddressOk _ => none
  | .checkProbeReply _ _ => none
  | .showOk _ => none
  | .showBusy _ => none
  | .probeReply _ _ => none
  | .backoffProbeReply _ _ => none
  | .wakeProbeReply _ _ _ => none
  | .unassignedShowEnd _ _ => none
  | .malformedReply _ _ => none
  | .replyWindowExpiry _ => none
  | .noticeEntryWrite => none
  | .producerIndexWrite => none
  | .producerOnlyWrite => none
  | .statusWriteBack => none

/-- An access command performed now. -/
def performAccess (s : State) (i : Instr) : State :=
  match busOpOf s i with
  | some x => performBus x.1 x.2 s
  | none => s

/-- The command is a later word of the burst that holds the port (R151, R158). -/
def inBurst (s : State) (i : Instr) : Bool := (busOpOf s i).any fun x => joinsBurst x.1 s

/-- An access command: performed, but held while RESET is asserted. The cycle of a burst then in progress runs to its
last word first (R160, log 11). -/
def onBus (i : Instr) (s : State) : State :=
  if !s.bus.resetAsserted || inBurst s i then performAccess s i
  else setBurst .closed { s with bus := { s.bus with held := s.bus.held ++ [i] } }

/-- An event that reaches a block: none does while SOFT_RESET holds HOLD or RESET is asserted (R160, R164, log 11). A
free port has chosen its next own access before it (R159, log 46). -/
def onEvent (f : State → State) (s : State) : State :=
  if s.items.softReset || s.bus.resetAsserted then s else f s.ready

/-- A cycle of the memory port or a second of the timebase: none while RESET is asserted (R160, log 11). -/
def onPort (f : State → State) (s : State) : State := if s.bus.resetAsserted then s else f s

/-- The transaction in flight on a link handed to a function, and nothing where there is none (log 3). -/
def onTransaction (l : LinkId) (f : Transaction → State → State) (s : State) : State :=
  match (s.link l).transaction with
  | some t => f t s
  | none => s

/-- The entry at an address of a link handed to a function, and nothing where there is none (log 3). -/
def onUnit (l : LinkId) (address : Nat) (f : UnitEntry → State → State) (s : State) : State :=
  match (s.link l).unit address with
  | some u => f u s
  | none => s

/-- A step's answer: the meanings end in a next state, since the spec names nothing that stops the part. -/
def answerNext (s : State) : Host.Outcome State Fault Refusal := .next s

end Sys2Proof.Machine
end

