-- ==== Sys2Proof/Machine/AccessCommands.lean ====
section
/-! DEFINITION. The access commands of the coach computer, one meaning each over the one path of a word (chapter 10). -/

namespace Sys2Proof.Machine

/-- SOFT_RESET_HOLD (R163, R164): configuration word 0 written with HOLD. -/
def execSoftResetHold (beat : Beat) (value : Word) (s : State) : Host.Outcome State Fault Refusal :=
  answerNext (onBus (.softResetHold beat value) s)

/-- SOFT_RESET_RUN (R163, R165): configuration word 0 written with RUN. -/
def execSoftResetRun (beat : Beat) (value : Word) (s : State) : Host.Outcome State Fault Refusal :=
  answerNext (onBus (.softResetRun beat value) s)

/-- LINK_ENABLE (R97, R99): configuration word 1 written. -/
def execLinkEnable (beat : Beat) (value : Word) (s : State) : Host.Outcome State Fault Refusal :=
  answerNext (onBus (.linkEnable beat value) s)

/-- LINK_DISABLE (R98): configuration word 1 written. -/
def execLinkDisable (beat : Beat) (value : Word) (s : State) : Host.Outcome State Fault Refusal :=
  answerNext (onBus (.linkDisable beat value) s)

/-- QUIET_WRITE (R131, R162): configuration word 8 written. -/
def execQuietWrite (beat : Beat) (value : Word) (s : State) : Host.Outcome State Fault Refusal :=
  answerNext (onBus (.quietWrite beat value) s)

/-- BERTH_DISTANCE_WRITE (R32, R162): configuration word 18 written. -/
def execBerthDistanceWrite (beat : Beat) (value : Word) (s : State) : Host.Outcome State Fault Refusal :=
  answerNext (onBus (.berthDistanceWrite beat value) s)

/-- CONFIGURATION_WORD_WRITE (R161): a configuration word written. -/
def execConfigurationWordWrite (beat : Beat) (w : Fin 32) (value : Word) (s : State) :
    Host.Outcome State Fault Refusal :=
  answerNext (onBus (.configurationWordWrite beat w value) s)

/-- ACTIVATE_ROUTE (R10, R167): request word 0 written. -/
def execActivateRoute (beat : Beat) (value : Word) (s : State) : Host.Outcome State Fault Refusal :=
  answerNext (onBus (.activateRoute beat value) s)

/-- PREVIEW_ROUTE (R17, R167): request word 1 written. -/
def execPreviewRoute (beat : Beat) (value : Word) (s : State) : Host.Outcome State Fault Refusal :=
  answerNext (onBus (.previewRoute beat value) s)

/-- CANCEL_ROUTE (R16, R167): request word 2 written. -/
def execCancelRoute (beat : Beat) (value : Word) (s : State) : Host.Outcome State Fault Refusal :=
  answerNext (onBus (.cancelRoute beat value) s)

/-- SEAT_CONFIRM (R85 to R87, R167): request word 3 written. -/
def execSeatConfirm (beat : Beat) (value : Word) (s : State) : Host.Outcome State Fault Refusal :=
  answerNext (onBus (.seatConfirm beat value) s)

/-- CLEAR_SEATS (R68, R167): request word 4 written. -/
def execClearSeats (beat : Beat) (value : Word) (s : State) : Host.Outcome State Fault Refusal :=
  answerNext (onBus (.clearSeats beat value) s)

/-- REENUMERATE (R105, R167): request word 5 written. -/
def execReenumerate (beat : Beat) (value : Word) (s : State) : Host.Outcome State Fault Refusal :=
  answerNext (onBus (.reenumerate beat value) s)

/-- REFRESH (R120, R167): request word 6 written. -/
def execRefresh (beat : Beat) (value : Word) (s : State) : Host.Outcome State Fault Refusal :=
  answerNext (onBus (.refresh beat value) s)

/-- REPORT_FIELD_WRITE (R21): a mailbox field word written. -/
def execReportFieldWrite (beat : Beat) (w : Fin 5) (value : Word) (s : State) : Host.Outcome State Fault Refusal :=
  answerNext (onBus (.reportFieldWrite beat w value) s)

/-- POSITION_REPORT_COMMIT (R21 to R56): mailbox word 5 written. -/
def execPositionReportCommit (beat : Beat) (value : Word) (s : State) : Host.Outcome State Fault Refusal :=
  answerNext (onBus (.positionReportCommit beat value) s)

/-- CONSIST_FIELD_WRITE (R4): a consist field word written. -/
def execConsistFieldWrite (beat : Beat) (w : Fin 3) (value : Word) (s : State) : Host.Outcome State Fault Refusal :=
  answerNext (onBus (.consistFieldWrite beat w value) s)

/-- CONSIST_COMMIT (R4, R19, R20): consist word 3 written. -/
def execConsistCommit (beat : Beat) (value : Word) (s : State) : Host.Outcome State Fault Refusal :=
  answerNext (onBus (.consistCommit beat value) s)

/-- JOURNAL_COMMIT (R57, R58): word 7 of a journal slot written. -/
def execJournalCommit (beat : Beat) (slot : Fin 512) (value : Word) (s : State) : Host.Outcome State Fault Refusal :=
  answerNext (onBus (.journalCommit beat slot value) s)

/-- CONSUMER_INDEX_WRITE (R139, R140): the consumer index word written. -/
def execConsumerIndexWrite (beat : Beat) (value : Word) (s : State) : Host.Outcome State Fault Refusal :=
  answerNext (onBus (.consumerIndexWrite beat value) s)

/-- PRODUCER_INDEX_OVERWRITE (R138, R156): the producer index word written. -/
def execProducerIndexOverwrite (beat : Beat) (lanes : Lanes) (value : Word) (s : State) :
    Host.Outcome State Fault Refusal :=
  answerNext (onBus (.producerIndexOverwrite beat lanes value) s)

/-- COUNTER_CLEARING_READ (R145, R155): the status word of a counter read. -/
def execCounterClearingRead (beat : Beat) (counter : Counter) (lanes : Lanes) (s : State) :
    Host.Outcome State Fault Refusal :=
  answerNext (onBus (.counterClearingRead beat counter lanes) s)

/-- LINK_STATUS_CLEARING_READ (R146, R155): the status word of a link read. -/
def execLinkStatusClearingRead (beat : Beat) (link : LinkId) (lanes : Lanes) (s : State) :
    Host.Outcome State Fault Refusal :=
  answerNext (onBus (.linkStatusClearingRead beat link lanes) s)

/-- CONTROLLER_WORD_OVERWRITE (R147, R156): a status or view word written. -/
def execControllerWordOverwrite (beat : Beat) (word : ViewWord) (lanes : Lanes) (value : Word) (s : State) :
    Host.Outcome State Fault Refusal :=
  answerNext (onBus (.controllerWordOverwrite beat word lanes value) s)

/-- GUARDED_WRITE (R154): a word of a route image window written. -/
def execGuardedWrite (beat : Beat) (image : ImageId) (w : Fin 4096) (lanes : Lanes) (value : Word) (s : State) :
    Host.Outcome State Fault Refusal :=
  answerNext (onBus (.guardedWrite beat image w lanes value) s)

/-- PARTIAL_CAPTURED_WRITE (R152): a captured word written on some byte lanes. -/
def execPartialCapturedWrite (beat : Beat) (word : CapturedWord) (lanes : Lanes) (value : Word) (s : State) :
    Host.Outcome State Fault Refusal :=
  answerNext (onBus (.partialCapturedWrite beat word lanes value) s)

/-- PASS_THROUGH_ACCESS (R150, R151): an access by its absolute address. -/
def execPassThroughAccess (beat : Beat) (access : Access) (s : State) : Host.Outcome State Fault Refusal :=
  answerNext (onBus (.passThroughAccess beat access) s)

end Sys2Proof.Machine
end

