-- ==== Sys2Proof/Machine/LinkCommands.lean ====
section
/-! DEFINITION. The commands of the display links: the next frame, and the ways the frame in flight ends (chapters 6 to 8). -/

namespace Sys2Proof.Machine

/-- NEXT_FRAME_SELECT (R116, R130): the link chooses and begins its next frame. -/
def execNextFrameSelect (link : LinkId) (s : State) : Host.Outcome State Fault Refusal :=
  answerNext (onEvent (nextFrame link) s)

/-- OPEN_CHAIN_SENT (R99): the last word of OPEN_CHAIN has gone, and the first base page is read. -/
def execOpenChainSent (link : LinkId) (s : State) : Host.Outcome State Fault Refusal :=
  answerNext (onEvent (onTransaction link fun t s =>
    match t.purpose with
    | .openChain => ended link (sendBasePage link 1) s
    | _ => s) s)

/-- SET_LEVEL_SENT (R110): the last word of SET_LEVEL has gone, and its code is the acknowledged one. -/
def execSetLevelSent (link : LinkId) (s : State) : Host.Outcome State Fault Refusal :=
  answerNext (onEvent (onTransaction link fun t s =>
    match t.purpose with
    | .item ⟨_, .level code⟩ => ended link (onLink link fun k => { k with ackLevel := some code }) s
    | _ => s) s)

/-- REST_SENT (R132): the last word of REST has gone. -/
def execRestSent (link : LinkId) (s : State) : Host.Outcome State Fault Refusal :=
  answerNext (onEvent (onTransaction link fun t s =>
    match t.purpose with
    | .rest => ended link (rested link) s
    | _ => s) s)

/-- ROUSE_SENT (R132): the last word of ROUSE has gone. -/
def execRouseSent (link : LinkId) (s : State) : Host.Outcome State Fault Refusal :=
  answerNext (onEvent (onTransaction link fun t s =>
    match t.purpose with
    | .rouse => ended link (roused link) s
    | _ => s) s)

/-- PAGE_REPLY (R99 to R101): a page has been received. -/
def execPageReply (link : LinkId) (w1 w2 _w3 _w4 : Half) (s : State) : Host.Outcome State Fault Refusal :=
  answerNext (onEvent (onTransaction link fun t s =>
    match t.purpose with
    | .basePage _ => ended link (takeBasePage link (basePageOf w1 w2)) s
    | .extendedPage number _ p => ended link (takeExtendedPage link number p w1) s
    | _ => s) s)

/-- SET_ADDRESS_OK (R99, R102 to R104): the unit has taken its address. -/
def execSetAddressOk (link : LinkId) (s : State) : Host.Outcome State Fault Refusal :=
  answerNext (onEvent (onTransaction link fun t s =>
    match t.purpose with
    | .setAddress _ p => ended link (addressTaken link p) s
    | _ => s) s)

/-- CHECK_PROBE_REPLY (R99): a reply with the address of a check probe. OK, BUSY and FAULT show the address taken, and
FAULT counts in MISS_x; PAGE_FOLLOWS is malformed. -/
def execCheckProbeReply (link : LinkId) (code : BitVec 2) (s : State) : Host.Outcome State Fault Refusal :=
  answerNext (onEvent (onTransaction link fun t s =>
    match t.purpose with
    | .checkProbe _ p =>
      if code = 3 then missTransaction link t s
      else if code = 2 then ended link (addressTaken link p) (countMiss link s)
      else ended link (addressTaken link p) s
    | _ => s) s)

/-- SHOW_OK (R117, R118): an OK reply to a SHOW from the queue. -/
def execShowOk (link : LinkId) (s : State) : Host.Outcome State Fault Refusal :=
  answerNext (onEvent (onTransaction link fun t s =>
    match t.purpose with
    | .item ⟨a, .content c⟩ => ended link (showOk link a c) s
    | _ => s) s)

/-- SHOW_BUSY (R117): a BUSY reply to a SHOW from the queue. -/
def execShowBusy (link : LinkId) (s : State) : Host.Outcome State Fault Refusal :=
  answerNext (onEvent (onTransaction link fun t s =>
    match t.purpose with
    | .item ⟨a, .content c⟩ => ended link (showBusy link ⟨a, .content c⟩) s
    | _ => s) s)

/-- PROBE_REPLY (R117): an OK or BUSY reply to a PROBE from the queue. -/
def execProbeReply (link : LinkId) (busy : Bool) (s : State) : Host.Outcome State Fault Refusal :=
  answerNext (onEvent (onTransaction link fun t s =>
    match t.purpose with
    | .item ⟨a, .probe⟩ => ended link (if busy then probeBusy link a else probeOk link a) s
    | _ => s) s)

/-- BACKOFF_PROBE_REPLY (R128): an OK or BUSY reply to a back-off probe. -/
def execBackoffProbeReply (link : LinkId) (_busy : Bool) (s : State) : Host.Outcome State Fault Refusal :=
  answerNext (onEvent (onTransaction link fun t s =>
    match t.purpose with
    | .backoffProbe a => ended link (recoverUnit link a) s
    | _ => s) s)

/-- A reply that began at a time began before the wake expiry, within half the timebase's circle (R133, log 26). -/
def beganInTime (k : Link) (began : Time) : Bool :=
  match k.wakeExpiry with
  | some t => decide (0 < (t - began).toNat) && decide ((t - began).toNat < 2147483648)
  | none => true

/-- WAKE_PROBE_REPLY (R129, R133): an OK or BUSY reply to a wake probe that began at a time; a late one resolves the
unit as not answering, and a late OK ends its report episode before that (log 42). -/
def execWakeProbeReply (link : LinkId) (busy : Bool) (began : Time) (s : State) : Host.Outcome State Fault Refusal :=
  answerNext (onEvent (onTransaction link fun t s =>
    match t.purpose with
    | .wakeProbe a =>
      let timely := beganInTime (s.link link) began
      ended link (fun s => afterWake link (if timely then wakeUnit link a busy s
        else wakeMissed link a (if busy then s else endEpisode link a s))) s
    | _ => s) s)

/-- UNASSIGNED_SHOW_END (R104): the transaction of an UNASSIGNED frame has ended; a reply acts on nothing (log 44). -/
def execUnassignedShowEnd (link : LinkId) (ending : ShowEnd) (s : State) : Host.Outcome State Fault Refusal :=
  answerNext (onEvent (onTransaction link fun t s =>
    match t.purpose with
    | .unassigned _ =>
      match ending with
      | .ok => ended link id s
      | .busy => ended link id s
      | .miss => missTransaction link t s
    | _ => s) s)

/-- MALFORMED_REPLY (R92 to R94): a reply that fails the conditions of R92. -/
def execMalformedReply (link : LinkId) (reply : Reply) (s : State) : Host.Outcome State Fault Refusal :=
  answerNext (onEvent (onTransaction link fun t s => takeMalformed link t reply s) s)

/-- REPLY_WINDOW_EXPIRY (R93, R94): no reply has begun, and the transaction ends as a miss. -/
def execReplyWindowExpiry (link : LinkId) (s : State) : Host.Outcome State Fault Refusal :=
  answerNext (onEvent (onTransaction link fun t s => if t.purpose.awaits then missTransaction link t s else s) s)

end Sys2Proof.Machine
end

