-- ==== Sys2Proof/Machine/PortCommands.lean ====
section
/-! DEFINITION. The commands of the RESET pin, the memory port and the clock (R27, R31, R82, R118, R119, R128, R131, R133, R138, R142, R143, R160, R165, R166). -/

namespace Sys2Proof.Machine

/-- PIN_RESET_ASSERT (R160, R166): accesses are held from now on, and frames on the links are cut off. -/
def execPinResetAssert (s : State) : Host.Outcome State Fault Refusal :=
  answerNext (if s.bus.resetAsserted then s
    else allLinks.foldl (fun s l => clearTransaction l s) { s with bus := { s.bus with resetAsserted := true } })

/-- PIN_RESET_RELEASE (R160, R166): every block takes its reset values, and the accesses held are then performed in
order (log 11). -/
def execPinResetRelease (straps : BitVec 4) (s : State) : Host.Outcome State Fault Refusal :=
  answerNext (s.bus.held.foldl performAccess (pinReset straps s))

/-- CONFIG_REREAD_CYCLE (R165): a read cycle of the configuration re-read. -/
def execConfigRereadCycle (s : State) : Host.Outcome State Fault Refusal :=
  answerNext (onPort (ownStep fun a => match a with | .config _ => true | _ => false) s)

/-- FETCH_COMPLETE (R59 to R63): the fetch of the head commit entry. -/
def execFetchComplete (s : State) : Host.Outcome State Fault Refusal :=
  answerNext (onPort (ownStep fun a => a == .fetch) s)

/-- ACTIVATION_READ_COMPLETE (R1, R11): the image read of an activation runs to its end. -/
def execActivationReadComplete (s : State) : Host.Outcome State Fault Refusal :=
  answerNext (onPort (finishImageRead fun s => match s.route.pendingSwitch with | .reading _ _ _ => true | _ => false) s)

/-- PREVIEW_READ_COMPLETE (R1, R17, R18): the image read of a preview runs to its end. -/
def execPreviewReadComplete (s : State) : Host.Outcome State Fault Refusal :=
  answerNext (onPort (finishImageRead fun s => match s.route.pendingSwitch with | .reading _ _ _ => false | _ => true) s)

/-- FRESHNESS_EXPIRY (R27): the freshness deadline expires. -/
def execFreshnessExpiry (s : State) : Host.Outcome State Fault Refusal :=
  answerNext (onEvent expireFreshness s)

/-- COAST_STEP (R31, R51): a coast step fires. -/
def execCoastStep (s : State) : Host.Outcome State Fault Refusal :=
  answerNext (onEvent fireCoastStep s)

/-- RELEASE_EXPIRY (R82): the first entry of the release list expires; with an empty list nothing changes (log 3). -/
def execReleaseExpiry (s : State) : Host.Outcome State Fault Refusal :=
  answerNext (onEvent (fun s =>
    match s.res.releaseList with
    | x :: _ => expireRelease x (advanceTo x.expiry s)
    | [] => s) s)

/-- PROBE_DEADLINE_EXPIRY (R119): the probe deadline of a unit expires. -/
def execProbeDeadlineExpiry (link : LinkId) (address : Nat) (s : State) : Host.Outcome State Fault Refusal :=
  answerNext (onEvent (onUnit link address (expireProbe link)) s)

/-- BACKOFF_EXPIRY (R128): the back-off expiry of a unit is reached. -/
def execBackoffExpiry (link : LinkId) (address : Nat) (s : State) : Host.Outcome State Fault Refusal :=
  answerNext (onEvent (onUnit link address fun u s =>
    match u.backoff with
    | some t => expireBackoff link address t s
    | none => s) s)

/-- E_PAPER_HOLD_EXPIRY (R118): the e-paper hold of a unit ends. -/
def execEPaperHoldExpiry (link : LinkId) (address : Nat) (s : State) : Host.Outcome State Fault Refusal :=
  answerNext (onEvent (onUnit link address fun u s =>
    match u.hold with
    | some t => expireHold link address t s
    | none => s) s)

/-- QUIET_DELAY_EXPIRY (R131): the quiet delay of a link expires. -/
def execQuietDelayExpiry (link : LinkId) (s : State) : Host.Outcome State Fault Refusal :=
  answerNext (onEvent (fun s =>
    match (s.link link).quietDelay with
    | some t => expireQuiet link t s
    | none => s) s)

/-- WAKE_EXPIRY (R133): the wake expiry of a ROUSING link is reached. -/
def execWakeExpiry (link : LinkId) (s : State) : Host.Outcome State Fault Refusal :=
  answerNext (onEvent (fun s =>
    if (s.link link).state = .rousing then
      match (s.link link).wakeExpiry with
      | some t => expireWake link t s
      | none => s
    else s) s)

/-- The next whole multiple of 1,000 ms; past the greatest value the timebase is 0, which is one (R143, R166). -/
def nextSecond (t : Time) : Time :=
  let n := (t.toNat / 1000 + 1) * 1000
  if n < 4294967296 then BitVec.ofNat 32 n else 0

/-- TIMEBASE_SECOND (R143): the timebase reaches its next whole multiple of 1,000 ms. -/
def execTimebaseSecond (s : State) : Host.Outcome State Fault Refusal :=
  answerNext (onPort (fun s => setTimebase (nextSecond s.timebase) s.ready) s)

/-- One millisecond of the timebase (R166); none while RESET is asserted (log 1). -/
def tick (s : State) : State := onPort (fun s => setTimebase (s.timebase + 1) s.ready) s

/-- NOTICE_ENTRY_WRITE (R138): the entry of the first awaiting notice is written. -/
def execNoticeEntryWrite (s : State) : Host.Outcome State Fault Refusal :=
  answerNext (onPort (ownStep fun a => a == .noticeEntry) s)

/-- PRODUCER_INDEX_WRITE (R138, R140): the producer index word of the notice in progress is written. -/
def execProducerIndexWrite (s : State) : Host.Outcome State Fault Refusal :=
  answerNext (onPort (ownStep fun a => a == .noticeProducer) s)

/-- PRODUCER_ONLY_WRITE (R138, R160): the producer index word alone is written, to restore it or after a reset (log 10). -/
def execProducerOnlyWrite (s : State) : Host.Outcome State Fault Refusal :=
  answerNext (onPort (ownStep fun a => a == .producerOnly || a == .producerReset) s)

/-- STATUS_WRITE_BACK (R142): the status or view word chosen is written. -/
def execStatusWriteBack (s : State) : Host.Outcome State Fault Refusal :=
  answerNext (onPort (ownStep fun a => match a with | .status _ => true | _ => false) s)

end Sys2Proof.Machine
end

