-- ==== Sys2Proof/Machine/Dispatch.lean ====
section
/-! DEFINITION. The effect of every command, one arm per row of the table. -/

namespace Sys2Proof.Machine

/-- The effect of a command on everything but the queue. -/
def exec (i : Instr) (s : State) : Host.Outcome State Fault Refusal :=
  match i with
  | .pinResetAssert => Sys2Proof.Machine.execPinResetAssert s
  | .pinResetRelease straps => Sys2Proof.Machine.execPinResetRelease straps s
  | .softResetHold beat value => Sys2Proof.Machine.execSoftResetHold beat value s
  | .softResetRun beat value => Sys2Proof.Machine.execSoftResetRun beat value s
  | .linkEnable beat value => Sys2Proof.Machine.execLinkEnable beat value s
  | .linkDisable beat value => Sys2Proof.Machine.execLinkDisable beat value s
  | .quietWrite beat value => Sys2Proof.Machine.execQuietWrite beat value s
  | .berthDistanceWrite beat value => Sys2Proof.Machine.execBerthDistanceWrite beat value s
  | .configurationWordWrite beat w value => Sys2Proof.Machine.execConfigurationWordWrite beat w value s
  | .configRereadCycle => Sys2Proof.Machine.execConfigRereadCycle s
  | .activateRoute beat value => Sys2Proof.Machine.execActivateRoute beat value s
  | .previewRoute beat value => Sys2Proof.Machine.execPreviewRoute beat value s
  | .cancelRoute beat value => Sys2Proof.Machine.execCancelRoute beat value s
  | .seatConfirm beat value => Sys2Proof.Machine.execSeatConfirm beat value s
  | .clearSeats beat value => Sys2Proof.Machine.execClearSeats beat value s
  | .reenumerate beat value => Sys2Proof.Machine.execReenumerate beat value s
  | .refresh beat value => Sys2Proof.Machine.execRefresh beat value s
  | .reportFieldWrite beat w value => Sys2Proof.Machine.execReportFieldWrite beat w value s
  | .positionReportCommit beat value => Sys2Proof.Machine.execPositionReportCommit beat value s
  | .consistFieldWrite beat w value => Sys2Proof.Machine.execConsistFieldWrite beat w value s
  | .consistCommit beat value => Sys2Proof.Machine.execConsistCommit beat value s
  | .journalCommit beat slot value => Sys2Proof.Machine.execJournalCommit beat slot value s
  | .fetchComplete => Sys2Proof.Machine.execFetchComplete s
  | .activationReadComplete => Sys2Proof.Machine.execActivationReadComplete s
  | .previewReadComplete => Sys2Proof.Machine.execPreviewReadComplete s
  | .freshnessExpiry => Sys2Proof.Machine.execFreshnessExpiry s
  | .coastStep => Sys2Proof.Machine.execCoastStep s
  | .releaseExpiry => Sys2Proof.Machine.execReleaseExpiry s
  | .probeDeadlineExpiry link address => Sys2Proof.Machine.execProbeDeadlineExpiry link address s
  | .backoffExpiry link address => Sys2Proof.Machine.execBackoffExpiry link address s
  | .ePaperHoldExpiry link address => Sys2Proof.Machine.execEPaperHoldExpiry link address s
  | .quietDelayExpiry link => Sys2Proof.Machine.execQuietDelayExpiry link s
  | .wakeExpiry link => Sys2Proof.Machine.execWakeExpiry link s
  | .timebaseSecond => Sys2Proof.Machine.execTimebaseSecond s
  | .nextFrameSelect link => Sys2Proof.Machine.execNextFrameSelect link s
  | .openChainSent link => Sys2Proof.Machine.execOpenChainSent link s
  | .setLevelSent link => Sys2Proof.Machine.execSetLevelSent link s
  | .restSent link => Sys2Proof.Machine.execRestSent link s
  | .rouseSent link => Sys2Proof.Machine.execRouseSent link s
  | .pageReply link w1 w2 w3 w4 => Sys2Proof.Machine.execPageReply link w1 w2 w3 w4 s
  | .setAddressOk link => Sys2Proof.Machine.execSetAddressOk link s
  | .checkProbeReply link code => Sys2Proof.Machine.execCheckProbeReply link code s
  | .showOk link => Sys2Proof.Machine.execShowOk link s
  | .showBusy link => Sys2Proof.Machine.execShowBusy link s
  | .probeReply link busy => Sys2Proof.Machine.execProbeReply link busy s
  | .backoffProbeReply link busy => Sys2Proof.Machine.execBackoffProbeReply link busy s
  | .wakeProbeReply link busy began => Sys2Proof.Machine.execWakeProbeReply link busy began s
  | .unassignedShowEnd link ending => Sys2Proof.Machine.execUnassignedShowEnd link ending s
  | .malformedReply link reply => Sys2Proof.Machine.execMalformedReply link reply s
  | .replyWindowExpiry link => Sys2Proof.Machine.execReplyWindowExpiry link s
  | .noticeEntryWrite => Sys2Proof.Machine.execNoticeEntryWrite s
  | .producerIndexWrite => Sys2Proof.Machine.execProducerIndexWrite s
  | .producerOnlyWrite => Sys2Proof.Machine.execProducerOnlyWrite s
  | .consumerIndexWrite beat value => Sys2Proof.Machine.execConsumerIndexWrite beat value s
  | .producerIndexOverwrite beat lanes value => Sys2Proof.Machine.execProducerIndexOverwrite beat lanes value s
  | .statusWriteBack => Sys2Proof.Machine.execStatusWriteBack s
  | .counterClearingRead beat counter lanes => Sys2Proof.Machine.execCounterClearingRead beat counter lanes s
  | .linkStatusClearingRead beat link lanes => Sys2Proof.Machine.execLinkStatusClearingRead beat link lanes s
  | .controllerWordOverwrite beat word lanes value => Sys2Proof.Machine.execControllerWordOverwrite beat word lanes value s
  | .guardedWrite beat image w lanes value => Sys2Proof.Machine.execGuardedWrite beat image w lanes value s
  | .partialCapturedWrite beat word lanes value => Sys2Proof.Machine.execPartialCapturedWrite beat word lanes value s
  | .passThroughAccess beat access => Sys2Proof.Machine.execPassThroughAccess beat access s

end Sys2Proof.Machine
end

