-- ==== Sys2Proof/Safety.lean ====
section
/-! DEFINITION. What claims speak in: the parts of the state a command may change, a write that has passed to memory, a notice given, and the invariants of a good state. -/

namespace Sys2Proof.Machine

/-! ## Frames -/

/-- The parts of the state. -/
inductive Part where
  | pending | timebase | bus | mem | port | items | request | route | filter | tracker | res
  | link (l : LinkId)
  | notices | dirty | counts | clearPending
  deriving DecidableEq, Repr

/-- A part is the same in two states. -/
def Part.same (p : Part) (s t : State) : Prop :=
  match p with
  | .pending => t.pending = s.pending
  | .timebase => t.timebase = s.timebase
  | .bus => t.bus = s.bus
  | .mem => t.mem = s.mem
  | .port => t.port = s.port
  | .items => t.items = s.items
  | .request => t.request = s.request
  | .route => t.route = s.route
  | .filter => t.filter = s.filter
  | .tracker => t.tracker = s.tracker
  | .res => t.res = s.res
  | .link l => t.link l = s.link l
  | .notices => t.notices = s.notices
  | .dirty => t.status.dirty = s.status.dirty
  | .counts => t.status.counts = s.status.counts
  | .clearPending => t.status.clearPending = s.status.clearPending

/-- Every part but those listed is the same in two states. -/
def ChangesOnly (ps : List Part) (s t : State) : Prop := ∀ p : Part, p ∉ ps → p.same s t

/-- The link controllers. -/
def Part.links : List Part := [.link .a, .link .b, .link .p]

/-- What a block may change when an event reaches it, the route engine's and the links' doings included. -/
def Part.blocks : List Part :=
  [.request, .route, .filter, .tracker, .res, .link .a, .link .b, .link .p, .notices, .dirty, .counts]

/-- A word is in the dirty set (R142). -/
def State.isDirty (s : State) (w : ViewWord) : Bool := s.status.dirty.getLsbD w.index

/-- Every word dirty in the first state is dirty in the second. -/
def DirtyRises (s t : State) : Prop := ∀ w : ViewWord, s.isDirty w = true → t.isDirty w = true

/-! ## Words written -/

/-- The state once a full-word write of the coach computer has been admitted and has passed to memory (R150,
R158). -/
def State.passed (s : State) (beat : Beat) (offset : Nat) (v : Word) : State := (grantAccess beat s).writeTap offset v

/-- The commands of the seven request words (chapter 11.4). -/
def requestCommand (w : Fin 7) (beat : Beat) (v : Word) : Instr :=
  match w with
  | 0 => .activateRoute beat v
  | 1 => .previewRoute beat v
  | 2 => .cancelRoute beat v
  | 3 => .seatConfirm beat v
  | 4 => .clearSeats beat v
  | 5 => .reenumerate beat v
  | 6 => .refresh beat v

/-- A notice writer once it has been given a notice at a time: reserved below the bound of its kind, and as it was at or
above it (R137). -/
def NoticeWriter.give (w : NoticeWriter) (high : Nat) (now : Time) (n : Notice) : NoticeWriter :=
  if w.occupancy < (if n.minor then min 64 high else 64) then w.reserve n now else w

/-- The notice writer once it has been given a notice. -/
def State.given (s : State) (n : Notice) : NoticeWriter := s.notices.give s.items.noticeHigh s.timebase n

/-- The notice writer once it has been given notices one after the other. -/
def State.givenAll (s : State) (ns : List Notice) : NoticeWriter :=
  ns.foldl (fun w n => w.give s.items.noticeHigh s.timebase n) s.notices

/-- The timebase when a deadline has been reached: the deadline, or the timebase itself where that lies past it
(R166, log 2). -/
def State.reached (s : State) (t : Time) : Time := if (t - s.timebase).toNat < 2147483648 then t else s.timebase

/-- A count after one more counted event (R144). -/
def oneMore (n : Nat) : Nat := if n < 65535 then n + 1 else n

/-- The own access whose cycle the memory port performs next: the one in progress, or the one it chooses now, where no
burst of the coach computer holds the port (R158, R159). -/
def State.nextAccess (s : State) : Option OwnAccess := if portFree s then s.ready.port.inProgress else none

/-! ## Segments and switches -/

/-- A segment is NOW at the current stop: it is LIVE, and fp ≤ c < tp (Table 5-1). -/
def Segment.isNow (served : List Nat) (c : Nat) (g : Segment) : Prop :=
  g.tag = .live ∧ ∃ fp tp, served.idxOf? g.fromIndex = some fp ∧ served.idxOf? g.toIndex = some tp ∧ fp ≤ c ∧ c < tp

/-- A segment is UPCOMING, with its from-stop at a served position: it is LIVE, and c < fp (Table 5-1). -/
def Segment.isUpcoming (served : List Nat) (c : Nat) (g : Segment) (fp : Nat) : Prop :=
  g.tag = .live ∧ (∃ tp, served.idxOf? g.toIndex = some tp) ∧ served.idxOf? g.fromIndex = some fp ∧ c < fp

/-- A segment has ENDED: it is LIVE, and fp and tp lie at or behind c (Table 5-1). -/
def Segment.hasEnded (served : List Nat) (c : Nat) (g : Segment) : Prop :=
  g.tag = .live ∧ ∃ fp tp, served.idxOf? g.fromIndex = some fp ∧ served.idxOf? g.toIndex = some tp ∧ fp ≤ c ∧ tp ≤ c

/-- The first segment of a list that meets a condition. -/
def FirstOf (p : Segment → Prop) (gs : List Segment) (g : Segment) : Prop :=
  ∃ before after, gs = before ++ g :: after ∧ p g ∧ ∀ h ∈ before, ¬ p h

/-- The nearest UPCOMING segment of a list: the UPCOMING one with the lowest fp, and the first of those (R74). -/
def NearestUpcoming (served : List Nat) (c : Nat) (gs : List Segment) (g : Segment) : Prop :=
  ∃ before after fp, gs = before ++ g :: after ∧ g.isUpcoming served c fp ∧
    (∀ h ∈ before, ∀ x, h.isUpcoming served c x → fp < x) ∧ ∀ h ∈ after, ∀ x, h.isUpcoming served c x → fp ≤ x

/-- The tag of a service and leg under a route (R64). -/
def ActiveRoute.tags (r : ActiveRoute) (service fromIndex toIndex : Nat) : Tag :=
  if service ≠ r.copy.service then .dormant
  else if fromIndex ∈ r.served ∧ toIndex ∈ r.served then .live
  else .misrouted

/-- A segment tagged again under a route: the confirmed and released flags stand only while it stays LIVE (R69). -/
def Segment.taggedAgain (r : ActiveRoute) (g : Segment) : Segment :=
  if g.tag = .live ∧ r.tags g.service g.fromIndex g.toIndex = .live then g
  else { g with tag := r.tags g.service g.fromIndex g.toIndex, confirmed := false, released := false }

/-- The SEAT_MISROUTED notices of segments tagged again under a route: one for each that takes MISROUTED from another
tag, in seat order and then segment order, with the misrouted stop and its code, or FFFFh where the image has no such
stop (R65, R72). -/
def misroutings (r : ActiveRoute) (examined : Segment → Bool) (seats : List SeatEntry) : List Notice :=
  (seats.zipIdx 1).flatMap fun x =>
    (x.1.segments.filter fun g => examined g && decide (g.tag ≠ .misrouted) &&
      decide (r.tags g.service g.fromIndex g.toIndex = .misrouted)).map fun g =>
        let i := if g.fromIndex ∈ r.served then g.toIndex else g.fromIndex
        .seatMisrouted x.2 ((r.copy.stops[i]?.map Stop.code).getD 0xFFFF) i

/-- What a switch to a copy leaves (R14, R15, R24, R40, R46): the route in force, the stop it stands at, the progress, and
what the tracker and the filter keep; ROUTE_ACTIVE is the last notice given. -/
def SwitchMade (image : ImageId) (start : Start) (copy : RouteCopy) (s t : State) : Prop :=
  let served := copy.servedList s.route.consist.portion
  let marks := copy.marks served
  let p := s.filter.progress / 1000
  t.route = { s.route with active := some ⟨image, copy, served⟩, pendingSwitch := .none, mismatch := false } ∧
  t.isDirty (.status 1) = true ∧
  ∃ c, t.tracker.approach = some ⟨if c + 1 = served.length then .terminated else .standing, c⟩ ∧
    c < served.length ∧ t.filter.progress = marks.getD c 0 * 1000 ∧
    (∀ i, start = .index i → i ∈ served → served[c]? = some i) ∧
    ((start = .auto ∨ ∃ i, start = .index i ∧ i ∉ served) → ∀ j, j < marks.length →
      distanceTo (marks.getD c 0) p ≤ distanceTo (marks.getD j 0) p ∧
      (j < c → distanceTo (marks.getD c 0) p < distanceTo (marks.getD j 0) p)) ∧
    t.tracker.nextStopMarks = 0 ∧ t.tracker.arrivingMarks = 0 ∧ t.tracker.arrivedMarks = 0 ∧
    t.tracker.delay = 0 ∧ t.tracker.eta = 0 ∧ t.tracker.rawDelay = none ∧
    t.tracker.stillRun = s.tracker.stillRun ∧ t.filter.referencePending = true ∧
    t.filter.previous = s.filter.previous ∧ t.filter.lock = s.filter.lock ∧
    t.filter.consistentRun = s.filter.consistentRun ∧ t.filter.inconsistentRun = s.filter.inconsistentRun ∧
    t.filter.smoothed = s.filter.smoothed ∧ t.filter.sourcePresent = s.filter.sourcePresent ∧
    t.filter.freshness = s.filter.freshness ∧ t.filter.door = s.filter.door ∧
    t.filter.ambient = s.filter.ambient ∧
    (t.notices.occupancy < 64 → ∃ i, t.notices.accesses.getLast? = some (.entry
      ⟨i, .routeActive (copy.stop (served.getD c 0)).code copy.service image, s.timebase⟩))

/-- What the abandoning of a waiting switch leaves (R13): the pending switch NONE, and INVALID_IMAGE with the reason
under the tag of the activation. -/
def SwitchAbandoned (tag : Byte) (reason : InvalidReason) (s t : State) : Prop :=
  t.route = { s.route with pendingSwitch := .none } ∧
  t.request = ⟨s.request.busy, ⟨tag, some .activateRoute, .invalidImage, some reason⟩⟩ ∧
  t.isDirty (.status 0) = true ∧ t.isDirty (.status 1) = true

/-! ## Events -/

/-- The commands that are events of a block: timers of the blocks and what happens on the links. -/
def blockEvent : Instr → Bool
  | .freshnessExpiry | .coastStep | .releaseExpiry | .probeDeadlineExpiry _ _ | .backoffExpiry _ _
  | .ePaperHoldExpiry _ _ | .quietDelayExpiry _ | .wakeExpiry _ | .nextFrameSelect _ | .openChainSent _
  | .setLevelSent _ | .restSent _ | .rouseSent _ | .pageReply _ _ _ _ _ | .setAddressOk _ | .checkProbeReply _ _
  | .showOk _ | .showBusy _ | .probeReply _ _ | .backoffProbeReply _ _ | .wakeProbeReply _ _ _
  | .unassignedShowEnd _ _ | .malformedReply _ _ | .replyWindowExpiry _ => true
  | .pinResetAssert | .pinResetRelease _ | .softResetHold _ _ | .softResetRun _ _ | .linkEnable _ _
  | .linkDisable _ _ | .quietWrite _ _ | .berthDistanceWrite _ _ | .configurationWordWrite _ _ _
  | .configRereadCycle | .activateRoute _ _ | .previewRoute _ _ | .cancelRoute _ _ | .seatConfirm _ _
  | .clearSeats _ _ | .reenumerate _ _ | .refresh _ _ | .reportFieldWrite _ _ _ | .positionReportCommit _ _
  | .consistFieldWrite _ _ _ | .consistCommit _ _ | .journalCommit _ _ _ | .fetchComplete
  | .activationReadComplete | .previewReadComplete | .timebaseSecond | .noticeEntryWrite | .producerIndexWrite
  | .producerOnlyWrite | .consumerIndexWrite _ _ | .producerIndexOverwrite _ _ _ | .statusWriteBack
  | .counterClearingRead _ _ _ | .linkStatusClearingRead _ _ _ | .controllerWordOverwrite _ _ _ _
  | .guardedWrite _ _ _ _ _ | .partialCapturedWrite _ _ _ _ | .passThroughAccess _ _ => false

/-! ## Good states -/

/-- The notice ring is sound (R136 to R138): the reserved notices are numbered on from the memory-visible index up to
the internal one, at most 64 lie between the taken consumer index and the internal producer index, and an access of
the NOTICE class in progress is the head of the class. -/
structure RingSound (s : State) : Prop where
  numbered : ∀ i e, s.notices.awaiting[i]? = some e → e.index = s.notices.visible + BitVec.ofNat 7 i
  producer : s.notices.producer = s.notices.visible + BitVec.ofNat 7 s.notices.awaiting.length
  bounded : (s.notices.visible - s.notices.consumer).toNat + s.notices.awaiting.length ≤ 64
  entry : s.port.inProgress = some .noticeEntry ∨ s.port.inProgress = some .noticeProducer →
    ∃ e, s.notices.accesses.head? = some (.entry e)
  only : s.port.inProgress = some .producerOnly → s.notices.accesses.head? = some .producerOnly

/-- The bounds of the reservation engine (R58, R61, R73, R80): 128 seats of at most four segments, at most 16 commit
entries, at most one release entry for a seat, each naming a seat. -/
structure ReservationsBounded (s : State) : Prop where
  seats : s.res.seats.length = 128
  segments : ∀ e ∈ s.res.seats, e.segments.length ≤ 4
  fetches : s.res.fetchQueue.length ≤ 16
  releases : s.res.releaseList.Pairwise fun x y => x.seat ≠ y.seat
  named : ∀ x ∈ s.res.releaseList, 1 ≤ x.seat ∧ x.seat ≤ 128

/-- A step of an enumeration that reads or addresses a unit not yet entered is in flight. -/
def Link.entering (k : Link) : Bool :=
  match k.transaction with
  | some ⟨.extendedPage _ _ _, _, _, _, _⟩ => true
  | some ⟨.setAddress _ _, _, _, _, _⟩ => true
  | some ⟨.checkProbe _ _, _, _, _, _⟩ => true
  | _ => false

/-- A link controller is sound (R91, R99, R102, R113): its entries have the addresses 1 to n, the next address is
n + 1, n is within the link's capacity and below it while a unit is being read or addressed, and its queue holds at
most 32 items, no two of one unit and kind. -/
structure LinkSound (l : LinkId) (k : Link) : Prop where
  addresses : k.units.map UnitEntry.address = List.range' 1 k.units.length
  next : k.nextAddress = k.units.length + 1
  capacity : k.units.length ≤ l.capacity
  room : k.entering = true → k.units.length < l.capacity
  depth : k.queue.length ≤ 32
  single : k.queue.Pairwise fun a b => a.sameKey b = false

/-- A purpose is a step of an enumeration (R99). -/
def Purpose.enumerates : Purpose → Bool
  | .openChain => true
  | .basePage _ => true
  | .extendedPage _ _ _ => true
  | .setAddress _ _ => true
  | .checkProbe _ _ => true
  | .item _ => false
  | .unassigned _ => false
  | .rouse => false
  | .rest => false
  | .wakeProbe _ => false
  | .backoffProbe _ => false

/-- The unit whose frame is in flight, where the frame is to a unit that shows content: an item other than LEVEL, a
back-off probe or a wake probe. -/
def Purpose.shownUnit : Purpose → Option Nat
  | .item ⟨a, .content _⟩ => some a
  | .item ⟨a, .probe⟩ => some a
  | .item ⟨_, .level _⟩ => none
  | .wakeProbe a => some a
  | .backoffProbe a => some a
  | .openChain => none
  | .basePage _ => none
  | .extendedPage _ _ _ => none
  | .setAddress _ _ => none
  | .checkProbe _ _ => none
  | .unassigned _ => none
  | .rouse => none
  | .rest => none

/-- The unit shows content: it is neither FOREIGN nor DUPLICATE (R104). -/
def UnitEntry.shows (u : UnitEntry) : Prop := u.state ≠ .foreign ∧ u.state ≠ .duplicate

/-- The queue holds an item of a unit and content kind. -/
def Link.holdsItem (k : Link) (address : Nat) (kind : ContentKind) : Prop :=
  ∃ c : Content, c.kind = kind ∧ (⟨address, .content c⟩ : Item) ∈ k.queue

/-- The item in flight is one of a unit and content kind. -/
def Link.carriesItem (k : Link) (address : Nat) (kind : ContentKind) : Prop :=
  ∃ c : Content, c.kind = kind ∧ k.inFlight = some ⟨address, .content c⟩

/-- Every target is on its way to its unit (R112): on a link that is RUNNING, RESTING or ROUSING, a target that differs
from the reference content is queued or owed, and a queued content that differs from the target is owed. The other
fields say what a link holds for that to stay so: which frames and which units belong to which state of the link, and
which units take which content. -/
structure TargetsOnTheirWay (s : State) (l : LinkId) : Prop where
  target : (s.link l).state.up = true → ∀ u ∈ (s.link l).units, ∀ kind ∈ u.kinds,
    (s.link l).reference u kind ≠ some (target s l u kind) →
    (s.link l).holdsItem u.address kind ∨ u.owed kind = true
  queued : (s.link l).state.up = true → ∀ u ∈ (s.link l).units, ∀ c : Content, c.kind ∈ u.kinds →
    (⟨u.address, .content c⟩ : Item) ∈ (s.link l).queue → c = Sys2Proof.Machine.target s l u c.kind ∨ u.owed c.kind = true
  idle : (s.link l).state = .off → (s.link l).transaction = none
  steps : (s.link l).state = .enumerating → (s.link l).reenumerate = false → (s.link l).wakePosition = none ∧
    (∀ t, (s.link l).transaction = some t → t.purpose.enumerates = true) ∧
    ∀ u ∈ (s.link l).units, u.state = .active ∨ u.state = .foreign ∨ u.state = .duplicate
  frames : (s.link l).state.up = true → ∀ t, (s.link l).transaction = some t → t.purpose.enumerates = false ∧
    ∀ u ∈ (s.link l).units, t.purpose.shownUnit = some u.address → u.shows
  resting : ∀ u ∈ (s.link l).units, u.rested = true ∨ u.backoff.isSome = true ∨ u.probeDue.isSome = true ∨
    (s.link l).wakePosition = some u.address → u.shows
  kinds : ∀ u ∈ (s.link l).units, u.shows → if l = .p then panelKind u.page.kind = true else seatKind u.page.kind = true

/-- Every target of every link is on its way, while RESET is not asserted: its assertion cuts off the frames in flight,
and its release puts every link at OFF (R112, R160, log 11). -/
def ContentOnItsWay (s : State) : Prop := s.bus.resetAsserted = false → ∀ l, TargetsOnTheirWay s l

/-- The marks of the active copy and of the waiting one fit their field of 24 bits (Table 12-6). -/
def MarksFit (s : State) : Prop :=
  (∀ r, s.route.active = some r → ∀ st ∈ r.copy.stops, st.mark < 2 ^ 24) ∧
  ∀ i start tag copy, s.route.pendingSwitch = .waiting i start tag copy → ∀ st ∈ copy.stops, st.mark < 2 ^ 24

/-- The figures of the filter and the still run count lie in their ranges (R22, R26, R33, R35 to R37, R45). -/
structure FilterInRange (s : State) : Prop where
  progress : s.filter.progress ≤ 16777215000
  consistent : s.filter.consistentRun ≤ 31
  inconsistent : s.filter.inconsistentRun ≤ 31
  smoothed : s.filter.smoothed ≤ 15000
  last : s.filter.lastSpeed ≤ 15000
  day : s.filter.lastDaySeconds ≤ 172799
  previous : ∀ o, s.filter.previous = some o → o.speed ≤ 15000 ∧ o.distance < 2 ^ 24
  door : s.filter.door.run ≤ 15
  ambient : s.filter.ambient.run ≤ 15
  still : s.tracker.stillRun ≤ 15

/-- The counters and the starvation count lie in their ranges (R144, R158). -/
structure CountsInRange (s : State) : Prop where
  counters : s.status.counts.length = 20
  counts : ∀ n ∈ s.status.counts, n ≤ 65535
  starvation : s.port.starvation ≤ 16

/-- While SOFT_RESET holds HOLD, every block holds its reset values (R164), and neither a notice nor a configuration
re-read is on its way. -/
def HoldsReset (s : State) : Prop :=
  s.items.softReset = true →
    s.items = { Items.default with softReset := true } ∧ s.request = .reset ∧ s.route = .reset ∧ s.filter = .reset ∧
    s.tracker = .reset ∧ s.res = .reset ∧ s.linkA = .reset ∧ s.linkB = .reset ∧ s.linkP = .reset ∧
    s.notices.producer = 0 ∧ s.notices.visible = 0 ∧ s.notices.consumer = 0 ∧ s.notices.awaiting = [] ∧
    s.port.configPlaced = false ∧ ∀ n, s.port.inProgress ≠ some (.config n)

end Sys2Proof.Machine
end

