-- ==== Sys2Proof/Certificates/Slice0/Obligations.lean ====
section
/-! DEFINITION. The statements about the controller: what every command does, what it leaves alone, and what every step keeps. -/

open Sys2Proof Sys2Proof.Machine

/-! ## Steps, resets and admissions -/

/-- A step performs the command at the front of the queue on the state with the queue's rest; every command on every
state answers a next state, and leaves the queue alone. On an empty queue a millisecond passes, and while RESET is
asserted nothing does (the model's choice, log 1); before the millisecond a free port has chosen its next own access
(the model's reading, log 46). -/
def Obligations.StepTakesTheFrontCommand : Prop :=
  (∀ (c : Instr) (rest : List Instr) (s : State), s.pending = c :: rest →
    step s = exec c { s with pending := rest }) ∧
  (∀ (c : Instr) (s : State), ∃ t, exec c s = .next t ∧ t.pending = s.pending) ∧
  (∀ s : State, s.pending = [] → s.bus.resetAsserted = true → step s = .next s) ∧
  (∀ s : State, s.pending = [] → s.bus.resetAsserted = false →
    ∃ t, step s = .next t ∧ t.timebase = s.timebase + 1 ∧ ChangesOnly [.timebase, .dirty] s.ready t)

/-- The state after a reset holds the values that Tables 1-6, 2-4, 3-1, 4-4, 8-1 and 11-1 and the chapters' reset
rules give, and meets every invariant below. The next address of a link, which soundness carries, is the model's
choice until an enumeration starts (log 49), as are the estimated flag for coasting (log 20) and memory of zeros (log
4). -/
def Obligations.ResetHoldsTheStatedValues : Prop :=
  State.reset.timebase = 0 ∧ State.reset.items = Items.default ∧
  State.reset.request = ⟨none, ⟨0, none, .none, none⟩⟩ ∧
  State.reset.route.active = none ∧ State.reset.route.pendingSwitch = .none ∧
  State.reset.route.previewRead = none ∧
  (∃ image, State.reset.route.preview = ⟨image, .none, false, false, none, none, 0⟩) ∧
  State.reset.route.consist = ⟨0, .one, .forward, true⟩ ∧ State.reset.route.mismatch = false ∧
  State.reset.route.staging = ⟨0, 0, 0⟩ ∧
  State.reset.filter = {
    staging := ⟨0, 0, 0, 0, 0⟩, previous := none, referencePending := true, lastSpeed := 0, lastDaySeconds := 0
    lock := .unlocked, consistentRun := 0, inconsistentRun := 0, sourcePresent := false, freshness := none
    mode := .tracking, coastStep := none, progress := 0, smoothed := 0
    door := ⟨.closed, none, 0⟩, ambient := ⟨.day, none, 0⟩ } ∧
  State.reset.filter.estimated = true ∧
  State.reset.tracker.approach = none ∧ State.reset.tracker.nextStopMarks = 0 ∧
  State.reset.tracker.arrivingMarks = 0 ∧ State.reset.tracker.arrivedMarks = 0 ∧
  State.reset.tracker.stillRun = 0 ∧ State.reset.tracker.standingPending = false ∧
  State.reset.tracker.distanceToGo = 0 ∧ State.reset.tracker.eta = 0 ∧ State.reset.tracker.predictedMinute = 0 ∧
  State.reset.tracker.rawDelay = none ∧ State.reset.tracker.delay = 0 ∧
  State.reset.res.fetchQueue = [] ∧ State.reset.res.releaseList = [] ∧ State.reset.res.unverified = false ∧
  State.reset.res.seats = List.replicate 128
    ⟨none, false, false, [], ⟨.free, none, none, none, ⟨false, false, false, false⟩⟩, none⟩ ∧
  (∀ l, let k := State.reset.link l
    k.state = .off ∧ k.units = [] ∧ k.queue = [] ∧ k.transaction = none ∧ k.reenumerate = false ∧
    k.overlength = false ∧ k.chainIntact = false ∧ k.overflow = false ∧ k.sweepPosition = 1 ∧ k.levelOwed = false ∧
    k.ackLevel = none ∧ k.quietDelay = none ∧ k.restDue = false ∧ k.rouseDue = false ∧ k.wakeExpiry = none ∧
    k.wakePosition = none ∧ k.unassignedDue = []) ∧
  State.reset.notices.producer = 0 ∧ State.reset.notices.visible = 0 ∧ State.reset.notices.consumer = 0 ∧
  State.reset.notices.awaiting = [] ∧ attn State.reset = false ∧
  (∀ w : ViewWord, State.reset.isDirty w = true) ∧ (∀ c : Counter, State.reset.count c = 0) ∧
  (∀ w : Fin 256, State.reset.status.clearPending.getLsbD w.val = clearOnRead w.val) ∧
  (∀ i, guarded State.reset i = false) ∧ State.reset.port.starvation = 0 ∧ State.reset.port.inProgress = none ∧
  Memory.wf State.reset.mem = true ∧ RingSound State.reset ∧ ReservationsBounded State.reset ∧
  (∀ l, LinkSound l (State.reset.link l)) ∧ ContentOnItsWay State.reset ∧ MarksFit State.reset ∧
  FilterInRange State.reset ∧ CountsInRange State.reset ∧ HoldsReset State.reset

/-- PIN_RESET_ASSERT only raises RESET and cuts off the frames on the links. While RESET is asserted a later word of a
burst whose cycle is in progress is performed, be the words before it held back or not, any other access waits, and every other command but the release does
nothing. PIN_RESET_RELEASE puts every block at its reset value with the straps sampled, SOFT_RESET at RUN and the
timebase at 0, keeps memory, and then performs the accesses that waited in their order. The model's choices in this:
the accesses that wait, their moment and the cut frames (log 11), the burst held back so far (log 53), the data of the last read kept (log 13), and a
release that resets from every state, RESET asserted or not (log 38). -/
def Obligations.PinResetHoldsAccessesAndRestores : Prop :=
  (∀ s : State, s.bus.resetAsserted = false →
    exec .pinResetAssert s = .next { s with
      bus := { s.bus with resetAsserted := true }
      linkA := { s.linkA with transaction := none }
      linkB := { s.linkB with transaction := none }
      linkP := { s.linkP with transaction := none } }) ∧
  (∀ (c : Instr) (s : State), s.bus.resetAsserted = true → (∀ straps, c ≠ .pinResetRelease straps) →
    (busOpOf s c = none → exec c s = .next s) ∧
    (∀ b x, busOpOf s c = some (b, x) →
      (s.port.burst ≠ .closed ∧ (b = .middle ∨ b = .last) → exec c s = .next (performBus b x s)) ∧
      (¬ (s.port.burst ≠ .closed ∧ (b = .middle ∨ b = .last)) → exec c s = .next { s with
        bus := { s.bus with held := s.bus.held ++ [c] }, port := { s.port with burst := .closed } }))) ∧
  (∀ (straps : BitVec 4) (s : State),
    exec (.pinResetRelease straps) s = .next (s.bus.held.foldl performAccess { State.reset with
      pending := s.pending, mem := s.mem, bus := ⟨straps, false, [], s.bus.readData⟩ }))

/-- While SOFT_RESET holds HOLD no block takes an event, and a full-word write to any captured word but configuration
word 0 passes to memory and is not taken. -/
def Obligations.HoldTakesOnlyTheSoftResetWord : Prop :=
  (∀ (c : Instr) (s : State), s.items.softReset = true → blockEvent c = true → exec c s = .next s) ∧
  (∀ (c : Instr) (s : State) (b : Beat) (w : CapturedWord) (v : Word), s.bus.resetAsserted = false →
    busOpOf s c = some (b, .write (.captured w) fullWord v) → w ≠ .config 0 →
    (s.passed b (capturedOffset w) v).items.softReset = true →
    exec c s = .next (s.passed b (capturedOffset w) v))

/-- A taken configuration word 0 acts by the value it carries and the value held: HOLD while RUN is the soft reset,
RUN while HOLD resumes and places the re-read, the value held already changes nothing, bad parity only counts, and a
partial write is not taken and counts in either state. What the spec gives no reset value takes the model's (logs 20
and 49). -/
def Obligations.SoftResetActsByTheValueHeld : Prop :=
  ∀ (b : Beat) (v : Word) (s : State), s.bus.resetAsserted = false →
    let a := s.passed b 0 v
    (∀ lanes : Lanes, lanes ≠ 15 → exec (.partialCapturedWrite b (.config 0) lanes v) s = .next (bump .tapPartial
      ((grantAccess b s).writeTap 0 (mergeLanes ((grantAccess b s).tapWord 0) v lanes)))) ∧
    ∀ c : Instr, (c = .softResetHold b v ∨ c = .softResetRun b v) →
      (evenParity v = false → exec c s = .next (bump .configParity a)) ∧
      (evenParity v = true → v.getLsbD 0 = true → a.items.softReset = false →
        exec c s = .next { State.reset with
          pending := a.pending, timebase := a.timebase, bus := a.bus, mem := a.mem
          port := { Port.reset with burst := a.port.burst }
          items := { Items.default with softReset := true } }) ∧
      (evenParity v = true → v.getLsbD 0 = false → a.items.softReset = true →
        exec c s = .next { a with
          items := { a.items with softReset := false }, port := { a.port with configPlaced := true } }) ∧
      (evenParity v = true → v.getLsbD 0 = a.items.softReset → exec c s = .next a)

/-- A coach computer access performed while an own cycle waits raises the starvation count; at 16 the waiting own
cycle goes first and the count starts again. A later word of a burst belongs to its one cycle, and no own cycle is
performed until its last word; a burst whose words so far were held back counts at the first that is forwarded. The
model's readings in this: the words of a burst (log 6), the own cycle at 16 (log 7), an own access chosen at the very
access that it then counts (log 46), and the burst that begins with words held back (log 53). -/
def Obligations.AdmissionCountsTowardStarvation : Prop :=
  (∀ (b : Beat) (s : State), s.port.burst ≠ .closed → (b = .middle ∨ b = .last) →
    let rest := if b = .middle then Burst.forwarded else .closed
    (s.port.burst = .forwarded ∨ s.port.inProgress = none →
      grantAccess b s = { s with port := { s.port with burst := rest } }) ∧
    (s.port.burst = .heldBack → s.port.inProgress ≠ none → grantAccess b s = { s with
      port := { s.port with burst := rest, starvation := min 16 (s.port.starvation + 1) } })) ∧
  (∀ (b : Beat) (s : State), (s.port.burst = .closed ∨ b = .single ∨ b = .first) →
    let more := if b = .first ∨ b = .middle then Burst.forwarded else .closed
    let r := beginOwn s
    (r.port.inProgress = none → grantAccess b s = { s with port := { s.port with burst := more } }) ∧
    (∀ o, r.port.inProgress = some o → s.port.starvation < 16 → grantAccess b s = { r with
      port := { r.port with burst := more, starvation := s.port.starvation + 1 } }) ∧
    (∀ o, r.port.inProgress = some o → s.port.starvation = 16 →
      let t := beginOwn (performCycle o { r with port := { r.port with starvation := 0 } })
      grantAccess b s = { t with
        port := { t.port with burst := more, starvation := if t.port.inProgress.isSome then 1 else 0 } }) ∧
    (s.port.burst = .closed → s.bus.resetAsserted = false → r.port.inProgress = s.nextAccess)) ∧
  (∀ (c : Instr) (s : State), s.port.burst ≠ .closed → c ∈ [.configRereadCycle, .fetchComplete, .activationReadComplete,
    .previewReadComplete, .noticeEntryWrite, .producerIndexWrite, .producerOnlyWrite, .statusWriteBack] →
    exec c s = .next s)

/-! ## What every step keeps -/

/-- Every step keeps the notice ring sound: no notice is reserved over one the coach computer has not consumed. -/
def Obligations.StepKeepsTheNoticeRingSound : Prop :=
  ∀ s t : State, RingSound s → step s = .next t → RingSound t

/-- Every step keeps the bounds of the reservation engine. -/
def Obligations.StepKeepsTheReservationBounds : Prop :=
  ∀ s t : State, ReservationsBounded s → step s = .next t → ReservationsBounded t

/-- Every step keeps the unit tables and the output queues sound. The next address of a link that is OFF is the
model's choice (log 49). -/
def Obligations.StepKeepsTheLinksSound : Prop :=
  ∀ s t : State, (∀ l, LinkSound l (s.link l)) → step s = .next t → ∀ l, LinkSound l (t.link l)

/-- Every step keeps memory in its canonical form, and the figures of the position filter, the counters and the
starvation count in their ranges. Progress stays in its range where the marks of the copies fit their field, and they
go on fitting it. The canonical form is the model's (log 4). -/
def Obligations.StepKeepsMemoryAndFigures : Prop :=
  ∀ s t : State, step s = .next t →
    (Memory.wf s.mem = true → Memory.wf t.mem = true) ∧ (CountsInRange s → CountsInRange t) ∧
    (FilterInRange s → MarksFit s → FilterInRange t ∧ MarksFit t)

/-- Every step keeps every target on its way to its unit; and where every target is on its way, each content kind of an
ACTIVE or SUSPECT unit of a RUNNING, RESTING or ROUSING link whose target differs from the content the unit acknowledged
last is queued, in flight or owed, which is the composer's law. Nothing is claimed while RESET is asserted, which
cuts off the frames in flight (the model's choice, log 11). -/
def Obligations.StepKeepsEveryTargetOnItsWay : Prop :=
  (∀ s t : State, (∀ l, LinkSound l (s.link l)) → s.res.seats.length = 128 → ContentOnItsWay s → step s = .next t →
    ContentOnItsWay t) ∧
  (∀ (s : State) (l : LinkId) (u : UnitEntry) (kind : ContentKind), s.bus.resetAsserted = false → ContentOnItsWay s →
    ((s.link l).state = .running ∨ (s.link l).state = .resting ∨ (s.link l).state = .rousing) →
    u ∈ (s.link l).units → (u.state = .active ∨ u.state = .suspect) → kind ∈ u.kinds →
    u.acknowledged kind ≠ some (target s l u kind) →
    (s.link l).holdsItem u.address kind ∨ (s.link l).carriesItem u.address kind ∨ u.owed kind = true)

/-- Every step keeps every block at its reset values for as long as SOFT_RESET holds HOLD. -/
def Obligations.StepKeepsEveryBlockResetInHold : Prop :=
  ∀ s t : State, HoldsReset s → step s = .next t → HoldsReset t

/-- No command but the release of RESET changes a word of memory inside a guarded image window. -/
def Obligations.NoWriteReachesAGuardedWindow : Prop :=
  ∀ (c : Instr) (s t : State) (i : ImageId) (w : Fin 4096), Memory.wf s.mem = true → guarded s i = true →
    (∀ straps, c ≠ .pinResetRelease straps) → exec c s = .next t →
    readMem t.mem (s.tapBase + imageWindow i + w.val) = readMem s.mem (s.tapBase + imageWindow i + w.val)

/-! ## Configuration -/

/-- A taken configuration word sets its own items, each clamped to its range, and nothing else. -/
def Obligations.TakenWordClampsItsItems : Prop :=
  ∀ (b : Beat) (w : Fin 32) (v : Word) (s : State), s.bus.resetAsserted = false →
    let a := s.passed b w.val v
    let x := v.toNat % 65536
    let lo := v.toNat % 256
    let hi := v.toNat / 256 % 256
    a.items.softReset = false → evenParity v = true → w ≠ 0 → w ≠ 1 → w ≠ 8 → w ≠ 18 →
    ∃ t, exec (.configurationWordWrite b w v) s = .next t ∧ ChangesOnly [.items] a t ∧
      (w = 2 → t.items = { a.items with
          faultModeA := t.items.faultModeA, faultModeB := t.items.faultModeB, faultModeP := t.items.faultModeP } ∧
        ∀ l : LinkId, let code := v.toNat / (match l with | .a => 1 | .b => 4 | .p => 16) % 4
          t.items.faultMode l = if code = 0 then .latch else if code = 1 then .retry else .report) ∧
      (w = 3 → t.items = { a.items with missDeglitch := max 1 (min 15 x) }) ∧
      (w = 4 → t.items = { a.items with retryInterval := min 7 x }) ∧
      (w = 5 → t.items = { a.items with retryLimit := min 7 x }) ∧
      (w = 6 → t.items = { a.items with replyWindow := max 200 (min 5000 x) }) ∧
      (w = 7 → t.items = { a.items with probeInterval := max 1 (min 60 x) }) ∧
      (w = 9 → t.items = { a.items with wakeTime := max 10 (min 2000 x) }) ∧
      (w = 10 → t.items = { a.items with lockCount := max 1 (min 31 x) }) ∧
      (w = 11 → t.items = { a.items with unlockCount := max 1 (min 31 x) }) ∧
      (w = 12 → t.items = { a.items with toleranceBase := max 1 (min 255 x) }) ∧
      (w = 13 → t.items = { a.items with reportPeriod := max 100 (min 10000 x) }) ∧
      (w = 14 → t.items = { a.items with freshnessCount := max 1 (min 15 x) }) ∧
      (w = 15 → t.items = { a.items with maxGap := max 1000 (min 60000 x) }) ∧
      (w = 16 → t.items = { a.items with
        holdOnStale := v.getLsbD 0, holdOnJump := v.getLsbD 1, holdOnUnlock := v.getLsbD 2 }) ∧
      (w = 17 → t.items = { a.items with approachDistance := max 200 (min 20000 x) }) ∧
      (w = 19 → t.items = { a.items with stopSpeed := min 200 x }) ∧
      (w = 20 → t.items = { a.items with departSpeed := max 20 (min 1000 x) }) ∧
      (w = 21 → t.items = { a.items with stillCount := max 1 (min 15 x) }) ∧
      (w = 22 → t.items = { a.items with doorCount := max 1 (min 15 x) }) ∧
      (w = 23 → t.items = { a.items with ambientCount := max 1 (min 15 x) }) ∧
      (w = 24 → t.items = { a.items with speedFloor := max 50 (min 2000 x) }) ∧
      (w = 25 → t.items = { a.items with delayShow := max 2 (min 15 x) }) ∧
      (w = 26 → t.items = { a.items with noShow := min 90 x }) ∧
      (w = 27 → t.items = { a.items with levelDay := BitVec.ofNat 8 lo, levelDusk := BitVec.ofNat 8 hi }) ∧
      (w = 28 → t.items = { a.items with levelNight := BitVec.ofNat 8 lo, levelTunnel := BitVec.ofNat 8 hi }) ∧
      (w = 29 → t.items = { a.items with
        queueNearFull := max 2 (min 31 lo), queueNearEmpty := min (max 2 (min 31 lo) - 1) hi }) ∧
      (w = 30 → t.items = { a.items with noticeHigh := max 1 (min 63 x) }) ∧
      (w = 31 → t.items = { a.items with ePaperHold := min 120 x })

/-- Configuration words 1, 8 and 18 act at the moment they are taken. A link whose setting goes from off to on while
it is OFF starts an enumeration with OPEN_CHAIN; one whose setting goes from on to off returns to its reset values;
any other link is left alone. The bindings of a started or stopped link go. A quiet delay starts on each RUNNING link
of a coach out of service where QUIET is enabled and none runs, and progress above the new coast cap ends coasting.
The next address and the outcome that a link shows before an enumeration gives them are the model's choice (log 49). -/
def Obligations.EnableQuietAndBerthActWhenTaken : Prop :=
  (∀ (b : Beat) (v : Word) (c : Instr) (s : State), (c = .linkEnable b v ∨ c = .linkDisable b v) →
      s.bus.resetAsserted = false →
      let a := s.passed b 1 v
      let on : LinkId → Bool := fun l => match l with | .a => v.getLsbD 0 | .b => v.getLsbD 1 | .p => v.getLsbD 2
      let starts : LinkId → Prop := fun l => a.items.linkEnable l = false ∧ on l = true ∧ (a.link l).state = .off
      let stops : LinkId → Prop := fun l => a.items.linkEnable l = true ∧ on l = false
      a.items.softReset = false → evenParity v = true →
      ∃ t, exec c s = .next t ∧
        t.items = { a.items with linkEnableA := on .a, linkEnableB := on .b, linkEnableP := on .p } ∧
        (∀ l, starts l → t.link l = { Link.reset with
          state := .enumerating, overflow := (a.link l).overflow
          transaction := some ⟨.openChain, 127, [0xFE00#16], a.items.replyWindow, a.timebase⟩ }) ∧
        (∀ l, stops l → t.link l = Link.reset) ∧
        (∀ l, ¬ starts l → ¬ stops l → t.link l = a.link l) ∧
        (∀ l (n : Fin 64), (starts l ∨ stops l) → t.isDirty (.unit l n) = true) ∧
        t.res.seats.length = a.res.seats.length ∧
        (∀ (n : Nat) (e : SeatEntry), a.res.seats[n]? = some e →
          ((∃ u, e.bound = some u ∧ (starts u.link ∨ stops u.link)) → t.res.seats[n]? = some { e with bound := none }) ∧
          ((∀ u, e.bound = some u → ¬ starts u.link ∧ ¬ stops u.link) → t.res.seats[n]? = some e)) ∧
        t.res.releaseList = a.res.releaseList ∧ t.res.fetchQueue = a.res.fetchQueue ∧
        t.res.unverified = a.res.unverified ∧ DirtyRises a t ∧
        ChangesOnly [.items, .res, .link .a, .link .b, .link .p, .dirty] a t) ∧
  (∀ (b : Beat) (v : Word) (s : State), s.bus.resetAsserted = false →
    let a := s.passed b 8 v
    let minutes := max 1 (min 120 (v.toNat / 256 % 256))
    a.items.softReset = false → evenParity v = true →
    ∃ t, exec (.quietWrite b v) s = .next t ∧
      t.items = { a.items with quietEnable := v.getLsbD 0, quietDelay := minutes } ∧
      (∀ l, t.link l =
        if (a.link l).state = .running ∧ a.route.consist.inService = false ∧ v.getLsbD 0 = true ∧
            (a.link l).quietDelay = none then
          { a.link l with quietDelay := some (a.timebase + BitVec.ofNat 32 (minutes * 60000)) }
        else a.link l) ∧
      ChangesOnly [.items, .link .a, .link .b, .link .p] a t) ∧
  (∀ (b : Beat) (v : Word) (s : State), s.bus.resetAsserted = false →
    let a := s.passed b 18 v
    let berth := max 20 (min 1000 (v.toNat % 65536))
    let above : Prop := ∃ r p n, a.route.active = some r ∧ a.tracker.approach = some p ∧ p.next = some n ∧
      (r.mark n - berth) * 1000 < a.filter.progress
    a.items.softReset = false → evenParity v = true →
    ∃ t, exec (.berthDistanceWrite b v) s = .next t ∧
      t.items = { a.items with berthDistance := berth } ∧
      (∀ cause, a.filter.mode = .coasting cause → above →
        t.filter = { a.filter with mode := .holding cause, coastStep := none } ∧
        t.notices = a.given (.coastStarted (.holding cause)) ∧
        t.isDirty (.status 2) = true ∧ ChangesOnly [.items, .filter, .notices, .dirty, .counts] a t) ∧
      (((∀ cause, a.filter.mode ≠ .coasting cause) ∨ ¬ above) → ChangesOnly [.items] a t))

/-- A read cycle of the configuration re-read takes its words of memory in ascending order, each as if written, and
the cycle after it waits; the fourth is the last. -/
def Obligations.RereadTakesItsWordsInOrder : Prop :=
  ∀ (s : State) (n : Nat), s.bus.resetAsserted = false → s.nextAccess = some (.config n) → n < 4 →
    exec .configRereadCycle s = .next
      ((((List.range (if n = 3 then 7 else 8)).map fun j => Fin.ofNat 32 (8 * n + j + 1)).foldl
        (fun (t : State) (w : Fin 32) => takeConfig w (s.tapWord w.val) t)
        { s with port := { s.port with
            inProgress := if n < 3 then some (.config (n + 1)) else none, starvation := 0
            configPlaced := s.port.configPlaced && s.port.inProgress.isSome } }))

/-! ## Requests -/

/-- Every request written while the request unit is BUSY is answered BUSY with its own tag and kind, and nothing else
changes. -/
def Obligations.BusyUnitAnswersBusy : Prop :=
  ∀ (w : Fin 7) (b : Beat) (v : Word) (s : State), s.bus.resetAsserted = false →
    let a := s.passed b (0x200 + w.val) v
    a.items.softReset = false → a.request.busy.isSome = true →
    exec (requestCommand w b v) s = .next { a with
      request := ⟨a.request.busy, ⟨v.extractLsb' 24 8, some (requestOf w), .busy, none⟩⟩
      status := { a.status with dirty := a.status.dirty ||| dirtyBit (.status 0) } }

/-- ACTIVATE_ROUTE with the unit IDLE: a bad selector, start argument or active image is a BAD_ARGUMENT; while a
switch is WAITING it is BUSY; otherwise it is accepted, with no result written, the window guarded and the image read
queued. While the unit is BUSY it is answered BUSY. -/
def Obligations.ActivationIsJudgedInOrder : Prop :=
  ∀ (b : Beat) (v : Word) (s : State), s.bus.resetAsserted = false →
    let a := s.passed b 0x200 v
    let tag := v.extractLsb' 24 8
    let said : ResultCode → State := fun code => { a with
      request := ⟨a.request.busy, ⟨tag, some .activateRoute, code, none⟩⟩
      status := { a.status with dirty := a.status.dirty ||| dirtyBit (.status 0) } }
    let bad : Prop := 2 ≤ v.toNat % 4 ∨ (64 ≤ v.toNat / 256 % 256 ∧ v.toNat / 256 % 256 < 255) ∨
      (∃ r, a.route.active = some r ∧ imageOf (v.toNat % 4) = some r.image)
    let waiting : Prop := ∃ i st g copy, a.route.pendingSwitch = .waiting i st g copy
    a.items.softReset = false →
    (a.request.busy.isSome = true → exec (.activateRoute b v) s = .next (said .busy)) ∧
    (a.request.busy = none → bad → exec (.activateRoute b v) s = .next (said .badArgument)) ∧
    (a.request.busy = none → ¬ bad → waiting → exec (.activateRoute b v) s = .next (said .busy)) ∧
    (a.request.busy = none → ¬ bad → a.route.pendingSwitch = .none →
      ∃ t image start, exec (.activateRoute b v) s = .next t ∧ imageOf (v.toNat % 4) = some image ∧
        start = (if v.toNat / 256 % 256 = 255 then .auto else .index (v.toNat / 256 % 256)) ∧
        t.route = { a.route with pendingSwitch := .reading image start tag } ∧
        t.request = ⟨some (.activateRoute, tag), a.request.result⟩ ∧
        guarded t image = true ∧ imageReading t.route = some image ∧
        t.isDirty (.status 1) = true ∧ DirtyRises a t ∧ ChangesOnly [.route, .request, .dirty] a t)

/-- CANCEL_ROUTE ends a waiting switch and is answered DONE; with none pending it is NOT_PENDING; while the unit is
BUSY it is BUSY. -/
def Obligations.CancelEndsAWaitingSwitch : Prop :=
  ∀ (b : Beat) (v : Word) (s : State), s.bus.resetAsserted = false →
    let a := s.passed b 0x202 v
    let said : ResultCode → RequestUnit := fun code =>
      ⟨a.request.busy, ⟨v.extractLsb' 24 8, some .cancelRoute, code, none⟩⟩
    a.items.softReset = false →
    ∃ t, exec (.cancelRoute b v) s = .next t ∧ t.isDirty (.status 0) = true ∧ DirtyRises a t ∧
      ChangesOnly [.route, .request, .dirty] a t ∧
      (a.request.busy.isSome = true → t.request = said .busy ∧ t.route = a.route) ∧
      (a.request.busy = none → (∃ i st g copy, a.route.pendingSwitch = .waiting i st g copy) →
        t.request = said .done ∧ t.route = { a.route with pendingSwitch := .none } ∧ t.isDirty (.status 1) = true ∧
        ∀ i, guarded t i = true → (a.route.active.map ActiveRoute.image = some i ∨ a.route.previewRead = some i)) ∧
      (a.request.busy = none → a.route.pendingSwitch = .none → t.request = said .notPending ∧ t.route = a.route)

/-- PREVIEW_ROUTE is refused for a bad selector or the active image and otherwise guards the window and begins the
read; at the end of the read the preview result is written from the copy, the progress and the lock, the unit is IDLE
and the request is answered. That one command ends the read from whatever cycle it stands at, with a starvation count of
0 after it, is the model's choice (log 9). -/
def Obligations.PreviewIsReadAndEvaluated : Prop :=
  (∀ (b : Beat) (v : Word) (s : State), s.bus.resetAsserted = false →
    let a := s.passed b 0x201 v
    let tag := v.extractLsb' 24 8
    a.items.softReset = false → a.request.busy = none →
    ((imageOf (v.toNat % 4) = none ∨ a.route.active.map ActiveRoute.image = imageOf (v.toNat % 4)) →
      ∃ t, exec (.previewRoute b v) s = .next t ∧ ChangesOnly [.request, .dirty] a t ∧
        t.request = ⟨none, ⟨tag, some .previewRoute, .badArgument, none⟩⟩) ∧
    (∀ image, imageOf (v.toNat % 4) = some image → a.route.active.map ActiveRoute.image ≠ some image →
      ∃ t, exec (.previewRoute b v) s = .next t ∧ ChangesOnly [.route, .request, .dirty] a t ∧
        t.route = { a.route with previewRead := some image } ∧ guarded t image = true ∧
        t.request = ⟨some (.previewRoute, tag), a.request.result⟩)) ∧
  (∀ (s : State) (image : ImageId) (tag : Byte) (n : Nat), s.bus.resetAsserted = false →
    (∀ i st g, s.route.pendingSwitch ≠ .reading i st g) → s.route.previewRead = some image →
    s.request.busy = some (.previewRoute, tag) → s.nextAccess = some (.image n) →
    let copy := s.copyOf image
    let marks := copy.marks (copy.servedList s.route.consist.portion)
    let p := s.filter.metres
    let locked := decide (s.filter.lock = .locked)
    ∃ t, exec .previewReadComplete s = .next t ∧ ChangesOnly [.port, .route, .request, .dirty] s t ∧
      t.port.inProgress = none ∧ t.port.starvation = 0 ∧ t.request.busy = none ∧
      t.route = { s.route with previewRead := none, preview := t.route.preview } ∧
      (∀ reason, copy.invalid s.route.consist.portion = some reason →
        t.request.result = ⟨tag, some .previewRoute, .invalidImage, some reason⟩ ∧
        t.route.preview = ⟨image, .invalid reason, locked, locked, none, none, 0⟩) ∧
      (copy.invalid s.route.consist.portion = none →
        t.request.result = ⟨tag, some .previewRoute, .done, none⟩ ∧
        t.route.preview.image = image ∧ t.route.preview.outcome = .valid ∧ t.route.preview.locked = locked ∧
        t.route.preview.validForPosition = locked ∧
        (∃ k, t.route.preview.nearest = some k ∧ k < marks.length ∧
          ∀ j, j < marks.length → distanceTo (marks.getD k 0) p ≤ distanceTo (marks.getD j 0) p ∧
            (j < k → distanceTo (marks.getD k 0) p < distanceTo (marks.getD j 0) p)) ∧
        (∃ k, k < marks.length ∧ (marks.getD k 0 ≤ p + s.items.berthDistance ∨ k = 0) ∧
          (∀ j, k < j → j < marks.length → p + s.items.berthDistance < marks.getD j 0) ∧
          t.route.preview.next = (if k + 1 < marks.length then some (k + 1) else none) ∧
          t.route.preview.distance = (if k + 1 < marks.length then marks.getD (k + 1) 0 - p else 0))))

/-- The end of an activation's image read returns the unit to IDLE: an invalid copy is answered INVALID_IMAGE; a valid
one is switched to at once where no route is active or the train stands, at the chosen stop and with ROUTE_ACTIVE, and
waits otherwise. What the switch does to the segments is stated beside it (the segments of a switch). That one command
ends the read from whatever cycle it stands at, with a starvation count of 0 after it, is the model's choice (log 9). -/
def Obligations.ActivationReadEndsInASwitchOrAWait : Prop :=
  ∀ (s : State) (image : ImageId) (start : Start) (tag : Byte) (n : Nat), s.bus.resetAsserted = false →
    s.route.pendingSwitch = .reading image start tag → s.nextAccess = some (.image n) →
    let copy := s.copyOf image
    let moving : Prop := ∃ r ap, s.route.active = some r ∧ s.tracker.approach = some ap ∧
      ap.state ≠ .standing ∧ ap.state ≠ .terminated
    ∃ t, exec .activationReadComplete s = .next t ∧ t.request.busy = none ∧ t.port.inProgress = none ∧
      t.port.starvation = 0 ∧ t.isDirty (.status 0) = true ∧ t.isDirty (.status 1) = true ∧
      ChangesOnly (.port :: Part.blocks) s t ∧
      (∀ reason, copy.invalid s.route.consist.portion = some reason →
        t.route = { s.route with pendingSwitch := .none } ∧
        t.request.result = ⟨tag, some .activateRoute, .invalidImage, some reason⟩ ∧
        ChangesOnly [.port, .route, .request, .dirty] s t) ∧
      (copy.invalid s.route.consist.portion = none → moving →
        t.route = { s.route with pendingSwitch := .waiting image start tag copy } ∧
        t.request.result = ⟨tag, some .activateRoute, .pending, none⟩ ∧
        ChangesOnly [.port, .route, .request, .dirty] s t) ∧
      (copy.invalid s.route.consist.portion = none → ¬ moving →
        SwitchMade image start copy s t ∧ t.request.result = ⟨tag, some .activateRoute, .done, none⟩ ∧
        ∃ u, ChangesOnly [.port, .request, .dirty] s u ∧ t.res = (switchRoute image start copy u).res)

/-- An entry into STANDING or TERMINATED ends the wait of a WAITING switch: an arrival, a passing of the last served
stop, or a consist of another portion whose list puts progress at or beyond the last stop. With the consist then held,
the switch is made if the pending copy passes the checks, with no result written, and is otherwise abandoned with
INVALID_IMAGE under the activation's tag, the old route staying ACTIVE. A consist change that is no such entry leaves
the switch WAITING. At a consist the old route is tagged again before the switch acts, so ROUTE_ACTIVE is the last notice
(the model's choice, log 55). -/
def Obligations.EntryIntoAStopEndsTheWait : Prop :=
  (∀ (release : Bool) (x : Pass) (r : ActiveRoute) (ap : Approach) (image : ImageId) (start : Start) (tag : Byte)
      (copy : RouteCopy),
    let s := x.state
    let n := ap.current + 1
    let p := s.filter.progress / 1000
    let final := decide (r.served.length ≤ n + 1)
    s.route.active = some r → s.tracker.approach = some ap → s.route.pendingSwitch = .waiting image start tag copy →
    ((ap.state = .arriving ∧ distanceTo (r.mark n) p ≤ s.items.berthDistance ∧
        (s.items.stillCount ≤ s.tracker.stillRun ∨ release = true)) ∨
      ((ap.state = .cruising ∨ ap.state = .approaching ∨ ap.state = .arriving) ∧
        r.mark n + s.items.berthDistance < p ∧ final = true)) →
    let t := (passRound release x).state
    (passRound release x).stopped = true ∧
    (∀ reason, copy.checkServed (copy.servedList s.route.consist.portion) = some reason →
      SwitchAbandoned tag reason s t ∧
      t.tracker.approach = some ⟨if final then .terminated else .standing, n⟩) ∧
    (copy.checkServed (copy.servedList s.route.consist.portion) = none →
      SwitchMade image start copy s t ∧ t.request = s.request)) ∧
  (∀ (b : Beat) (v : Word) (s : State) (r : ActiveRoute) (ap : Approach) (image : ImageId) (start : Start) (tag : Byte)
      (copy : RouteCopy), s.bus.resetAsserted = false →
    let a := s.passed b 0x213 v
    let g := a.route.staging
    let portion : Portion := if g.w1.toNat % 256 = 1 then .one else .two
    let k : Consist := ⟨g.w0.toNat % 256, portion, if g.w2.getLsbD 0 then .reversed else .forward, g.w2.getLsbD 1⟩
    let served := r.copy.servedList portion
    let entry : Prop := ap.state ≠ .terminated ∧ (ap.state = .standing → r.index ap.current ∉ served) ∧
      (r.copy.stop (served.getD (served.length - 1) 0)).mark ≤ a.filter.progress / 1000 + a.items.berthDistance
    let u : State := { a with route := { a.route with
      consist := k, mismatch := false, active := some ⟨r.image, r.copy, served⟩ } }
    a.items.softReset = false → v.toNat % 256 = 0x3C → (g.w1.toNat % 256 = 1 ∨ g.w1.toNat % 256 = 2) →
    portion ≠ a.route.consist.portion → a.route.active = some r → a.tracker.approach = some ap →
    r.copy.checkServed served = none → served ≠ r.served → a.route.pendingSwitch = .waiting image start tag copy →
    ∃ t, exec (.consistCommit b v) s = .next t ∧
      (¬ entry → t.route = u.route ∧ t.request = a.request) ∧
      (∀ reason, entry → copy.checkServed (copy.servedList portion) = some reason →
        SwitchAbandoned tag reason u t ∧ t.tracker.approach = some ⟨.terminated, served.length - 1⟩) ∧
      (entry → copy.checkServed (copy.servedList portion) = none →
        SwitchMade image start copy u t ∧ t.request = a.request))

/-- SEAT_CONFIRM: seats 0 and above 128 are a BAD_ARGUMENT; a seat with neither a NOW nor an UPCOMING segment is
NOTHING_TO_CONFIRM; otherwise the NOW segment, failing that the nearest UPCOMING one, is confirmed, DONE with the
release entry removed, or LATE with the released flag cleared. -/
def Obligations.ConfirmActsOnTheSegmentInForce : Prop :=
  ∀ (b : Beat) (v : Word) (s : State), s.bus.resetAsserted = false →
    let a := s.passed b 0x203 v
    let n := v.toNat % 256
    let said : ResultCode → RequestUnit := fun code =>
      ⟨none, ⟨v.extractLsb' 24 8, some .seatConfirm, code, none⟩⟩
    a.items.softReset = false → a.request.busy = none → a.res.seats.length = 128 →
    ((n = 0 ∨ 128 < n) → ∃ t, exec (.seatConfirm b v) s = .next t ∧ t.request = said .badArgument ∧
      ChangesOnly [.request, .dirty] a t) ∧
    (1 ≤ n → n ≤ 128 → confirmable a (a.seat n) = none →
      ∃ t, exec (.seatConfirm b v) s = .next t ∧ t.request = said .nothingToConfirm ∧
        ChangesOnly [.request, .dirty] a t) ∧
    (∀ g, 1 ≤ n → n ≤ 128 → confirmable a (a.seat n) = some g →
      ∃ t, exec (.seatConfirm b v) s = .next t ∧
        t.request = said (if g.released then .late else .done) ∧ t.isDirty (.status 0) = true ∧
        (t.seat n).segments = (a.seat n).segments.map (fun h =>
          if h.service = g.service ∧ h.fromIndex = g.fromIndex then { h with confirmed := true, released := false }
          else h) ∧
        (t.seat n).version = (a.seat n).version ∧ (t.seat n).bound = (a.seat n).bound ∧
        (t.seat n).prioritySeating = (a.seat n).prioritySeating ∧ (t.seat n).quietZone = (a.seat n).quietZone ∧
        (∀ m, 1 ≤ m → m ≠ n → t.seat m = a.seat m) ∧
        (g.released = true → t.isDirty (.status 9) = true) ∧
        t.res.releaseList = (if g.released then a.res.releaseList else a.res.releaseList.filter fun x => x.seat ≠ n) ∧
        t.res.fetchQueue = a.res.fetchQueue ∧ t.res.unverified = a.res.unverified ∧ DirtyRises a t ∧
        ChangesOnly [.request, .res, .link .a, .link .b, .link .p, .dirty] a t)

/-- CLEAR_SEATS empties every seat entry but for its binding, the release list and the unverified flag, keeps the
fetch queue, marks SEAT_SUMMARY dirty, and is answered DONE. -/
def Obligations.ClearSeatsKeepsOnlyTheBindings : Prop :=
  ∀ (b : Beat) (v : Word) (s : State), s.bus.resetAsserted = false →
    let a := s.passed b 0x204 v
    a.items.softReset = false → a.request.busy = none →
    ∃ t, exec (.clearSeats b v) s = .next t ∧
      t.request = ⟨none, ⟨v.extractLsb' 24 8, some .clearSeats, .done, none⟩⟩ ∧ t.isDirty (.status 0) = true ∧
      t.res = ⟨a.res.fetchQueue,
        a.res.seats.map fun e =>
          ⟨none, false, false, [], ⟨.free, none, none, none, ⟨false, false, false, false⟩⟩, e.bound⟩,
        [], false⟩ ∧
      t.isDirty (.status 9) = true ∧ DirtyRises a t ∧
      ChangesOnly [.request, .res, .link .a, .link .b, .link .p, .dirty] a t

/-- REENUMERATE: no link is a BAD_ARGUMENT and OFF is LINK_OFF; any other link is answered DONE, and enumerates afresh
at once, or when the transaction in flight has ended. REFRESH is refused alike. That a rest, a rousing, a quiet delay
and the UNASSIGNED frames due end at once, with a frame still in flight, is the model's reading (log 27). Until the
enumeration ends, its outcome stands at not BROKEN (the model's choice, log 49). -/
def Obligations.ReenumerateStartsAfreshOrWaits : Prop :=
  (∀ (b : Beat) (v : Word) (s : State), s.bus.resetAsserted = false →
    let a := s.passed b 0x205 v
    let said : ResultCode → RequestUnit := fun code =>
      ⟨none, ⟨v.extractLsb' 24 8, some .reenumerate, code, none⟩⟩
    a.items.softReset = false → a.request.busy = none →
    ∃ t, exec (.reenumerate b v) s = .next t ∧
      (linkOf (v.toNat % 4) = none → t.request = said .badArgument ∧ ChangesOnly [.request, .dirty] a t) ∧
      (∀ l, linkOf (v.toNat % 4) = some l →
        ((a.link l).state = .off → t.request = said .linkOff ∧ ChangesOnly [.request, .dirty] a t) ∧
        ((a.link l).state ≠ .off → t.request = said .done ∧
          ChangesOnly [.request, .res, .link l, .dirty] a t ∧
          ((a.link l).transaction = none →
            t.link l = { Link.reset with
              state := .enumerating, overflow := (a.link l).overflow
              transaction := some ⟨.openChain, 127, [0xFE00#16], a.items.replyWindow, a.timebase⟩ } ∧
            t.res = { a.res with
              seats := a.res.seats.map (fun e =>
                if e.bound.any (fun x => x.link == l) then { e with bound := none } else e) }) ∧
          (∀ x, (a.link l).transaction = some x →
            t.link l = { a.link l with
              state := .enumerating, reenumerate := true, quietDelay := none, restDue := false, rouseDue := false
              wakeExpiry := none, wakePosition := none, unassignedDue := [] } ∧ t.res = a.res)))) ∧
  (∀ (b : Beat) (v : Word) (s : State), s.bus.resetAsserted = false →
    let a := s.passed b 0x206 v
    a.items.softReset = false → a.request.busy = none →
    ∃ t, exec (.refresh b v) s = .next t ∧
      (linkOf (v.toNat % 4) = none →
        t.request = ⟨none, ⟨v.extractLsb' 24 8, some .refresh, .badArgument, none⟩⟩ ∧
        ChangesOnly [.request, .dirty] a t) ∧
      (∀ l, linkOf (v.toNat % 4) = some l → (a.link l).state = .off →
        t.request = ⟨none, ⟨v.extractLsb' 24 8, some .refresh, .linkOff, none⟩⟩ ∧
        ChangesOnly [.request, .dirty] a t))

/-- REFRESH of a link that is not OFF is answered DONE and owes every unit the content of every kind it takes: each is
still owed, or an item for it is queued; and LEVEL with them. -/
def Obligations.RefreshOwesEveryKind : Prop :=
  ∀ (b : Beat) (v : Word) (s : State) (l : LinkId), s.bus.resetAsserted = false →
    let a := s.passed b 0x206 v
    a.items.softReset = false → a.request.busy = none → linkOf (v.toNat % 4) = some l → (a.link l).state ≠ .off →
    ∃ t, exec (.refresh b v) s = .next t ∧
      t.request = ⟨none, ⟨v.extractLsb' 24 8, some .refresh, .done, none⟩⟩ ∧
      (t.link l).units.map UnitEntry.address = (a.link l).units.map UnitEntry.address ∧
      (∀ u ∈ (t.link l).units, ∀ kind ∈ u.kinds, u.owed kind = true ∨
        ∃ q ∈ (t.link l).queue, q.address = u.address ∧ ∃ c, q.body = .content c ∧ c.kind = kind) ∧
      ((t.link l).levelOwed = true ∨ ∃ q ∈ (t.link l).queue, ∃ code, q.body = .level code) ∧
      ((a.link l).state = .enumerating → (t.link l).queue = (a.link l).queue) ∧
      (t.link l).transaction = (a.link l).transaction ∧ (t.link l).state = (a.link l).state ∧
      DirtyRises a t ∧ ChangesOnly [.request, .link l, .dirty] a t

/-! ## Segments and seats -/

/-- A segment is tagged by its service and its stops, LIVE where both are served; a LIVE segment is UPCOMING, NOW or
ENDED by its place against the current stop. The status of a seat follows the first of: its NOW segment, RELEASED or
RESERVED_NOW; its first MISROUTED segment; its nearest UPCOMING segment; none, and FREE. It carries the stop, category
and marks of that segment, and a confirm applies to the NOW segment, failing that to the nearest UPCOMING one. -/
def Obligations.StatusFollowsTheDecidingSegment : Prop :=
  (∀ service fromIndex toIndex, tagFor none service fromIndex toIndex = .dormant) ∧
  (∀ (r : ActiveRoute) (service fromIndex toIndex : Nat),
    tagFor (some r) service fromIndex toIndex = r.tags service fromIndex toIndex) ∧
  (∀ (served : List Nat) (c : Nat) (g : Segment),
    (segmentPhase served c g = some .now ↔ g.isNow served c) ∧
    (segmentPhase served c g = some .upcoming ↔ ∃ fp, g.isUpcoming served c fp) ∧
    (segmentPhase served c g = some .ended ↔ g.hasEnded served c)) ∧
  (∀ (s : State) (e : SeatEntry), (s.route.active = none ∨ s.tracker.approach = none) →
    resolve s e = ⟨.free, none, none, none, ⟨s.res.unverified, e.prioritySeating, e.quietZone, false⟩⟩ ∧
    confirmable s e = none) ∧
  (∀ (s : State) (e : SeatEntry) (r : ActiveRoute) (ap : Approach), s.route.active = some r →
    s.tracker.approach = some ap →
    let c := ap.current
    let now : Segment → Prop := fun g => g.isNow r.served c
    let marks : Bool → Marks := fun staff => ⟨s.res.unverified, e.prioritySeating, e.quietZone, staff⟩
    let code : Nat → Option (List Byte) := fun i => r.copy.stops[i]?.map Stop.shortCode
    let shown : SeatStatus → Nat → Segment → Resolved := fun status i g =>
      ⟨status, some i, code i, some g.category, marks (decide (g.category = .staff))⟩
    (∀ g, FirstOf now e.segments g →
      nowSegment r.served c e.segments = some g ∧ confirmable s e = some g ∧
      (g.released = true → resolve s e = ⟨.released, none, none, none, marks (decide (g.category = .staff))⟩) ∧
      (g.released = false → resolve s e = shown .reservedNow g.toIndex g)) ∧
    (∀ g, (∀ h ∈ e.segments, ¬ now h) → FirstOf (fun h => h.tag = .misrouted) e.segments g →
      let i := if g.fromIndex ∈ r.served then g.toIndex else g.fromIndex
      resolve s e = { shown .misrouted i g with category := none }) ∧
    (∀ g, (∀ h ∈ e.segments, ¬ now h) → NearestUpcoming r.served c e.segments g →
      confirmable s e = some g ∧
      ((∀ h ∈ e.segments, h.tag ≠ .misrouted) → resolve s e = shown .reservedFrom g.fromIndex g)) ∧
    ((∀ h ∈ e.segments, ¬ now h ∧ ∀ fp, ¬ h.isUpcoming r.served c fp) →
      confirmable s e = none ∧
      ((∀ h ∈ e.segments, h.tag ≠ .misrouted) → resolve s e = ⟨.free, none, none, none, marks false⟩)))

/-- The segments of a switch, and of a consist of another portion whose list is taken up or is the one in force. A
switch to another service removes the segments of the old one, and tags those of the new one again; a consist tags
every segment again that is not DORMANT. The flags of a segment stand only while it stays LIVE, SEAT_MISROUTED is
given for each that takes MISROUTED, in seat and segment order, and ROUTE_ACTIVE after them at a switch. Every status
is then resolved, and the release entries that stay are those whose segment is NOW. A COAST_STARTED of the cap read
again may go before the notices (at a consist the model's choices, logs 23 and 56). -/
def Obligations.SegmentsAreTaggedAgain : Prop :=
  let settled : ActiveRoute → State → State → Prop := fun r s t =>
    (t.res.seats.map fun e => { e with segments := [], resolved := Resolved.free }) =
      (s.res.seats.map fun e => { e with segments := [], resolved := Resolved.free }) ∧
    (∀ e ∈ t.res.seats, e.resolved = resolve t e) ∧
    t.res.fetchQueue = s.res.fetchQueue ∧ t.res.unverified = s.res.unverified ∧
    ∀ ap, t.tracker.approach = some ap → ∀ x, x ∈ t.res.releaseList ↔ x ∈ s.res.releaseList ∧
      ∃ g, FirstOf (fun g => g.service = x.service ∧ g.fromIndex = x.fromIndex) (t.seat x.seat).segments g ∧
        g.isNow r.served ap.current
  let capRead : List Notice → Prop := fun first => first = [] ∨ ∃ m, first = [.coastStarted m]
  (∀ (image : ImageId) (start : Start) (copy : RouteCopy) (s : State),
    let old := s.route.active.map fun r => r.copy.service
    let r : ActiveRoute := ⟨image, copy, copy.servedList s.route.consist.portion⟩
    let examined : Segment → Bool := fun g => g.service == copy.service
    let t := switchRoute image start copy s
    settled r s t ∧
    t.res.seats.map SeatEntry.segments = s.res.seats.map (fun e =>
      (e.segments.filter fun g => decide (g.service = copy.service ∨ old ≠ some g.service)).map fun g =>
        if examined g then g.taggedAgain r else g) ∧
    ∃ first c, capRead first ∧ t.notices = s.givenAll (first ++ misroutings r examined s.res.seats ++
      [.routeActive (copy.stop (r.served.getD c 0)).code copy.service image]) ∧
      t.tracker.approach.map Approach.current = some c) ∧
  (∀ (portion : Portion) (r : ActiveRoute) (s : State), s.route.active = some r → s.tracker.approach.isSome = true →
    r.copy.checkServed (r.copy.servedList portion) = none →
    (∀ image start tag copy, s.route.pendingSwitch ≠ .waiting image start tag copy) →
    let new : ActiveRoute := ⟨r.image, r.copy, r.copy.servedList portion⟩
    let examined : Segment → Bool := fun g => decide (g.tag ≠ .dormant)
    let t := changePortion r portion s
    settled new s t ∧
    t.res.seats.map SeatEntry.segments = s.res.seats.map (fun e =>
      e.segments.map fun g => if examined g then g.taggedAgain new else g) ∧
    ∃ first, capRead first ∧ t.notices = s.givenAll (first ++ misroutings new examined s.res.seats))

/-! ## Reports and the approach -/

/-- A full-word write to a field word of the mailbox or of the consist replaces that staged word and nothing else. A
configuration word with an odd count of ones is not taken and CONFIG_PARITY counts. A commit with a wrong marker is not
taken: in the mailbox and the consist MAILBOX_BAD counts, as it does for a portion that is neither 1 nor 2, and in a
journal slot nothing counts. Nothing else changes. -/
def Obligations.FieldWordsAreStagedAndBadWordsAreNotTaken : Prop :=
  (∀ (b : Beat) (w : Fin 5) (v : Word) (s : State), s.bus.resetAsserted = false →
    let a := s.passed b (0x208 + w.val) v
    let g := a.filter.staging
    a.items.softReset = false →
    exec (.reportFieldWrite b w v) s = .next { a with filter := { a.filter with
      staging := ⟨if w = 0 then v else g.w0, if w = 1 then v else g.w1, if w = 2 then v else g.w2,
        if w = 3 then v else g.w3, if w = 4 then v else g.w4⟩ } }) ∧
  (∀ (b : Beat) (w : Fin 3) (v : Word) (s : State), s.bus.resetAsserted = false →
    let a := s.passed b (0x210 + w.val) v
    let g := a.route.staging
    a.items.softReset = false →
    exec (.consistFieldWrite b w v) s = .next { a with route := { a.route with
      staging := ⟨if w = 0 then v else g.w0, if w = 1 then v else g.w1, if w = 2 then v else g.w2⟩ } }) ∧
  (∀ (b : Beat) (w : Fin 32) (v : Word) (s : State), s.bus.resetAsserted = false →
    let a := s.passed b w.val v
    a.items.softReset = false → evenParity v = false →
    exec (.configurationWordWrite b w v) s = .next (bump .configParity a) ∧
    (w = 1 → exec (.linkEnable b v) s = .next (bump .configParity a) ∧
      exec (.linkDisable b v) s = .next (bump .configParity a)) ∧
    (w = 8 → exec (.quietWrite b v) s = .next (bump .configParity a)) ∧
    (w = 18 → exec (.berthDistanceWrite b v) s = .next (bump .configParity a))) ∧
  (∀ (b : Beat) (v : Word) (s : State), s.bus.resetAsserted = false →
    let a := s.passed b 0x20D v
    a.items.softReset = false → v.toNat % 256 ≠ 0xA7 →
    exec (.positionReportCommit b v) s = .next (bump .mailboxBad a)) ∧
  (∀ (b : Beat) (v : Word) (s : State), s.bus.resetAsserted = false →
    let a := s.passed b 0x213 v
    let portion := a.route.staging.w1.toNat % 256
    a.items.softReset = false → (v.toNat % 256 ≠ 0x3C ∨ (portion ≠ 1 ∧ portion ≠ 2)) →
    exec (.consistCommit b v) s = .next (bump .mailboxBad a)) ∧
  (∀ (b : Beat) (slot : Fin 512) (v : Word) (s : State), s.bus.resetAsserted = false →
    let a := s.passed b (0x4007 + 8 * slot.val) v
    a.items.softReset = false → v.toNat % 256 ≠ 0xC5 →
    exec (.journalCommit b slot v) s = .next a)

/-- A report with the time of the previous one is discarded and counted; any other is taken: it replaces the previous
report, the last figures and the freshness deadline, moves the deglitchers and the still run count, and, where it is a
restart or a reference, the lock counts as those are. -/
def Obligations.ReportIsTakenUnlessDuplicate : Prop :=
  ∀ (b : Beat) (v : Word) (s : State), s.bus.resetAsserted = false →
    let a := s.passed b 0x20D v
    let g := a.filter.staging
    let distance := g.w0.toNat % 2 ^ 24
    let speed := min (g.w1.toNat % 65536) 15000
    let day := min (g.w4.toNat % 2 ^ 18) 172799
    a.items.softReset = false → v.toNat % 256 = 0xA7 → a.status.counts.length = 20 →
    ((∃ o, a.filter.previous = some o ∧ g.w3 = o.time) →
      exec (.positionReportCommit b v) s = .next (bump .reportDuplicate a)) ∧
    ((∀ o, a.filter.previous = some o → g.w3 ≠ o.time) →
      ∃ t, exec (.positionReportCommit b v) s = .next t ∧ ChangesOnly Part.blocks a t ∧ DirtyRises a t ∧
        t.filter.staging = g ∧ t.filter.previous = some ⟨distance, speed, g.w3⟩ ∧
        t.filter.lastSpeed = speed ∧ t.filter.lastDaySeconds = day ∧
        t.filter.sourcePresent = true ∧
        t.filter.freshness = some (a.timebase + BitVec.ofNat 32 (a.items.reportPeriod * a.items.freshnessCount)) ∧
        t.filter.door = a.filter.door.offer a.items.doorCount (doorOf (g.w2.toNat / 2 % 4)) ∧
        t.filter.ambient = a.filter.ambient.offer a.items.ambientCount (ambientOf (g.w2.toNat / 8 % 4)) ∧
        t.tracker.stillRun = (if speed ≤ a.items.stopSpeed then min 15 (a.tracker.stillRun + 1) else 0) ∧
        (∀ o, a.filter.previous = some o → a.items.maxGap < (g.w3 - o.time).toNat →
          t.filter.consistentRun = 0 ∧ t.filter.inconsistentRun = min 31 (a.filter.inconsistentRun + 1) ∧
          t.filter.lock = (match a.filter.lock with
            | .unlocked => if a.items.lockCount = 0 then .locked else .unlocked
            | .locked => if a.items.unlockCount ≤ t.filter.inconsistentRun then .unlocked else .locked) ∧
          t.count .reportRestart = oneMore (a.count .reportRestart) ∧
          t.count .reportInconsistent = a.count .reportInconsistent) ∧
        ((a.filter.previous = none ∨ ∃ o, a.filter.previous = some o ∧
            (g.w3 - o.time).toNat ≤ a.items.maxGap ∧ a.filter.referencePending = true) →
          t.filter.consistentRun = a.filter.consistentRun ∧ t.filter.inconsistentRun = a.filter.inconsistentRun ∧
          t.filter.lock = a.filter.lock ∧ t.count .reportRestart = a.count .reportRestart ∧
          t.count .reportInconsistent = a.count .reportInconsistent))

/-- A judged report is consistent when its distance lies within the tolerance of the distance predicted from the
previous report at the mean of the two speeds and its direction is FORWARD: the lock counts move accordingly, and in
every other case REPORT_INCONSISTENT counts. -/
def Obligations.JudgedReportIsTestedAgainstThePrediction : Prop :=
  ∀ (b : Beat) (v : Word) (s : State) (o : PreviousReport), s.bus.resetAsserted = false →
    let a := s.passed b 0x20D v
    let g := a.filter.staging
    let elapsed := (g.w3 - o.time).toNat
    let d : Int := (g.w0.toNat % 2 ^ 24 : Nat)
    let speed := min (g.w1.toNat % 65536) 15000
    let advance := (o.speed + speed) * elapsed / 200
    let predicted : Int := o.distance * 1000 + advance
    let residual := (d * 1000 - predicted).natAbs
    let tolerance := a.items.toleranceBase * 1000 + advance / 16
    a.items.softReset = false → v.toNat % 256 = 0xA7 → a.status.counts.length = 20 →
    a.filter.previous = some o → elapsed ≠ 0 → elapsed ≤ a.items.maxGap → a.filter.referencePending = false →
    ∃ t, exec (.positionReportCommit b v) s = .next t ∧ ChangesOnly Part.blocks a t ∧
      t.count .reportRestart = a.count .reportRestart ∧
      (residual ≤ tolerance ∧ g.w2.toNat % 2 = 0 →
        t.filter.consistentRun = min 31 (a.filter.consistentRun + 1) ∧ t.filter.inconsistentRun = 0 ∧
        t.count .reportInconsistent = a.count .reportInconsistent ∧
        t.filter.smoothed = (if a.filter.smoothed ≤ speed
          then a.filter.smoothed + (speed - a.filter.smoothed + 3) / 4
          else a.filter.smoothed - (a.filter.smoothed - speed + 3) / 4)) ∧
      (¬ (residual ≤ tolerance ∧ g.w2.toNat % 2 = 0) →
        t.filter.consistentRun = 0 ∧ t.filter.inconsistentRun = min 31 (a.filter.inconsistentRun + 1) ∧
        t.count .reportInconsistent = oneMore (a.count .reportInconsistent)) ∧
      t.filter.lock = (match a.filter.lock with
        | .unlocked => if a.items.lockCount ≤ t.filter.consistentRun then .locked else .unlocked
        | .locked => if a.items.unlockCount ≤ t.filter.inconsistentRun then .unlocked else .locked) ∧
      (o.speed ≤ 15000 → a.items.maxGap ≤ 60000 → advance ≤ 9000000)

/-- The repeated pass of a report evaluation reaches its end within the rounds it is given, on a route of at most 64
served stops. -/
def Obligations.ReportPassReachesItsEnd : Prop :=
  ∀ (release : Bool) (s : State), (∀ r, s.route.active = some r → r.served.length ≤ 64) →
    (runPass release passRounds ⟨s, false, false, false⟩).stopped = true

/-- In one round of the pass, with no switch waiting: progress beyond the berth of the next stop passes it; an
ARRIVING train within the berth that stands still or has released its doors arrives there; a STANDING train whose
departure condition is met departs, c unchanged. -/
def Obligations.RoundPassesArrivesOrDeparts : Prop :=
  ∀ (release : Bool) (x : Pass) (r : ActiveRoute) (ap : Approach),
    let s := x.state
    let n := ap.current + 1
    let p := s.filter.progress / 1000
    let final := decide (r.served.length ≤ n + 1)
    s.route.active = some r → s.tracker.approach = some ap →
    (∀ i st g copy, s.route.pendingSwitch ≠ .waiting i st g copy) →
    (ap.state = .cruising ∨ ap.state = .approaching ∨ ap.state = .arriving →
      r.mark n + s.items.berthDistance < p →
      (passRound release x).state.tracker.approach = some ⟨if final then .terminated else .cruising, n⟩ ∧
      (passRound release x).arrived = x.arrived ∧ (passRound release x).stopped = final ∧
      ChangesOnly [.filter, .tracker, .res, .link .a, .link .b, .link .p, .notices, .dirty, .counts] s
        (passRound release x).state) ∧
    (ap.state = .arriving → distanceTo (r.mark n) p ≤ s.items.berthDistance →
      (s.items.stillCount ≤ s.tracker.stillRun ∨ release = true) →
      (passRound release x).state.tracker.approach = some ⟨if final then .terminated else .standing, n⟩ ∧
      (passRound release x).state.tracker.rawDelay = standingDelay s (r.stop n) ∧
      (passRound release x).state.tracker.arrivedMarks = s.tracker.arrivedMarks ||| (1#64 <<< r.index n) ∧
      (passRound release x).arrived = true ∧ (passRound release x).stopped = true ∧
      ChangesOnly [.filter, .tracker, .res, .link .a, .link .b, .link .p, .notices, .dirty, .counts] s
        (passRound release x).state) ∧
    (ap.state = .standing →
      ((s.filter.door.taken = .closed ∧ s.items.departSpeed < s.filter.lastSpeed) ∨
        r.mark ap.current + s.items.berthDistance < p) →
      (passRound release x).state.tracker.approach = some ⟨
        if r.mark n ≤ p + max s.items.approachDistance (s.items.berthDistance + 1) then .approaching else .cruising,
        ap.current⟩ ∧
      (passRound release x).stopped = x.stopped ∧
      ChangesOnly [.tracker, .res, .link .p, .notices, .dirty, .counts] s (passRound release x).state)

/-- In one round of the pass: a CRUISING train that meets the approach test is APPROACHING, with NEXT_STOP, and
DIVIDE_AHEAD after it where the stop divides, unless the stop's mark is set; an APPROACHING train within the berth is
ARRIVING, with ARRIVING unless its mark is set; a notice given sets its mark; and where no test is met the pass stops
and changes nothing. After the pass a door release that brought no arrival gives DOORS_AWAY toward the next stop, and
nothing else does. The estimated flag of the notices is the one held by the tracker (the model's reading, log 20). -/
def Obligations.RoundApproachesAndNearsTheNextStop : Prop :=
  (∀ (release : Bool) (x : Pass) (r : ActiveRoute) (ap : Approach),
    let s := x.state
    let n := ap.current + 1
    let st := r.stop n
    let p := s.filter.progress / 1000
    let togo := st.mark - p
    let effective := max s.filter.smoothed s.items.speedFloor
    let eta := min 65535 ((togo * 100 + effective - 1) / effective)
    let beyond : Prop := r.mark n + s.items.berthDistance < p
    let near : Prop := r.mark n ≤ p + max s.items.approachDistance (s.items.berthDistance + 1)
    let inside : Prop := distanceTo (r.mark n) p ≤ s.items.berthDistance
    let y := passRound release x
    s.route.active = some r → s.tracker.approach = some ap →
    (ap.state = .cruising → ¬ beyond → near →
      y.arrived = x.arrived ∧ y.standing = x.standing ∧ y.stopped = x.stopped ∧
      ChangesOnly [.tracker, .link .p, .notices, .dirty, .counts] s y.state ∧
      (s.tracker.nextStopMarks.getLsbD (r.index n) = true →
        y.state.tracker = { s.tracker with approach := some ⟨.approaching, ap.current⟩ } ∧
        y.state.notices = s.notices) ∧
      (s.tracker.nextStopMarks.getLsbD (r.index n) = false →
        y.state.tracker = { s.tracker with
          approach := some ⟨.approaching, ap.current⟩
          nextStopMarks := s.tracker.nextStopMarks ||| (1#64 <<< r.index n) } ∧
        y.state.notices = s.givenAll
          (.nextStop st.code eta (doorSide s.route.consist.orientation st.side) s.tracker.heldEstimated ::
            if st.divide then [.divideAhead st.code (r.stop (r.served.length - 1)).code] else []))) ∧
    (ap.state = .approaching → ¬ beyond → inside →
      y.arrived = x.arrived ∧ y.standing = x.standing ∧ y.stopped = x.stopped ∧
      ChangesOnly [.tracker, .link .p, .notices, .dirty, .counts] s y.state ∧
      (s.tracker.arrivingMarks.getLsbD (r.index n) = true →
        y.state.tracker = { s.tracker with approach := some ⟨.arriving, ap.current⟩ } ∧
        y.state.notices = s.notices) ∧
      (s.tracker.arrivingMarks.getLsbD (r.index n) = false →
        y.state.tracker = { s.tracker with
          approach := some ⟨.arriving, ap.current⟩
          arrivingMarks := s.tracker.arrivingMarks ||| (1#64 <<< r.index n) } ∧
        y.state.notices = s.given (.arriving st.code s.tracker.heldEstimated))) ∧
    ((ap.state = .cruising ∧ ¬ beyond ∧ ¬ near) ∨ (ap.state = .approaching ∧ ¬ beyond ∧ ¬ inside) ∨
        (ap.state = .arriving ∧ ¬ beyond ∧
          ¬ (inside ∧ (s.items.stillCount ≤ s.tracker.stillRun ∨ release = true))) ∨
        (ap.state = .standing ∧ ¬ (s.filter.door.taken = .closed ∧ s.items.departSpeed < s.filter.lastSpeed) ∧
          ¬ (r.mark ap.current + s.items.berthDistance < p)) ∨ ap.state = .terminated →
      y = { x with stopped := true }) ∧
    (release = true → x.arrived = false → ap.state ≠ .standing → ap.state ≠ .terminated →
      (doorsAway release x).notices = s.given (.doorsAway st.code s.filter.door.taken togo) ∧
      ChangesOnly [.notices, .dirty, .counts] s (doorsAway release x)) ∧
    (release = false ∨ x.arrived = true ∨ ap.state = .standing ∨ ap.state = .terminated → doorsAway release x = s)) ∧
  (∀ o : Orientation, doorSide o .none = .none ∧ doorSide o .both = .both ∧
    doorSide o .left = (if o = .forward then .sideA else .sideB) ∧
    doorSide o .right = (if o = .forward then .sideB else .sideA))

/-- The arrival arithmetic toward the next stop: the distance to go, the ETA at no less than the floor speed, the
predicted minute rounded to the nearest, the raw delay within its range, and the displayed delay with its hysteresis. -/
def Obligations.ArithmeticTowardTheNextStop : Prop :=
  ∀ (s : State) (r : ActiveRoute) (ap : Approach) (standing : Bool),
    let st := r.stop (ap.current + 1)
    let togo := st.mark - s.filter.progress / 1000
    let effective := max s.filter.smoothed s.items.speedFloor
    let eta := min 65535 ((togo * 100 + effective - 1) / effective)
    let minute := min 2879 ((s.filter.lastDaySeconds + eta + 30) / 60)
    s.route.active = some r → s.tracker.approach = some ap → 0 < s.items.speedFloor → 2 ≤ s.items.delayShow →
    (ap.state = .cruising ∨ ap.state = .approaching ∨ ap.state = .arriving) →
    let t := arithmetic standing s
    ChangesOnly [.tracker, .link .p, .notices, .dirty, .counts] s t ∧ t.tracker.approach = some ap ∧
    t.tracker.distanceToGo = togo ∧ t.tracker.eta = eta ∧
    (2879 < st.scheduled → t.tracker.rawDelay = none ∧ t.tracker.delay = s.tracker.delay) ∧
    (st.scheduled ≤ 2879 → ∃ d : Int, t.tracker.rawDelay = some d ∧
      d = max (-99) (min 999 ((minute : Int) - st.scheduled)) ∧
      (s.tracker.delay = 0 → (t.tracker.delay : Int) = if (s.items.delayShow : Int) ≤ d then d else 0) ∧
      (0 < s.tracker.delay → d ≤ (s.items.delayShow : Int) - 2 → t.tracker.delay = 0) ∧
      (0 < s.tracker.delay → (s.items.delayShow : Int) - 2 < d → (t.tracker.delay : Int) = max d 0) ∧
      (t.tracker.delay ≠ s.tracker.delay →
        t.notices = s.given (.delayChanged st.code t.tracker.delay d) ∧ t.isDirty (.status 5) = true))

/-! ## The consist -/

/-- A committed consist becomes the held one and reaches the links. On an active route a new portion is refused where
its list fails the checks, changes nothing where its list is the one in force, and otherwise replaces the list, with c
and the approach state derived from progress. -/
def Obligations.ConsistIsTakenAndReservesTheRoute : Prop :=
  ∀ (b : Beat) (v : Word) (s : State), s.bus.resetAsserted = false →
    let a := s.passed b 0x213 v
    let g := a.route.staging
    let portion : Portion := if g.w1.toNat % 256 = 1 then .one else .two
    let k : Consist := ⟨g.w0.toNat % 256, portion, if g.w2.getLsbD 0 then .reversed else .forward, g.w2.getLsbD 1⟩
    a.items.softReset = false → v.toNat % 256 = 0x3C → (g.w1.toNat % 256 = 1 ∨ g.w1.toNat % 256 = 2) →
    ∃ t, exec (.consistCommit b v) s = .next t ∧ ChangesOnly Part.blocks a t ∧ DirtyRises a t ∧
      t.route.consist = k ∧ t.route.staging = g ∧ t.route.preview = a.route.preview ∧
      t.route.previewRead = a.route.previewRead ∧ t.isDirty (.status 8) = true ∧
      (k.inService = true → ∀ l, (t.link l).quietDelay = none ∧
        ((a.link l).state = .resting → (t.link l).rouseDue = true)) ∧
      (k.inService = false → ∀ l, (t.link l).quietDelay =
        if (a.link l).state = .running ∧ a.items.quietEnable = true ∧ (a.link l).quietDelay = none then
          some (a.timebase + BitVec.ofNat 32 (a.items.quietDelay * 60000))
        else (a.link l).quietDelay) ∧
      ((a.route.active = none ∨ portion = a.route.consist.portion) →
        t.route = { a.route with consist := k } ∧ t.tracker = a.tracker ∧ t.filter = a.filter ∧ t.res = a.res) ∧
      (∀ r, a.route.active = some r → portion ≠ a.route.consist.portion →
        let served := r.copy.servedList portion
        (∀ reason, r.copy.checkServed served = some reason →
          t.route = { a.route with consist := k, mismatch := true } ∧ t.tracker = a.tracker ∧
          t.filter = a.filter ∧ t.res = a.res ∧ t.notices = a.given (.consistMismatch portion reason)) ∧
        (r.copy.checkServed served = none → served = r.served →
          t.route = { a.route with consist := k, mismatch := false } ∧ t.tracker = a.tracker ∧
          t.filter = a.filter) ∧
        (∀ ap, r.copy.checkServed served = none → served ≠ r.served → a.tracker.approach = some ap →
          (∀ i st gg copy, a.route.pendingSwitch ≠ .waiting i st gg copy) →
          t.route = { a.route with
            consist := k, mismatch := false, active := some ⟨r.image, r.copy, served⟩ } ∧
          t.filter.progress = a.filter.progress ∧ t.tracker.nextStopMarks = a.tracker.nextStopMarks ∧
          t.tracker.arrivingMarks = a.tracker.arrivingMarks ∧ t.tracker.arrivedMarks = a.tracker.arrivedMarks ∧
          (ap.state = .terminated → t.tracker.approach = some ⟨.terminated, served.length - 1⟩) ∧
          (∀ c, ap.state = .standing → served[c]? = some (r.index ap.current) →
            served.idxOf? (r.index ap.current) = some c →
            t.tracker.approach = some ⟨.standing, c⟩) ∧
          (ap.state ≠ .terminated → (ap.state = .standing → r.index ap.current ∉ served) →
            ∃ c, t.tracker.approach = some ⟨if c + 1 = served.length then .terminated else .cruising, c⟩ ∧
              c < served.length ∧
              ((r.copy.stop (served.getD c 0)).mark ≤ a.filter.progress / 1000 + a.items.berthDistance ∨ c = 0) ∧
              ∀ j, c < j → j < served.length →
                a.filter.progress / 1000 + a.items.berthDistance < (r.copy.stop (served.getD j 0)).mark)))

/-! ## The journal and the ring's reader -/

/-- A journal commit joins the fetch queue while it holds fewer than 16 entries; at 16 it is lost: JOURNAL_OVERRUN
counts, the unverified flag is set and JOURNAL_LOSS is given. -/
def Obligations.CommitJoinsTheQueueOrIsLost : Prop :=
  ∀ (b : Beat) (slot : Fin 512) (v : Word) (s : State), s.bus.resetAsserted = false →
    let a := s.passed b (0x4007 + 8 * slot.val) v
    let seat := v.toNat / 256 % 256
    a.items.softReset = false → v.toNat % 256 = 0xC5 → a.status.counts.length = 20 →
    (a.res.fetchQueue.length < 16 → exec (.journalCommit b slot v) s = .next { a with res := { a.res with
      fetchQueue := a.res.fetchQueue ++ [⟨slot, seat, BitVec.ofNat 8 (v.toNat / 65536)⟩] } }) ∧
    (16 ≤ a.res.fetchQueue.length → ∃ t, exec (.journalCommit b slot v) s = .next t ∧
      t.res.fetchQueue = a.res.fetchQueue ∧ t.res.unverified = true ∧ t.res.releaseList = a.res.releaseList ∧
      t.res.seats.map (fun e => { e with resolved := Resolved.free }) =
        a.res.seats.map (fun e => { e with resolved := Resolved.free }) ∧
      t.count .journalOverrun = oneMore (a.count .journalOverrun) ∧
      t.notices = a.given (.journalLoss seat slot.val .overrun) ∧ DirtyRises a t ∧
      ChangesOnly [.res, .link .a, .link .b, .link .p, .notices, .dirty, .counts] a t)

/-- The fetch of the head entry completes: a torn record is discarded with JOURNAL_TORN, JOURNAL_LOSS and the
unverified flag; a malformed one counts RES_MALFORMED and a record that is not newer RES_SUPERSEDED, and neither does
anything else. -/
def Obligations.FetchedRecordIsRefusedForItsContent : Prop :=
  ∀ (s : State) (e : CommitEntry) (rest : List CommitEntry), s.bus.resetAsserted = false →
    s.nextAccess = some .fetch → s.res.fetchQueue = e :: rest → s.status.counts.length = 20 →
    let r := s.recordOf e.slot
    let u : State := { s with
      res := { s.res with fetchQueue := rest }
      port := { s.port with inProgress := none, starvation := 0 } }
    let torn : Prop := r.seat ≠ e.seat ∨ r.version ≠ e.version ∨ r.w5 ≠ r.w0 ^^^ r.w1 ^^^ r.w2 ^^^ r.w3 ^^^ r.w4
    let malformed : Prop := r.seat = 0 ∨ 128 < r.seat ∨ 4 < r.count ∨
      (∃ g ∈ r.segments, g.toIndex ≤ g.fromIndex ∨ g.service = 0 ∨ g.category = none) ∨
      (∃ (i j : Nat) (g h : RawSegment), i < j ∧ r.segments[i]? = some g ∧ r.segments[j]? = some h ∧
        g.service = h.service ∧ g.fromIndex < h.toIndex ∧ h.fromIndex < g.toIndex)
    let isNewer : Prop := ∀ held, (s.seat r.seat).version = some held →
      1 ≤ (r.version - held).toNat ∧ (r.version - held).toNat ≤ 127
    (torn → ∃ t, exec .fetchComplete s = .next t ∧ t.res.fetchQueue = rest ∧ t.res.unverified = true ∧
      t.res.releaseList = s.res.releaseList ∧ t.port = u.port ∧
      t.res.seats.map (fun e => { e with resolved := Resolved.free }) =
        s.res.seats.map (fun e => { e with resolved := Resolved.free }) ∧
      t.count .journalTorn = oneMore (s.count .journalTorn) ∧
      t.notices = s.given (.journalLoss e.seat e.slot.val .torn) ∧
      ChangesOnly [.port, .res, .link .a, .link .b, .link .p, .notices, .dirty, .counts] s t) ∧
    (¬ torn → malformed → exec .fetchComplete s = .next (bump .resMalformed u)) ∧
    (¬ torn → ¬ malformed → ¬ isNewer → exec .fetchComplete s = .next (bump .resSuperseded u))

/-- A whole, well-formed and newer record replaces the entry of its seat: version, marks, and its segments in the
order of service and from index, unconfirmed and unreleased, tagged against the route in force; the seat's release
entry goes. -/
def Obligations.NewerRecordReplacesTheSeatEntry : Prop :=
  ∀ (s : State) (e : CommitEntry) (rest : List CommitEntry), s.bus.resetAsserted = false →
    s.nextAccess = some .fetch → s.res.fetchQueue = e :: rest → s.res.seats.length = 128 →
    let r := s.recordOf e.slot
    r.torn e = false → r.malformed = false → newer r.version (s.seat r.seat).version = true →
    ∃ t, exec .fetchComplete s = .next t ∧ t.res.fetchQueue = rest ∧
      t.port = { s.port with inProgress := none, starvation := 0 } ∧
      (t.seat r.seat).version = some r.version ∧ (t.seat r.seat).prioritySeating = r.w0.getLsbD 24 ∧
      (t.seat r.seat).quietZone = r.w0.getLsbD 25 ∧ (t.seat r.seat).bound = (s.seat r.seat).bound ∧
      (t.seat r.seat).segments.Perm (r.segments.map fun g =>
        ⟨g.service, g.fromIndex, g.toIndex, g.category.getD .standard,
          tagFor s.route.active g.service g.fromIndex g.toIndex, false, false⟩) ∧
      (t.seat r.seat).segments.Pairwise (fun g h => g.service < h.service ∨
        (g.service = h.service ∧ g.fromIndex ≤ h.fromIndex)) ∧
      (∀ m, 1 ≤ m → m ≠ r.seat → t.seat m = s.seat m) ∧
      t.res.releaseList = (s.res.releaseList.filter fun x => x.seat ≠ r.seat) ∧
      t.res.unverified = s.res.unverified ∧ DirtyRises s t ∧
      ChangesOnly [.port, .res, .link .a, .link .b, .link .p, .notices, .dirty, .counts] s t

/-- A full-word write to the consumer index word is taken when memory already shows every entry it passes, and counts
CONSUMER_ERROR otherwise, and while SOFT_RESET holds HOLD it is not taken; ATTN shows whether memory shows entries not
yet consumed. -/
def Obligations.ConsumerIndexIsTakenWithinWhatMemoryShows : Prop :=
  ∀ (b : Beat) (v : Word) (s : State), s.bus.resetAsserted = false →
    let a := s.passed b 0x901 v
    let new : BitVec 7 := v.setWidth 7
    (a.items.softReset = true → exec (.consumerIndexWrite b v) s = .next a) ∧
    (a.items.softReset = false →
    ((new - a.notices.consumer).toNat ≤ (a.notices.visible - a.notices.consumer).toNat →
      exec (.consumerIndexWrite b v) s = .next { a with notices := { a.notices with consumer := new } } ∧
      (attn { a with notices := { a.notices with consumer := new } } = true ↔ a.notices.visible ≠ new)) ∧
    ((a.notices.visible - a.notices.consumer).toNat < (new - a.notices.consumer).toNat →
      exec (.consumerIndexWrite b v) s = .next (bump .consumerError a)))

/-! ## Notices and own accesses -/

/-- A raised notice is shed if it is minor and the occupancy is at NOTICE_HIGH, lost at an occupancy of 64, and
otherwise reserved at the internal producer index with the time of raising; the occupancy never exceeds 64. -/
def Obligations.RaisedNoticeIsShedLostOrReserved : Prop :=
  ∀ (n : Notice) (s : State), s.status.counts.length = 20 →
    let minor : Prop := (∃ c d r, n = .delayChanged c d r) ∨ (∃ m, n = .coastStarted m) ∨ (∃ m, n = .coastEnded m) ∨
      (∃ l, n = .lockChanged l)
    let occupancy := (s.notices.producer - s.notices.consumer).toNat
    ChangesOnly [.notices, .dirty, .counts] s (raise n s) ∧
    (minor → s.items.noticeHigh ≤ occupancy → (raise n s).notices = s.notices ∧
      (raise n s).count .noticeShed = oneMore (s.count .noticeShed) ∧
      ∀ c, c ≠ .noticeShed → (raise n s).count c = s.count c) ∧
    ((minor → occupancy < s.items.noticeHigh) → 64 ≤ occupancy → (raise n s).notices = s.notices ∧
      (raise n s).count .noticeLost = oneMore (s.count .noticeLost) ∧
      ∀ c, c ≠ .noticeLost → (raise n s).count c = s.count c) ∧
    ((minor → occupancy < s.items.noticeHigh) → occupancy < 64 →
      raise n s = { s with notices := { s.notices with
        producer := s.notices.producer + 1
        accesses := s.notices.accesses ++ [.entry ⟨s.notices.producer, n, s.timebase⟩] } }) ∧
    (occupancy ≤ 64 → (raise n s).notices.occupancy ≤ 64)

/-- The two cycles of a notice and the producer-only access: the four words of the entry go into its slot, then the
producer index word shows the index after it and the memory-visible index becomes that; a producer-only access writes
the memory-visible index, as the reset write does (log 10). No other word of memory changes. -/
def Obligations.NoticeCyclesWriteTheRing : Prop :=
  ∀ (s : State), s.bus.resetAsserted = false → Memory.wf s.mem = true →
    (∀ e rest, s.nextAccess = some .noticeEntry → s.notices.accesses = .entry e :: rest →
      ∃ t, exec .noticeEntryWrite s = .next t ∧ ChangesOnly [.mem, .port] s t ∧
        t.port = { s.port with inProgress := some .noticeProducer, starvation := 0 } ∧
        (∀ j w, (noticeWords e)[j]? = some w →
          readMem t.mem (s.tapBase + 0x800 + 4 * (e.index.toNat % 64) + j) = w) ∧
        (∀ x, (∀ j < 4, x ≠ s.tapBase + 0x800 + 4 * (e.index.toNat % 64) + j) → readMem t.mem x = readMem s.mem x)) ∧
    (∀ e rest, s.nextAccess = some .noticeProducer → s.notices.accesses = .entry e :: rest →
      ∃ t, exec .producerIndexWrite s = .next t ∧ ChangesOnly [.mem, .port, .notices] s t ∧
        t.port = { s.port with inProgress := none, starvation := 0 } ∧
        t.notices = { s.notices with visible := e.index + 1, accesses := rest } ∧
        readMem t.mem (s.tapBase + 0x900) = (e.index + 1).setWidth 32 ∧
        (∀ x, x ≠ s.tapBase + 0x900 → readMem t.mem x = readMem s.mem x)) ∧
    (∀ rest, s.nextAccess = some .producerOnly → s.notices.accesses = .producerOnly :: rest →
      ∃ t, exec .producerOnlyWrite s = .next t ∧ ChangesOnly [.mem, .port, .notices] s t ∧
        t.port = { s.port with inProgress := none, starvation := 0 } ∧
        t.notices = { s.notices with accesses := rest } ∧
        readMem t.mem (s.tapBase + 0x900) = s.notices.visible.setWidth 32 ∧
        (∀ x, x ≠ s.tapBase + 0x900 → readMem t.mem x = readMem s.mem x)) ∧
    (s.nextAccess = some .producerReset →
      ∃ t, exec .producerOnlyWrite s = .next t ∧ ChangesOnly [.mem, .port] s t ∧
        t.port = { s.port with inProgress := none, starvation := 0, producerReset := false } ∧
        readMem t.mem (s.tapBase + 0x900) = s.notices.visible.setWidth 32 ∧
        (∀ x, x ≠ s.tapBase + 0x900 → readMem t.mem x = readMem s.mem x))

/-- A write-back writes the current value of its word at the moment it is performed, takes the word out of the dirty
set, and clears the word's clear-pending mark; the words are served lowest first once no access of another class
waits. -/
def Obligations.WriteBackCarriesTheCurrentValue : Prop :=
  (∀ (s : State) (w : ViewWord), s.bus.resetAsserted = false → Memory.wf s.mem = true →
    s.nextAccess = some (.status w) →
    ∃ t, exec .statusWriteBack s = .next t ∧ ChangesOnly [.mem, .port, .dirty, .clearPending] s t ∧
      t.port = { s.port with inProgress := none, starvation := 0 } ∧
      readMem t.mem (s.tapBase + viewOffset w) = currentValue s w ∧
      (∀ x, x ≠ s.tapBase + viewOffset w → readMem t.mem x = readMem s.mem x) ∧
      t.isDirty w = false ∧ (∀ w' : ViewWord, w' ≠ w → t.isDirty w' = s.isDirty w') ∧
      (∀ i, t.status.clearPending.getLsbD i = true ↔ (s.status.clearPending.getLsbD i = true ∧
        ¬ (clearOnRead i = true ∧ ∃ h : i < 256, w = .status ⟨i, h⟩)))) ∧
  (∀ (s : State) (w : ViewWord), s.port.inProgress = none → s.nextAccess = some (.status w) →
    s.isDirty w = true ∧ (∀ w' : ViewWord, s.isDirty w' = true → w.index ≤ w'.index) ∧
    s.notices.accesses = [] ∧ s.res.fetchQueue = [] ∧ imageReading s.route = none)

/-! ## Timers -/

/-- The freshness deadline clears the source-present flag, and STALE acts on the motion mode by the choice in force;
above the coast cap HOLDING takes the place of COASTING. A coast step advances progress by the smoothed speed over
REPORT_PERIOD, never beyond the coast cap or the greatest figure and never back, and sets the next step; found above
the cap it becomes HOLDING instead. That the command brings the timebase to its deadline (log 2) and that a free port
has chosen its next own access before it (log 46) are the model's. -/
def Obligations.FreshnessAndCoastStepsActOnTheMotion : Prop :=
  (∀ (s : State) (deadline : Time), s.bus.resetAsserted = false → s.items.softReset = false →
      s.filter.freshness = some deadline → s.filter.sourcePresent = true →
      let chosen : Mode := if s.items.holdOnStale = true ∨ aboveCap s = true then .holding .stale else .coasting .stale
      let now := s.reached deadline
      let quiet : Filter := { s.filter with sourcePresent := false, freshness := none }
      ∃ t, exec .freshnessExpiry s = .next t ∧ t.timebase = now ∧ t.isDirty (.status 2) = true ∧ DirtyRises s t ∧
        ChangesOnly [.timebase, .filter, .link .p, .notices, .dirty, .counts] s.ready t ∧
        ((s.filter.mode = .tracking ∨ s.filter.mode = .following) →
          t.filter = { quiet with
            mode := chosen
            coastStep := if chosen.coasts then some (now + BitVec.ofNat 32 s.items.reportPeriod) else none } ∧
          t.notices = (if s.notices.occupancy < min 64 s.items.noticeHigh then
            s.notices.reserve (.coastStarted chosen) now else s.notices)) ∧
        (∀ cause, s.filter.mode = .coasting cause →
          t.filter = (if s.items.holdOnStale then { quiet with mode := .holding .stale, coastStep := none } else quiet)) ∧
        (∀ cause, s.filter.mode = .holding cause → t.filter = quiet)) ∧
  (∀ (s : State) (at_ : Time) (cause : Cause), s.bus.resetAsserted = false → s.items.softReset = false →
      s.filter.mode = .coasting cause → s.filter.coastStep = some at_ →
      let moved := s.filter.progress + s.filter.smoothed * s.items.reportPeriod / 100
      let within := match coastCap s with | some cap => min moved cap | none => moved
      ∃ t, exec .coastStep s = .next t ∧ t.timebase = s.reached at_ ∧ DirtyRises s t ∧
        ChangesOnly [.timebase, .filter, .tracker, .res, .link .p, .notices, .dirty, .counts] s.ready t ∧
        (aboveCap s = false →
          t.filter = { s.filter with
            progress := max s.filter.progress (min within 16777215000)
            coastStep := some (at_ + BitVec.ofNat 32 s.items.reportPeriod) } ∧
          (t.filter.progress / 1000 = s.filter.progress / 1000 → t.tracker = s.tracker ∧ t.notices = s.notices)) ∧
        (aboveCap s = true →
          t.filter = { s.filter with mode := .holding cause, coastStep := none } ∧ t.tracker = s.tracker))

/-- The first release entry expires: it is removed, the seat's NOW segment is released and the seat shows RELEASED,
and SEAT_RELEASED is given. That the command brings the timebase to its deadline (log 2) and that a free port has
chosen its next own access before it (log 46) are the model's. -/
def Obligations.ReleaseExpiryReleasesTheSegment : Prop :=
  ∀ (s : State) (x : ReleaseEntry) (rest : List ReleaseEntry) (r : ActiveRoute) (c : Nat) (g : Segment),
    s.bus.resetAsserted = false → s.items.softReset = false → s.res.seats.length = 128 →
    s.res.releaseList = x :: rest → 1 ≤ x.seat → x.seat ≤ 128 → position s = some (r, c) →
    nowSegment r.served c (s.seat x.seat).segments = some g →
    ∃ t, exec .releaseExpiry s = .next t ∧ t.timebase = s.reached x.expiry ∧
      t.res.releaseList = (s.res.releaseList.filter fun y => y.seat ≠ x.seat) ∧
      (t.seat x.seat).segments = (s.seat x.seat).segments.map (fun h =>
        if h.service = g.service ∧ h.fromIndex = g.fromIndex then { h with released := true } else h) ∧
      (t.seat x.seat).resolved.status = .released ∧ (t.seat x.seat).version = (s.seat x.seat).version ∧
      (t.seat x.seat).bound = (s.seat x.seat).bound ∧
      (∀ m, 1 ≤ m → m ≠ x.seat → t.seat m = s.seat m) ∧
      t.notices = (if s.notices.occupancy < 64 then
        s.notices.reserve (.seatReleased x.seat (r.copy.stop g.fromIndex).code g.fromIndex) (s.reached x.expiry)
        else s.notices) ∧
      t.res.fetchQueue = s.res.fetchQueue ∧ t.res.unverified = s.res.unverified ∧
      t.isDirty (.status 9) = true ∧ DirtyRises s t ∧
      ChangesOnly [.timebase, .res, .link .a, .link .b, .link .p, .notices, .dirty, .counts] s.ready t

/-- The deadlines of a unit: a probe deadline is set again and offers a PROBE to an ACTIVE or SUSPECT unit of a
RUNNING link that nothing waits for; a back-off expiry makes the back-off probe due; at the end of an e-paper hold the
owed contents of a unit able to take them are queued while the queue is below QUEUE_NEAR_FULL, and stay owed
otherwise. The quiet delay of a link becomes none and makes REST due while QUIET is enabled and the link is RUNNING; a
whole second of the timebase marks TIMEBASE dirty. That the command brings the timebase to its deadline (log 2), that a
PROBE discarded at a queue of 32 items leaves the overflow latch as it stands (log 18), and that a free port has chosen
its next own access before the command (log 46) are the model's. -/
def Obligations.DeadlinesAndDelaysAct : Prop :=
  (∀ (s : State) (l : LinkId) (address : Nat) (u : UnitEntry), s.bus.resetAsserted = false →
      s.items.softReset = false → (s.link l).unit address = some u →
      (∃ t, exec (.probeDeadlineExpiry l address) s = .next t ∧ t.timebase = s.reached u.probeDeadline ∧
        ChangesOnly [.timebase, .link l, .dirty] s.ready t ∧
        t.link l = { s.link l with
          units := (s.link l).units.map fun v => if v.address = address then
            { v with probeDeadline := u.probeDeadline + BitVec.ofNat 32 (s.items.probeInterval * 1000) } else v
          queue := if (s.link l).state = .running ∧ (u.state = .active ∨ u.state = .suspect) ∧
              (∀ q ∈ (s.link l).queue, q.address ≠ address) ∧
              (s.link l).inFlight.all (fun it => it.address != address) = true ∧
              (s.link l).queue.length < 32 ∧ (s.link l).queue.length < s.items.queueNearFull then
            (s.link l).queue ++ [⟨address, .probe⟩] else (s.link l).queue }) ∧
      (∀ expiry, u.backoff = some expiry →
        ∃ t, exec (.backoffExpiry l address) s = .next t ∧ t.timebase = s.reached expiry ∧
          ChangesOnly [.timebase, .link l, .dirty] s.ready t ∧
          t.link l = { s.link l with
            units := (s.link l).units.map fun v => if v.address = address then
              { v with backoff := none, probeDue := some expiry } else v }) ∧
      (∀ expiry, u.hold = some expiry →
        ∃ t u', exec (.ePaperHoldExpiry l address) s = .next t ∧ t.timebase = s.reached expiry ∧
          ChangesOnly [.timebase, .link l, .dirty] s.ready t ∧ (t.link l).unit address = some u' ∧ u'.hold = none ∧
          u'.state = u.state ∧
          (u.able = false → (t.link l).queue = (s.link l).queue ∧ u' = { u with hold := none }) ∧
          (∀ kind, u.owed kind = true → u'.owed kind = true ∨
            ⟨address, .content (target s l u kind)⟩ ∈ (t.link l).queue) ∧
          (∀ kind, u.owed kind = true → (u.state = .active ∨ u.state = .suspect) →
            ((s.link l).state = .running ∨ (s.link l).state = .resting ∨ (s.link l).state = .rousing) →
            (let before := (s.link l).queue.length +
              (([ContentKind.seat, .strip, .headline].takeWhile fun x => x ≠ kind).countP fun x => u.owed x)
            before < s.items.queueNearFull ∧ before < 32) →
            u'.owed kind = false ∧ ⟨address, .content (target s l u kind)⟩ ∈ (t.link l).queue))) ∧
  (∀ (s : State) (l : LinkId) (expiry : Time), s.bus.resetAsserted = false → s.items.softReset = false →
    (s.link l).quietDelay = some expiry →
    ∃ t, exec (.quietDelayExpiry l) s = .next t ∧ t.timebase = s.reached expiry ∧
      ChangesOnly [.timebase, .link l, .dirty] s.ready t ∧
      t.link l = { s.link l with
        quietDelay := none
        restDue := (s.link l).restDue || (s.items.quietEnable && decide ((s.link l).state = .running)) }) ∧
  (∀ s : State, s.bus.resetAsserted = false →
    let next := (s.timebase.toNat / 1000 + 1) * 1000
    ∃ t, exec .timebaseSecond s = .next t ∧
      t.timebase.toNat = (if next < 2 ^ 32 then next else 0) ∧ t.isDirty (.status 13) = true ∧
      (∀ w : ViewWord, w ≠ .status 13 → t.isDirty w = s.isDirty w) ∧ ChangesOnly [.timebase, .dirty] s.ready t)

/-- The wake expiry resolves every unit not yet probed as not answering: WAKE_ERR counts each, their rested flags
clear, and the link is RUNNING unless a wake probe is still in flight. That the command brings the timebase to its
deadline (log 2) and that a free port has chosen its next own access before it (log 46) are the model's. -/
def Obligations.WakeExpiryResolvesTheUnprobed : Prop :=
  ∀ (s : State) (l : LinkId) (expiry : Time), s.bus.resetAsserted = false → s.items.softReset = false →
    (s.link l).state = .rousing → (s.link l).wakeExpiry = some expiry → s.status.counts.length = 20 →
    s.count l.wakeCounter ≤ 65535 →
    let probed : Option Nat := match (s.link l).transaction with
      | some ⟨.wakeProbe a, _, _, _, _⟩ => some a
      | _ => none
    let due := (s.link l).units.filter fun u => u.rested && decide (some u.address ≠ probed)
    ∃ t, exec (.wakeExpiry l) s = .next t ∧ t.timebase = s.reached expiry ∧ DirtyRises s t ∧
      ChangesOnly [.timebase, .link l, .notices, .dirty, .counts] s.ready t ∧
      t.count l.wakeCounter = min 65535 (s.count l.wakeCounter + due.length) ∧
      (∀ u ∈ (t.link l).units, u.rested = true → some u.address = probed) ∧
      (∀ u ∈ (t.link l).units, (∃ v ∈ due, v.address = u.address) → u.state =
        match s.items.faultMode l with | .latch => .failed | .retry => .backoff | .report => .active) ∧
      (probed = none → (t.link l).state = .running ∧ (t.link l).wakeExpiry = none ∧ (t.link l).wakePosition = none)

/-! ## Frames and their endings -/

/-- A link with no frame in flight sends, in this order: an UNASSIGNED frame, ROUSE, REST, a wake probe, a due
back-off probe, and the head of the queue; with nothing to send it stays as it is. The removal of the head marks
LINK_x dirty, whatever a sweep then queues. The direction output is driven from the header on, to the last word of a
broadcast; that of any other frame goes 32 µs a word later, which the timebase shows to the millisecond (the model's
choice, log 28). The slots of an UNASSIGNED frame carry no stop, no category and no marks (the model's choice, log
48). A free port has chosen its next own access before the event (the model's reading, log 46). -/
def Obligations.NextFrameFollowsTheOrder : Prop :=
  ∀ (s : State) (l : LinkId), s.bus.resetAsserted = false → s.items.softReset = false →
    let k := s.link l
    let window := s.items.replyWindow
    let probe : Nat → List Half := fun a => [BitVec.ofNat 16 (a % 128 * 512 + 320)]
    let wake : Option Nat := if k.state = .rousing then k.wakePosition else none
    k.transaction = none → (k.state = .running ∨ k.state = .resting ∨ k.state = .rousing) →
    ∃ t, exec (.nextFrameSelect l) s = .next t ∧ ChangesOnly [.link l, .dirty] s.ready t ∧
      k.driving s.timebase = false ∧ ((t.link l).transaction.isSome = true → (t.link l).driving t.timebase = true) ∧
      (∀ x now, (t.link l).transaction = some x → ((t.link l).driving now = true ↔
        x.purpose.awaits = false ∨ (now - s.timebase).toNat * 1000 < 32 * x.frame.length)) ∧
      (∀ a rest u, k.unassignedDue = a :: rest → k.unit a = some u →
        t.link l = { k with
          unassignedDue := rest
          transaction := some
            ⟨.unassigned a, a, frameOf a .show (contentWords (unassignedContent u)), window, s.timebase⟩ }) ∧
      (k.unassignedDue = [] →
        (k.rouseDue = true → t.link l = { k with transaction := some ⟨.rouse, 127, [0xFFC0#16], window, s.timebase⟩ }) ∧
        (k.rouseDue = false → k.restDue = true →
          t.link l = { k with transaction := some ⟨.rest, 127, [0xFF80#16], window, s.timebase⟩ }) ∧
        (k.rouseDue = false → k.restDue = false →
          (∀ a, wake = some a → t.link l = { k with transaction := some ⟨.wakeProbe a, a, probe a, window, s.timebase⟩ }) ∧
          (wake = none →
            (∀ a, k.dueProbe s.timebase = some a → t.link l = { k with
              transaction := some ⟨.backoffProbe a, a, probe a, window, s.timebase⟩
              units := k.units.map fun u => if u.address = a then { u with probeDue := none } else u }) ∧
            (k.dueProbe s.timebase = none → k.queue = [] → t = s.ready) ∧
            (∀ it rest, k.dueProbe s.timebase = none → k.queue = it :: rest → k.sendable it = true →
              (t.link l).transaction = some (match it.body with
                | .level code => ⟨.item it, 127, [0xFF01#16, code.setWidth 16], window, s.timebase⟩
                | .probe => ⟨.item it, it.address, probe it.address, window, s.timebase⟩
                | .content c => ⟨.item it, it.address, frameOf it.address .show (contentWords c), window, s.timebase⟩) ∧
              t.isDirty (.status l.word) = true ∧
              (¬ (s.items.queueNearEmpty < k.queue.length ∧ rest.length ≤ s.items.queueNearEmpty) →
                (t.link l).queue = rest ∧ (t.link l).units = k.units)))))

/-- The steps of an enumeration: OPEN_CHAIN is followed by the base page; a base page leads to its extended pages, to
SET_ADDRESS, or at capacity to the end as overlength; a taken address enters the unit, FOREIGN, DUPLICATE or ACTIVE
with its seats bound, and the next base page is read. A free port has chosen its next own access before the event (the
model's reading, log 46). -/
def Obligations.EnumerationStepsInOrder : Prop :=
  ∀ (s : State) (l : LinkId) (x : Transaction), s.bus.resetAsserted = false → s.items.softReset = false →
    (s.link l).transaction = some x → (s.link l).reenumerate = false → s.res.seats.length = 128 →
    let k := s.link l
    let sent : Purpose → List Half → Transaction := fun p frame => ⟨p, 0, frame, s.items.replyWindow, s.timebase⟩
    (x.purpose = .openChain → ∃ t, exec (.openChainSent l) s = .next t ∧ ChangesOnly [.link l] s.ready t ∧
      t.link l = { k with transaction := some (sent (.basePage 1) [0x0041#16, 0]) }) ∧
    (∀ attempt w1 w2 w3 w4, x.purpose = .basePage attempt →
      let page := basePageOf w1 w2
      ∃ t, exec (.pageReply l w1 w2 w3 w4) s = .next t ∧
        (l.capacity ≤ k.units.length → (t.link l).state = .running ∧ (t.link l).overlength = true ∧
          (t.link l).chainIntact = true ∧ (t.link l).transaction = none ∧ DirtyRises s t ∧
          (t.link l).units.map UnitEntry.address = k.units.map UnitEntry.address ∧
          t.notices = s.given (.chainReady l k.units.length .overlength) ∧
          ChangesOnly [.link l, .notices, .dirty, .counts] s.ready t) ∧
        (k.units.length < l.capacity → page.extended = 0 → ChangesOnly [.link l] s.ready t ∧
          t.link l = { k with
            transaction := some (sent (.setAddress 1 page) [0x0081#16, BitVec.ofNat 16 (k.nextAddress % 128)]) }) ∧
        (k.units.length < l.capacity → 0 < page.extended → ChangesOnly [.link l] s.ready t ∧
          t.link l = { k with transaction := some (sent (.extendedPage 1 1 page) [0x0041#16, 1]) })) ∧
    (∀ number attempt page w1 w2 w3 w4, x.purpose = .extendedPage number attempt page →
      let q := takePage page number w1
      ∃ t, exec (.pageReply l w1 w2 w3 w4) s = .next t ∧ ChangesOnly [.link l] s.ready t ∧
        t.link l = { k with
          transaction := some (if number < q.extended
            then sent (.extendedPage (number + 1) 1 q) [0x0041#16, BitVec.ofNat 16 (number + 1)]
            else sent (.setAddress 1 q) [0x0081#16, BitVec.ofNat 16 (k.nextAddress % 128)]) }) ∧
    (∀ (c : Instr) (attempt : Nat) (page : Page),
      ((c = .setAddressOk l ∧ x.purpose = .setAddress attempt page) ∨
        (x.purpose = .checkProbe attempt page ∧ (c = .checkProbeReply l 0 ∨ c = .checkProbeReply l 1 ∨
          c = .checkProbeReply l 2))) →
      ∃ t, exec c s = .next t ∧ ChangesOnly [.res, .link l, .notices, .dirty, .counts] s.ready t ∧ DirtyRises s t ∧
        (c = .checkProbeReply l 2 → s.status.counts.length = 20 →
          t.count l.missCounter = oneMore (s.count l.missCounter)) ∧
        (t.link l).units = k.units ++ [newEntry s l k.nextAddress page] ∧
        (t.link l).nextAddress = k.nextAddress + 1 ∧ (t.link l).queue = k.queue ∧ (t.link l).state = k.state ∧
        (t.link l).transaction = some (sent (.basePage 1) [0x0041#16, 0]) ∧
        t.res.releaseList = s.res.releaseList ∧
        (entersForeign l page = true → (newEntry s l k.nextAddress page).state = .foreign ∧ t.res = s.res) ∧
        (∀ label, entersForeign l page = false → boundLabel s l page = some label →
          (newEntry s l k.nextAddress page).state = .duplicate ∧ t.res = s.res ∧
          t.notices = s.given (.unitDuplicate l k.nextAddress label)) ∧
        (entersForeign l page = false → boundLabel s l page = none →
          (newEntry s l k.nextAddress page).state = .active ∧ t.notices = s.notices ∧
          (l ≠ .p → ∀ label slot, (label, slot) ∈ usableLabels page →
            (t.seat label).bound = some ⟨l, k.nextAddress, slot⟩) ∧
          (∀ m, 1 ≤ m → (l = .p ∨ ∀ slot, (m, slot) ∉ usableLabels page) → t.seat m = s.seat m)))

/-- A step of an enumeration that misses, by a malformed reply or by the end of its window, counts in MISS_x and is
tried again, at most three times: a base page that misses three times is the end of the chain; a missed SET_ADDRESS is
followed by the check probe, and a check probe that misses by SET_ADDRESS again; an extended page or an address step
that fails on all its attempts ends the enumeration as BROKEN, with CHAIN_BROKEN before CHAIN_READY. A free port has
chosen its next own access before the event (the model's reading, log 46). -/
def Obligations.EnumerationMissesAreRetried : Prop :=
  ∀ (s : State) (l : LinkId) (x : Transaction) (c : Instr), s.bus.resetAsserted = false → s.items.softReset = false →
    (s.link l).transaction = some x → (s.link l).reenumerate = false → (s.link l).state = .enumerating →
    s.status.counts.length = 20 →
    (c = .replyWindowExpiry l ∨ ∃ r, c = .malformedReply l r ∧ wellFormedReply x r = false ∧
      ((∃ n page, x.purpose = .checkProbe n page) → ¬ (replyCode r = 2 ∧ replyAddress r = x.address))) →
    let k := s.link l
    let sent : Purpose → Nat → List Half → Transaction := fun p a frame => ⟨p, a, frame, s.items.replyWindow, s.timebase⟩
    let again : Transaction → State → Prop := fun next t =>
      t.link l = { k with transaction := some next } ∧ t.notices = s.notices
    let finished : Ending → State → Prop := fun ending t =>
      (t.link l).state = .running ∧ (t.link l).transaction = none ∧ (t.link l).overlength = false ∧
      (t.link l).chainIntact = decide (ending = .chainEnd) ∧ (t.link l).endedBroken = decide (ending = .broken) ∧
      (t.link l).units.map UnitEntry.address = k.units.map UnitEntry.address
    x.purpose.enumerates = true → x.purpose ≠ .openChain →
    ∃ t, exec c s = .next t ∧ DirtyRises s t ∧ ChangesOnly [.link l, .notices, .dirty, .counts] s.ready t ∧
      t.count l.missCounter = oneMore (s.count l.missCounter) ∧
      (∀ n, x.purpose = .basePage n →
        (n < 3 → again (sent (.basePage (n + 1)) 0 [0x0041#16, 0]) t) ∧
        (3 ≤ n → finished .chainEnd t ∧ t.notices = s.given (.chainReady l k.units.length .chainEnd))) ∧
      (∀ number n page, x.purpose = .extendedPage number n page →
        (n < 3 → again (sent (.extendedPage number (n + 1) page) 0 [0x0041#16, BitVec.ofNat 16 number]) t) ∧
        (3 ≤ n → finished .broken t ∧ t.notices =
          s.givenAll [.chainBroken l k.nextAddress (some number), .chainReady l k.units.length .broken])) ∧
      (∀ n page, x.purpose = .setAddress n page →
        again (sent (.checkProbe n page) k.nextAddress [BitVec.ofNat 16 (k.nextAddress % 128 * 512 + 320)]) t) ∧
      (∀ n page, x.purpose = .checkProbe n page →
        (n < 3 → again (sent (.setAddress (n + 1) page) 0 [0x0081#16, BitVec.ofNat 16 (k.nextAddress % 128)]) t) ∧
        (3 ≤ n → finished .broken t ∧ t.notices =
          s.givenAll [.chainBroken l k.nextAddress none, .chainReady l k.units.length .broken]))

/-- The broadcasts end at their last word: SET_LEVEL records its code; REST rests the link and each ACTIVE or SUSPECT
unit that can rest; ROUSE starts the rousing at the first rested unit, or ends it at once where there is none. That
ROUSE is due at the last word of a REST whose coach is back in service is the model's reading (log 17). A free port
has chosen its next own access before the event (the model's reading, log 46). -/
def Obligations.BroadcastsActAtTheirLastWord : Prop :=
  ∀ (s : State) (l : LinkId) (x : Transaction), s.bus.resetAsserted = false → s.items.softReset = false →
    (s.link l).transaction = some x → (s.link l).reenumerate = false →
    let k := s.link l
    (∀ a code, x.purpose = .item ⟨a, .level code⟩ →
      ∃ t, exec (.setLevelSent l) s = .next t ∧ ChangesOnly [.link l] s.ready t ∧
        t.link l = { k with transaction := none, ackLevel := some code }) ∧
    (x.purpose = .rest →
      ∃ t, exec (.restSent l) s = .next t ∧ ChangesOnly [.link l, .dirty] s.ready t ∧
        t.link l = { k with
          transaction := none, state := .resting, restDue := false
          rouseDue := s.route.consist.inService || k.rouseDue
          units := k.units.map fun u => if (u.state = .active ∨ u.state = .suspect) ∧ u.page.canRest = true then
            { u with state := .resting, rested := true } else u } ∧
        (k.state ≠ .resting → t.isDirty (.status l.word) = true)) ∧
    (x.purpose = .rouse →
      ∃ t, exec (.rouseSent l) s = .next t ∧ ChangesOnly [.link l, .dirty] s.ready t ∧ (t.link l).rouseDue = false ∧
        (∀ u, k.units.find? (fun u => u.rested) = some u →
          t.link l = { k with
            transaction := none, rouseDue := false, state := .rousing, wakePosition := some u.address
            wakeExpiry := some (s.timebase + BitVec.ofNat 32 s.items.wakeTime) }) ∧
        ((∀ u ∈ k.units, u.rested = false) → (t.link l).state = .running ∧ (t.link l).wakeExpiry = none ∧
          (t.link l).wakePosition = none))

/-- Replies to the items of the queue: OK to a SHOW acknowledges the content, OK to a SHOW or a PROBE ends the misses,
the suspicion and the report episode, every reply sets the success time and the probe deadline, and BUSY to a SHOW
re-appends the item unless a newer one is queued; at a queue of 32 items its kind is owed and the overflow latch set.
That a re-append leaves the owed flag of its kind as it stands (log 39), and that a free port has chosen its next own
access before the event (log 46), are the model's readings. -/
def Obligations.RepliesToItemsAct : Prop :=
  ∀ (s : State) (l : LinkId) (x : Transaction) (a : Nat), s.bus.resetAsserted = false →
    s.items.softReset = false → (s.link l).transaction = some x → (s.link l).reenumerate = false →
    let k := s.link l
    let deadline := s.timebase + BitVec.ofNat 32 (s.items.probeInterval * 1000)
    let calm : UnitState → UnitState := fun st => if st = .suspect then .active else st
    (∀ c, x.purpose = .item ⟨a, .content c⟩ →
      ∃ t, exec (.showOk l) s = .next t ∧ ChangesOnly [.link l, .dirty] s.ready t ∧
        t.link l = { k with
          transaction := none
          units := k.units.map fun u => if u.address = a then
            { u with
              missCount := 0, state := calm u.state, episode := false, lastSuccess := s.timebase
              probeDeadline := deadline
              hold := if u.page.technology = 2 ∧ 0 < s.items.ePaperHold
                then some (s.timebase + BitVec.ofNat 32 (s.items.ePaperHold * 1000)) else u.hold
              ackSeat := if c.kind = .seat then some c else u.ackSeat
              ackStrip := if c.kind = .strip then some c else u.ackStrip
              ackHeadline := if c.kind = .headline then some c else u.ackHeadline }
            else u }) ∧
    (∀ c, x.purpose = .item ⟨a, .content c⟩ →
      let newer := k.queue.any fun q => q.sameKey ⟨a, .content c⟩
      ∃ t, exec (.showBusy l) s = .next t ∧ ChangesOnly [.link l, .dirty] s.ready t ∧
        (t.link l).transaction = none ∧
        (t.link l).queue = (if newer = false ∧ k.queue.length < 32 then k.queue ++ [⟨a, .content c⟩] else k.queue) ∧
        ((newer = true ∨ k.queue.length < 32) → (t.link l).overflow = k.overflow ∧
          (t.link l).units = k.units.map fun u => if u.address = a then
            { u with lastSuccess := s.timebase, probeDeadline := deadline } else u) ∧
        (newer = false → 32 ≤ k.queue.length → (t.link l).overflow = true ∧
          (t.link l).units = k.units.map fun u => if u.address = a then
            ({ u with lastSuccess := s.timebase, probeDeadline := deadline } : UnitEntry).setOwed c.kind true else u)) ∧
    (∀ busy, x.purpose = .item ⟨a, .probe⟩ →
      ∃ t, exec (.probeReply l busy) s = .next t ∧ ChangesOnly [.link l, .dirty] s.ready t ∧
        t.link l = { k with
          transaction := none
          units := k.units.map fun u => if u.address = a then
            (if busy then { u with lastSuccess := s.timebase, probeDeadline := deadline }
            else { u with
              missCount := 0, state := calm u.state, episode := false, lastSuccess := s.timebase
              probeDeadline := deadline })
            else u })

/-- Replies ahead of the queue: a back-off probe answered recovers its unit and UNIT_RECOVERED is given; a wake probe
answered in time wakes its unit, and one answered late counts WAKE_ERR and sends the unit into fault handling with the
cause WAKE. An OK reply ends the report episode, so a late OK under REPORT gives UNIT_FAILED again. The end of an
UNASSIGNED frame acts on nothing but, as a miss, on MISS_x and the chain-intact latch. The model's own in this: the time
at which a wake reply began, which tells in time from late (log 26), what a late reply counts and that a late OK ends
the episode before the unit enters fault handling (log 42), the replies to an UNASSIGNED frame (log
44), and the own access that a free port has chosen before the event (log 46). -/
def Obligations.RepliesAheadOfTheQueueAct : Prop :=
  ∀ (s : State) (l : LinkId) (x : Transaction) (a : Nat) (u : UnitEntry), s.bus.resetAsserted = false →
    s.items.softReset = false → (s.link l).transaction = some x → (s.link l).reenumerate = false →
    s.status.counts.length = 20 → (s.link l).unit a = some u →
    ((s.link l).state = .running ∨ (s.link l).state = .resting ∨ (s.link l).state = .rousing) →
    (∀ busy, x.purpose = .backoffProbe a →
      ∃ t u', exec (.backoffProbeReply l busy) s = .next t ∧ DirtyRises s t ∧
        ChangesOnly [.link l, .notices, .dirty, .counts] s.ready t ∧
        (t.link l).transaction = none ∧ (t.link l).unit a = some u' ∧ u'.retryCount = 0 ∧ u'.missCount = 0 ∧
        u'.lastSuccess = s.timebase ∧
        u'.probeDeadline = s.timebase + BitVec.ofNat 32 (s.items.probeInterval * 1000) ∧
        (((s.link l).state = .resting ∧ u.page.canRest = true) → u'.state = .resting ∧ u'.rested = true) ∧
        (¬ ((s.link l).state = .resting ∧ u.page.canRest = true) → u'.state = .active ∧ u'.rested = u.rested) ∧
        t.notices = s.given (.unitRecovered l a u.retryCount)) ∧
    (∀ busy began expiry, x.purpose = .wakeProbe a → (s.link l).wakeExpiry = some expiry →
      ∃ t u', exec (.wakeProbeReply l busy began) s = .next t ∧ DirtyRises s t ∧
        ChangesOnly [.link l, .notices, .dirty, .counts] s.ready t ∧
        (t.link l).transaction = none ∧ (t.link l).unit a = some u' ∧ u'.rested = false ∧
        ((0 < (expiry - began).toNat ∧ (expiry - began).toNat < 2 ^ 31) →
          u'.state = .active ∧ u'.missCount = 0 ∧ u'.lastSuccess = s.timebase ∧
          u'.episode = (u.episode && busy) ∧ t.notices = s.notices ∧
          t.count l.wakeCounter = s.count l.wakeCounter) ∧
        (¬ (0 < (expiry - began).toNat ∧ (expiry - began).toNat < 2 ^ 31) →
          t.count l.wakeCounter = oneMore (s.count l.wakeCounter) ∧
          (s.items.faultMode l = .latch → u'.state = .failed ∧ u'.missCount = u.missCount ∧
            u'.episode = (u.episode && busy) ∧ t.notices = s.given (.unitFailed l a .latch .wake)) ∧
          (s.items.faultMode l = .retry → u'.state = .backoff ∧ u'.missCount = u.missCount ∧
            u'.backoff = some (s.timebase + BitVec.ofNat 32 (retryMs s.items.retryInterval)) ∧
            u'.episode = (u.episode && busy) ∧ t.notices = s.notices) ∧
          (s.items.faultMode l = .report → u'.state = .active ∧ u'.missCount = 0 ∧ u'.episode = true ∧
            t.notices =
              (if u.episode = true ∧ busy = true then s.notices else s.given (.unitFailed l a .report .wake)))) ∧
        ((s.link l).state = .rousing → (∀ v ∈ (s.link l).units, v.rested = true → v.address = a) →
          (t.link l).state = .running)) ∧
    (∀ ending, x.purpose = .unassigned a →
      ∃ t, exec (.unassignedShowEnd l ending) s = .next t ∧
        (ending ≠ .miss → t.link l = { s.link l with transaction := none } ∧ ChangesOnly [.link l] s.ready t) ∧
        (ending = .miss → t.link l = { s.link l with transaction := none, chainIntact := false } ∧
          t.count l.missCounter = oneMore (s.count l.missCounter) ∧
          ChangesOnly [.link l, .dirty, .counts] s.ready t))

/-- A queued SHOW or PROBE that misses, by a malformed reply or by the end of its window, counts in MISS_x and clears
the chain-intact latch; below MISS_DEGLITCH the unit is SUSPECT and the item returns, and at it the unit enters fault
handling under the link's FAULT_MODE. A free port has chosen its next own access before the event (the model's
reading, log 46). -/
def Obligations.MissLeadsToFaultHandling : Prop :=
  ∀ (s : State) (l : LinkId) (x : Transaction) (it : Item) (u : UnitEntry) (c : Instr), s.bus.resetAsserted = false →
    s.items.softReset = false → (s.link l).transaction = some x → (s.link l).reenumerate = false →
    x.purpose = .item it → (∀ code, it.body ≠ .level code) → s.status.counts.length = 20 →
    (s.link l).unit it.address = some u →
    ((s.link l).state = .running ∨ (s.link l).state = .resting ∨ (s.link l).state = .rousing) →
    (c = .replyWindowExpiry l ∨ ∃ r, c = .malformedReply l r ∧ wellFormedReply x r = false) →
    let k := s.link l
    let n := min 15 (u.missCount + 1)
    let newer := k.queue.any fun q => q.sameKey it
    ∃ t u', exec c s = .next t ∧ DirtyRises s t ∧ ChangesOnly [.link l, .notices, .dirty, .counts] s.ready t ∧
      t.count l.missCounter = oneMore (s.count l.missCounter) ∧ (t.link l).chainIntact = false ∧
      (t.link l).transaction = none ∧ (t.link l).unit it.address = some u' ∧ (t.link l).state = k.state ∧
      (n < s.items.missDeglitch → u'.missCount = n ∧
        u'.state = (if u.state = .active then .suspect else u.state) ∧ t.notices = s.notices ∧
        (t.link l).queue = (if newer = false ∧ k.queue.length < 32 then k.queue ++ [it] else k.queue)) ∧
      (s.items.missDeglitch ≤ n →
        (s.items.faultMode l = .latch → u'.state = .failed ∧ u'.missCount = n ∧ (t.link l).queue = k.queue ∧
          t.notices = s.given (.unitFailed l it.address .latch .misses) ∧
          ∀ content, it.body = .content content → u'.owed content.kind = true) ∧
        (s.items.faultMode l = .retry → u'.state = .backoff ∧ u'.missCount = n ∧ (t.link l).queue = k.queue ∧
          u'.backoff = some (s.timebase + BitVec.ofNat 32 (retryMs s.items.retryInterval)) ∧
          u'.retryCount = u.retryCount ∧ t.notices = s.notices ∧
          ∀ content, it.body = .content content → u'.owed content.kind = true) ∧
        (s.items.faultMode l = .report → u'.state = .active ∧ u'.missCount = 0 ∧ u'.episode = true ∧
          t.notices = (if u.episode then s.notices else s.given (.unitFailed l it.address .report .misses)) ∧
          (t.link l).queue = (if newer = false ∧ k.queue.length < 32 then k.queue ++ [it] else k.queue)))

/-- A back-off probe or a wake probe that misses, by a malformed reply or by the end of its window, counts in MISS_x
and clears the chain-intact latch. The missed back-off probe raises the retry count: at the limit of RETRY_LIMIT the
unit is FAILED, and below it the unit backs off again. The missed wake probe counts in WAKE_ERR_x, clears the rested
flag and sends the unit into fault handling with the cause WAKE. A free port has chosen its next own access before the
event (the model's reading, log 46). -/
def Obligations.MissesAheadOfTheQueueAct : Prop :=
  ∀ (s : State) (l : LinkId) (x : Transaction) (a : Nat) (u : UnitEntry) (c : Instr), s.bus.resetAsserted = false →
    s.items.softReset = false → (s.link l).transaction = some x → (s.link l).reenumerate = false →
    s.status.counts.length = 20 → (s.link l).unit a = some u →
    ((s.link l).state = .running ∨ (s.link l).state = .resting ∨ (s.link l).state = .rousing) →
    (c = .replyWindowExpiry l ∨ ∃ r, c = .malformedReply l r ∧ wellFormedReply x r = false) →
    let wait : Time := BitVec.ofNat 32
      (([1000, 2000, 5000, 10000, 20000, 30000, 60000] : List Nat).getD s.items.retryInterval 120000)
    (x.purpose = .backoffProbe a →
      let n := min 255 (u.retryCount + 1)
      let limit := ([none, some 1, some 2, some 3, some 5, some 8, some 12] : List (Option Nat)).getD s.items.retryLimit
        (some 20)
      ∃ t u', exec c s = .next t ∧ DirtyRises s t ∧ ChangesOnly [.link l, .notices, .dirty, .counts] s.ready t ∧
        t.count l.missCounter = oneMore (s.count l.missCounter) ∧ (t.link l).chainIntact = false ∧
        (t.link l).transaction = none ∧ (t.link l).state = (s.link l).state ∧ (t.link l).queue = (s.link l).queue ∧
        (t.link l).unit a = some u' ∧ u'.retryCount = n ∧
        ((∃ m, limit = some m ∧ m ≤ n) → u'.state = .failed ∧ t.notices = s.given (.unitFailed l a .retry .misses)) ∧
        ((∀ m, limit = some m → n < m) → u'.state = u.state ∧ u'.backoff = some (s.timebase + wait) ∧
          t.notices = s.notices)) ∧
    (x.purpose = .wakeProbe a →
      ∃ t u', exec c s = .next t ∧ DirtyRises s t ∧ ChangesOnly [.link l, .notices, .dirty, .counts] s.ready t ∧
        t.count l.missCounter = oneMore (s.count l.missCounter) ∧
        t.count l.wakeCounter = oneMore (s.count l.wakeCounter) ∧ (t.link l).chainIntact = false ∧
        (t.link l).transaction = none ∧ (t.link l).unit a = some u' ∧ u'.rested = false ∧
        (s.items.faultMode l = .latch → u'.state = .failed ∧ t.notices = s.given (.unitFailed l a .latch .wake)) ∧
        (s.items.faultMode l = .retry → u'.state = .backoff ∧ u'.backoff = some (s.timebase + wait) ∧
          t.notices = s.notices) ∧
        (s.items.faultMode l = .report → u'.state = .active ∧ u'.missCount = 0 ∧ u'.episode = true ∧
          t.notices = (if u.episode then s.notices else s.given (.unitFailed l a .report .wake))) ∧
        ((s.link l).state = .rousing → (∀ v ∈ (s.link l).units, v.rested = true → v.address = a) →
          (t.link l).state = .running))

/-- A re-enumeration that waits starts at the end of the transaction in flight, whatever that end is: the unit table,
the bindings and the queue go, and the reply or the miss acts on nothing but MISS_x, which counts every miss, a FAULT
among them. A free port has chosen its next own access before the event (the model's reading, log 46). Until the
enumeration ends, its outcome stands at not BROKEN (the model's choice, log 49). -/
def Obligations.WaitingReenumerationStartsAtTheEnding : Prop :=
  ∀ (s : State) (l : LinkId) (x : Transaction) (c : Instr), s.bus.resetAsserted = false → s.items.softReset = false →
    (s.link l).transaction = some x → (s.link l).reenumerate = true →
    ((c = .showOk l ∧ ∃ a content, x.purpose = .item ⟨a, .content content⟩) ∨
      (c = .showBusy l ∧ ∃ a content, x.purpose = .item ⟨a, .content content⟩) ∨
      (∃ busy a, c = .probeReply l busy ∧ x.purpose = .item ⟨a, .probe⟩) ∨
      (c = .setLevelSent l ∧ ∃ a code, x.purpose = .item ⟨a, .level code⟩) ∨
      (∃ busy a, c = .backoffProbeReply l busy ∧ x.purpose = .backoffProbe a) ∨
      (∃ busy began a, c = .wakeProbeReply l busy began ∧ x.purpose = .wakeProbe a) ∨
      (∃ w1 w2 w3 w4 n, c = .pageReply l w1 w2 w3 w4 ∧ x.purpose = .basePage n) ∨
      (∃ w1 w2 w3 w4 number n page, c = .pageReply l w1 w2 w3 w4 ∧ x.purpose = .extendedPage number n page) ∨
      (c = .setAddressOk l ∧ ∃ n page, x.purpose = .setAddress n page) ∨
      (∃ code n page, c = .checkProbeReply l code ∧ x.purpose = .checkProbe n page) ∨
      (∃ ending a, c = .unassignedShowEnd l ending ∧ x.purpose = .unassigned a) ∨
      (c = .openChainSent l ∧ x.purpose = .openChain) ∨ (c = .restSent l ∧ x.purpose = .rest) ∨
      (c = .rouseSent l ∧ x.purpose = .rouse) ∨ (c = .replyWindowExpiry l ∧ x.purpose.awaits = true) ∨
      (∃ r, c = .malformedReply l r ∧ x.purpose.awaits = true ∧ wellFormedReply x r = false)) →
    let missed : Prop := c = .replyWindowExpiry l ∨ (∃ r, c = .malformedReply l r) ∨ c = .unassignedShowEnd l .miss ∨
      c = .checkProbeReply l 2 ∨ c = .checkProbeReply l 3
    ∃ t, exec c s = .next t ∧
      t.link l = { Link.reset with
        state := .enumerating, overflow := (s.link l).overflow
        transaction := some ⟨.openChain, 127, [0xFE00#16], s.items.replyWindow, s.timebase⟩ } ∧
      t.res = { s.res with
        seats := s.res.seats.map (fun e =>
          if e.bound.any (fun b => b.link == l) then { e with bound := none } else e) } ∧
      (missed → s.status.counts.length = 20 → ∀ m, t.count m =
        if m = l.missCounter then oneMore (s.count m) else s.count m) ∧
      (¬ missed → t.status.counts = s.status.counts) ∧
      ChangesOnly [.res, .link l, .dirty, .counts] s.ready t

/-! ## The bus -/

/-- An overwrite of a word the controller keeps passes to memory on its byte lanes and is to be restored: a status or
view word is marked dirty, with the clear-pending mark of a clear-on-read word, and the producer index word places one
producer-only access. A producer-only access that the port has chosen, be it at this very write, has begun and waits
no more (the model's reading, log 51). Byte lanes are log 5. -/
def Obligations.OverwrittenWordsAreToBeRestored : Prop :=
  (∀ (b : Beat) (w : ViewWord) (lanes : Lanes) (v : Word) (s : State), s.bus.resetAsserted = false →
    let a := grantAccess b s
    Memory.wf a.mem = true →
    ∃ t, exec (.controllerWordOverwrite b w lanes v) s = .next t ∧ ChangesOnly [.mem, .dirty, .clearPending] a t ∧
      readMem t.mem (a.tapBase + viewOffset w) = mergeLanes (readMem a.mem (a.tapBase + viewOffset w)) v lanes ∧
      (∀ x, x ≠ a.tapBase + viewOffset w → readMem t.mem x = readMem a.mem x) ∧
      (∀ w' : ViewWord, t.isDirty w' = (decide (w' = w) || a.isDirty w')) ∧
      (∀ i, t.status.clearPending.getLsbD i = true ↔ (a.status.clearPending.getLsbD i = true ∨
        (clearOnRead i = true ∧ ∃ h : i < 256, w = .status ⟨i, h⟩)))) ∧
  (∀ (b : Beat) (lanes : Lanes) (v : Word) (s : State), s.bus.resetAsserted = false →
    let a := grantAccess b s
    Memory.wf a.mem = true →
    ∃ t, exec (.producerIndexOverwrite b lanes v) s = .next t ∧ ChangesOnly [.mem, .notices] a t ∧
      readMem t.mem (a.tapBase + 0x900) = mergeLanes (readMem a.mem (a.tapBase + 0x900)) v lanes ∧
      (∀ x, x ≠ a.tapBase + 0x900 → readMem t.mem x = readMem a.mem x) ∧
      t.notices = (if producerWaits a then a.notices
        else { a.notices with accesses := a.notices.accesses ++ [.producerOnly] }))

/-- A clearing read, full with the mark clear and SOFT_RESET at RUN, takes what it returned from a counter, or re-arms
each latch it returned at 0 of a link word, sets the clear-pending mark and marks the word dirty; any other read of
these words only returns what memory holds. That a read of some lanes returns the whole word is the model's choice
(log 52), and a count below the value returned stays at 0 (log 37). -/
def Obligations.ClearingReadTakesWhatItReturns : Prop :=
  ∀ (b : Beat) (lanes : Lanes) (s : State), s.bus.resetAsserted = false →
    let a := grantAccess b s
    (∀ c : Counter, a.status.counts.length = 20 →
      let word := a.tapBase + 0x110 + c.index.val
      let value := readMem a.mem word
      ∃ t, exec (.counterClearingRead b c lanes) s = .next t ∧
        t.bus = { a.bus with readData := value } ∧
        (lanes = 15 → a.status.clearPending.getLsbD (16 + c.index.val) = false → a.items.softReset = false →
          t.count c = a.count c - value.toNat % 65536 ∧ (∀ c', c' ≠ c → t.count c' = a.count c') ∧
          t.status.clearPending = a.status.clearPending ||| (1#64 <<< (16 + c.index.val)) ∧
          (∀ w : ViewWord, t.isDirty w = (decide (w = .status c.word) || a.isDirty w)) ∧
          ChangesOnly [.bus, .dirty, .counts, .clearPending] a t) ∧
        (lanes ≠ 15 ∨ a.status.clearPending.getLsbD (16 + c.index.val) = true ∨ a.items.softReset = true →
          ChangesOnly [.bus] a t)) ∧
    (∀ l : LinkId,
      let value := readMem a.mem (a.tapBase + 0x100 + l.word.val)
      let k := a.link l
      ∃ t, exec (.linkStatusClearingRead b l lanes) s = .next t ∧
        t.bus = { a.bus with readData := value } ∧
        (lanes = 15 → a.status.clearPending.getLsbD l.word.val = false → a.items.softReset = false →
          t.link l = { k with
            chainIntact := if value.getLsbD 4 then k.chainIntact else
              decide ((k.state = .running ∨ k.state = .resting ∨ k.state = .rousing) ∧ k.endedBroken = false)
            overflow := if value.getLsbD 5 then k.overflow else decide (32 ≤ k.queue.length) } ∧
          t.status.clearPending = a.status.clearPending ||| (1#64 <<< l.word.val) ∧
          (∀ w : ViewWord, t.isDirty w = (decide (w = .status l.word) || a.isDirty w)) ∧
          ChangesOnly [.bus, .link l, .dirty, .clearPending] a t) ∧
        (lanes ≠ 15 ∨ a.status.clearPending.getLsbD l.word.val = true ∨ a.items.softReset = true →
          ChangesOnly [.bus] a t))

/-- A write into a guarded window is held back and counts GUARD_BLOCKED: it is not forwarded, it raises no starvation
count, and as a word of a burst it keeps its place in the one cycle of the burst. It begins a burst where it is the first
word; at the count of 16 the own cycle that waits goes before that burst, and nothing goes before a single write held
back. Into an unguarded window a write passes on its byte lanes. The own access that a free port has chosen before the
write (log 46), the own cycle at 16 (log 7), and the burst that begins with a word held back (log 53) are the model's
readings. -/
def Obligations.GuardedWindowHoldsWritesBack : Prop :=
  ∀ (b : Beat) (i : ImageId) (w : Fin 4096) (lanes : Lanes) (v : Word) (s : State), s.bus.resetAsserted = false →
    (guarded s i = true →
      let r := beginOwn s
      (s.port.burst ≠ .closed → b = .middle ∨ b = .last →
        exec (.guardedWrite b i w lanes v) s = .next (bump .guardBlocked { s with
          port := { s.port with burst := if b = .middle then s.port.burst else .closed } })) ∧
      (s.port.burst = .closed ∨ b = .single ∨ b = .first →
        (b = .single ∨ b = .last → exec (.guardedWrite b i w lanes v) s = .next (bump .guardBlocked { r with
          port := { r.port with burst := .closed } })) ∧
        (b = .first ∨ b = .middle → r.port.inProgress = none ∨ s.port.starvation < 16 →
          exec (.guardedWrite b i w lanes v) s = .next (bump .guardBlocked { r with
            port := { r.port with burst := .heldBack } })) ∧
        (b = .first ∨ b = .middle → ∀ o, r.port.inProgress = some o → s.port.starvation = 16 →
          let t := beginOwn (performCycle o { r with port := { r.port with starvation := 0 } })
          exec (.guardedWrite b i w lanes v) s = .next (bump .guardBlocked { t with
            port := { t.port with burst := .heldBack } }) ∧
          t.port.starvation = 0)) ∧
      (s.port.burst = .closed → r.port.inProgress = s.nextAccess)) ∧
    (guarded s i = false →
      let a := grantAccess b s
      let word := a.tapBase + imageWindow i + w.val
      Memory.wf a.mem = true →
      ∃ t, exec (.guardedWrite b i w lanes v) s = .next t ∧ ChangesOnly [.mem] a t ∧
        readMem t.mem word = mergeLanes (readMem a.mem word) v lanes ∧
        (∀ x, x ≠ word → readMem t.mem x = readMem a.mem x)) ∧
    (guarded s i = true ↔ s.items.softReset = false ∧
      ((∃ r, s.route.active = some r ∧ r.image = i) ∨ (∃ st g, s.route.pendingSwitch = .reading i st g) ∨
        (∃ st g copy, s.route.pendingSwitch = .waiting i st g copy) ∨ s.route.previewRead = some i))

/-- A partial write to a captured word passes to memory on its byte lanes, is not captured, and counts TAP_PARTIAL,
but in HOLD for configuration word 0 alone. An access outside the tap region, or to a word of it that no window names,
reaches memory unchanged: a read returns the word, a write replaces the byte lanes it carries. Which lane carries which
byte (log 5), and that a partial read returns the whole word (log 52), are the model's choices. -/
def Obligations.PartialAndOrdinaryAccessesPass : Prop :=
  (∀ (b : Beat) (w : CapturedWord) (lanes : Lanes) (v : Word) (s : State), s.bus.resetAsserted = false → lanes ≠ 15 →
      let a := grantAccess b s
      let word := a.tapBase + capturedOffset w
      Memory.wf a.mem = true → a.status.counts.length = 20 →
      ∃ t, exec (.partialCapturedWrite b w lanes v) s = .next t ∧ ChangesOnly [.mem, .dirty, .counts] a t ∧
        readMem t.mem word = mergeLanes (readMem a.mem word) v lanes ∧
        (∀ x, x ≠ word → readMem t.mem x = readMem a.mem x) ∧
        t.count .tapPartial = (if a.items.softReset = false ∨ w = .config 0 then oneMore (a.count .tapPartial)
          else a.count .tapPartial) ∧
        ∀ c, c ≠ .tapPartial → t.count c = a.count c) ∧
  (∀ (b : Beat) (address : Nat) (lanes : Lanes) (v : Word) (s : State), s.bus.resetAsserted = false →
      let a := grantAccess b s
      (address < s.tapBase ∨ s.tapBase + 65536 ≤ address ∨
        (∃ offset, address = s.tapBase + offset ∧ classifyOffset offset = .plain offset)) →
      Memory.wf a.mem = true →
      exec (.passThroughAccess b (.read address lanes)) s =
        .next { a with bus := { a.bus with readData := readMem a.mem address } } ∧
      ∃ t, exec (.passThroughAccess b (.write address lanes v)) s = .next t ∧ ChangesOnly [.mem] a t ∧
        (∀ i, (readMem t.mem address).getLsbD i =
          if lanes.getLsbD (i / 8) then v.getLsbD i else (readMem a.mem address).getLsbD i) ∧
        (∀ x, x ≠ address → readMem t.mem x = readMem a.mem x))
end

