-- ==== Sys2Proof/Laws/State.lean ====
section
/-! SUPPORT. The updates of the state: for each, the parts it leaves as they are and the value of the part it replaces. -/

namespace Sys2Proof.Machine

/-! ## Ops -/

/-- What `markDirty` leaves as it is. -/
@[simp] theorem markDirty_keeps (w : ViewWord) (s : State) :
    (markDirty w s).pending = s.pending ∧ (markDirty w s).timebase = s.timebase ∧ (markDirty w s).bus = s.bus ∧
    (markDirty w s).mem = s.mem ∧ (markDirty w s).port = s.port ∧ (markDirty w s).items = s.items ∧
    (markDirty w s).request = s.request ∧ (markDirty w s).route = s.route ∧ (markDirty w s).filter = s.filter ∧
    (markDirty w s).tracker = s.tracker ∧ (markDirty w s).res = s.res ∧ (markDirty w s).notices = s.notices ∧
    (markDirty w s).status.counts = s.status.counts ∧ (markDirty w s).status.clearPending = s.status.clearPending ∧
    (∀ m, (markDirty w s).link m = s.link m) := by
  and_intros <;> first | rfl | (intro m; cases m <;> rfl)

/-- What `markMany` leaves as it is. -/
@[simp] theorem markMany_keeps (ws : BitVec 704) (s : State) :
    (markMany ws s).pending = s.pending ∧ (markMany ws s).timebase = s.timebase ∧ (markMany ws s).bus = s.bus ∧
    (markMany ws s).mem = s.mem ∧ (markMany ws s).port = s.port ∧ (markMany ws s).items = s.items ∧
    (markMany ws s).request = s.request ∧ (markMany ws s).route = s.route ∧ (markMany ws s).filter = s.filter ∧
    (markMany ws s).tracker = s.tracker ∧ (markMany ws s).res = s.res ∧ (markMany ws s).notices = s.notices ∧
    (markMany ws s).status.counts = s.status.counts ∧ (markMany ws s).status.clearPending = s.status.clearPending ∧
    (∀ m, (markMany ws s).link m = s.link m) := by
  and_intros <;> first | rfl | (intro m; cases m <;> rfl)

/-- What `markStatus` leaves as it is. -/
@[simp] theorem markStatus_keeps (w : Fin 256) (s : State) :
    (markStatus w s).pending = s.pending ∧ (markStatus w s).timebase = s.timebase ∧ (markStatus w s).bus = s.bus ∧
    (markStatus w s).mem = s.mem ∧ (markStatus w s).port = s.port ∧ (markStatus w s).items = s.items ∧
    (markStatus w s).request = s.request ∧ (markStatus w s).route = s.route ∧ (markStatus w s).filter = s.filter ∧
    (markStatus w s).tracker = s.tracker ∧ (markStatus w s).res = s.res ∧ (markStatus w s).notices = s.notices ∧
    (markStatus w s).status.counts = s.status.counts ∧
    (markStatus w s).status.clearPending = s.status.clearPending ∧ (∀ m, (markStatus w s).link m = s.link m) := by
  and_intros <;> first | rfl | (intro m; cases m <;> rfl)

/-- What `markStatusIf` leaves as it is. -/
@[simp] theorem markStatusIf_keeps (b : Bool) (w : Fin 256) (s : State) :
    (markStatusIf b w s).pending = s.pending ∧ (markStatusIf b w s).timebase = s.timebase ∧
    (markStatusIf b w s).bus = s.bus ∧ (markStatusIf b w s).mem = s.mem ∧ (markStatusIf b w s).port = s.port ∧
    (markStatusIf b w s).items = s.items ∧ (markStatusIf b w s).request = s.request ∧
    (markStatusIf b w s).route = s.route ∧ (markStatusIf b w s).filter = s.filter ∧
    (markStatusIf b w s).tracker = s.tracker ∧ (markStatusIf b w s).res = s.res ∧
    (markStatusIf b w s).notices = s.notices ∧ (markStatusIf b w s).status.counts = s.status.counts ∧
    (markStatusIf b w s).status.clearPending = s.status.clearPending ∧
    (∀ m, (markStatusIf b w s).link m = s.link m) := by
  unfold markStatusIf; try dsimp only
  all_goals (repeat' split) <;> simp

/-- What `setCount` leaves as it is. -/
@[simp] theorem setCount_keeps (c : Counter) (n : Nat) (s : State) :
    (setCount c n s).pending = s.pending ∧ (setCount c n s).timebase = s.timebase ∧ (setCount c n s).bus = s.bus ∧
    (setCount c n s).mem = s.mem ∧ (setCount c n s).port = s.port ∧ (setCount c n s).items = s.items ∧
    (setCount c n s).request = s.request ∧ (setCount c n s).route = s.route ∧ (setCount c n s).filter = s.filter ∧
    (setCount c n s).tracker = s.tracker ∧ (setCount c n s).res = s.res ∧ (setCount c n s).notices = s.notices ∧
    (setCount c n s).status.dirty = s.status.dirty ∧ (setCount c n s).status.clearPending = s.status.clearPending ∧
    (∀ m, (setCount c n s).link m = s.link m) := by
  and_intros <;> first | rfl | (intro m; cases m <;> rfl)

/-- What `bump` leaves as it is. -/
@[simp] theorem bump_keeps (c : Counter) (s : State) :
    (bump c s).pending = s.pending ∧ (bump c s).timebase = s.timebase ∧ (bump c s).bus = s.bus ∧
    (bump c s).mem = s.mem ∧ (bump c s).port = s.port ∧ (bump c s).items = s.items ∧
    (bump c s).request = s.request ∧ (bump c s).route = s.route ∧ (bump c s).filter = s.filter ∧
    (bump c s).tracker = s.tracker ∧ (bump c s).res = s.res ∧ (bump c s).notices = s.notices ∧
    (bump c s).status.clearPending = s.status.clearPending ∧ (∀ m, (bump c s).link m = s.link m) := by
  unfold bump; try dsimp only
  all_goals (repeat' split) <;> simp

/-- What `setTimebase` leaves as it is. -/
@[simp] theorem setTimebase_keeps (t : Time) (s : State) :
    (setTimebase t s).pending = s.pending ∧ (setTimebase t s).bus = s.bus ∧ (setTimebase t s).mem = s.mem ∧
    (setTimebase t s).port = s.port ∧ (setTimebase t s).items = s.items ∧ (setTimebase t s).request = s.request ∧
    (setTimebase t s).route = s.route ∧ (setTimebase t s).filter = s.filter ∧
    (setTimebase t s).tracker = s.tracker ∧ (setTimebase t s).res = s.res ∧ (setTimebase t s).notices = s.notices ∧
    (setTimebase t s).status.counts = s.status.counts ∧
    (setTimebase t s).status.clearPending = s.status.clearPending ∧ (∀ m, (setTimebase t s).link m = s.link m) := by
  unfold setTimebase; simp; and_intros <;> first | rfl | (intro m; cases m <;> rfl)

/-- What `advanceTo` leaves as it is. -/
@[simp] theorem advanceTo_keeps (t : Time) (s : State) :
    (advanceTo t s).pending = s.pending ∧ (advanceTo t s).bus = s.bus ∧ (advanceTo t s).mem = s.mem ∧
    (advanceTo t s).port = s.port ∧ (advanceTo t s).items = s.items ∧ (advanceTo t s).request = s.request ∧
    (advanceTo t s).route = s.route ∧ (advanceTo t s).filter = s.filter ∧ (advanceTo t s).tracker = s.tracker ∧
    (advanceTo t s).res = s.res ∧ (advanceTo t s).notices = s.notices ∧
    (advanceTo t s).status.counts = s.status.counts ∧ (advanceTo t s).status.clearPending = s.status.clearPending ∧
    (∀ m, (advanceTo t s).link m = s.link m) := by
  unfold advanceTo; try dsimp only
  all_goals (repeat' split) <;> simp

/-- What `raise` leaves as it is. -/
@[simp] theorem raise_keeps (n : Notice) (s : State) :
    (raise n s).pending = s.pending ∧ (raise n s).timebase = s.timebase ∧ (raise n s).bus = s.bus ∧
    (raise n s).mem = s.mem ∧ (raise n s).port = s.port ∧ (raise n s).items = s.items ∧
    (raise n s).request = s.request ∧ (raise n s).route = s.route ∧ (raise n s).filter = s.filter ∧
    (raise n s).tracker = s.tracker ∧ (raise n s).res = s.res ∧
    (raise n s).status.clearPending = s.status.clearPending ∧ (∀ m, (raise n s).link m = s.link m) := by
  unfold raise; (repeat' split) <;> simp <;> and_intros <;> first | rfl | (intro m; cases m <;> rfl)

/-- What `raiseIf` leaves as it is. -/
@[simp] theorem raiseIf_keeps (b : Bool) (n : Notice) (s : State) :
    (raiseIf b n s).pending = s.pending ∧ (raiseIf b n s).timebase = s.timebase ∧ (raiseIf b n s).bus = s.bus ∧
    (raiseIf b n s).mem = s.mem ∧ (raiseIf b n s).port = s.port ∧ (raiseIf b n s).items = s.items ∧
    (raiseIf b n s).request = s.request ∧ (raiseIf b n s).route = s.route ∧ (raiseIf b n s).filter = s.filter ∧
    (raiseIf b n s).tracker = s.tracker ∧ (raiseIf b n s).res = s.res ∧
    (raiseIf b n s).status.clearPending = s.status.clearPending ∧ (∀ m, (raiseIf b n s).link m = s.link m) := by
  unfold raiseIf; try dsimp only
  all_goals (repeat' split) <;> simp

/-- What `raiseSome` leaves as it is. -/
@[simp] theorem raiseSome_keeps (n : Option Notice) (s : State) :
    (raiseSome n s).pending = s.pending ∧ (raiseSome n s).timebase = s.timebase ∧ (raiseSome n s).bus = s.bus ∧
    (raiseSome n s).mem = s.mem ∧ (raiseSome n s).port = s.port ∧ (raiseSome n s).items = s.items ∧
    (raiseSome n s).request = s.request ∧ (raiseSome n s).route = s.route ∧ (raiseSome n s).filter = s.filter ∧
    (raiseSome n s).tracker = s.tracker ∧ (raiseSome n s).res = s.res ∧
    (raiseSome n s).status.clearPending = s.status.clearPending ∧ (∀ m, (raiseSome n s).link m = s.link m) := by
  unfold raiseSome; try dsimp only
  all_goals (repeat' split) <;> simp

/-- What `writeWord` leaves as it is. -/
@[simp] theorem writeWord_keeps (a : Nat) (v : Word) (s : State) :
    (State.writeWord s a v).pending = s.pending ∧ (State.writeWord s a v).timebase = s.timebase ∧
    (State.writeWord s a v).bus = s.bus ∧ (State.writeWord s a v).port = s.port ∧
    (State.writeWord s a v).items = s.items ∧ (State.writeWord s a v).request = s.request ∧
    (State.writeWord s a v).route = s.route ∧ (State.writeWord s a v).filter = s.filter ∧
    (State.writeWord s a v).tracker = s.tracker ∧ (State.writeWord s a v).res = s.res ∧
    (State.writeWord s a v).notices = s.notices ∧ (State.writeWord s a v).status.dirty = s.status.dirty ∧
    (State.writeWord s a v).status.counts = s.status.counts ∧
    (State.writeWord s a v).status.clearPending = s.status.clearPending ∧
    (∀ m, (State.writeWord s a v).link m = s.link m) := by
  and_intros <;> first | rfl | (intro m; cases m <;> rfl)

/-- What `writeTap` leaves as it is. -/
@[simp] theorem writeTap_keeps (o : Nat) (v : Word) (s : State) :
    (State.writeTap s o v).pending = s.pending ∧ (State.writeTap s o v).timebase = s.timebase ∧
    (State.writeTap s o v).bus = s.bus ∧ (State.writeTap s o v).port = s.port ∧
    (State.writeTap s o v).items = s.items ∧ (State.writeTap s o v).request = s.request ∧
    (State.writeTap s o v).route = s.route ∧ (State.writeTap s o v).filter = s.filter ∧
    (State.writeTap s o v).tracker = s.tracker ∧ (State.writeTap s o v).res = s.res ∧
    (State.writeTap s o v).notices = s.notices ∧ (State.writeTap s o v).status.dirty = s.status.dirty ∧
    (State.writeTap s o v).status.counts = s.status.counts ∧
    (State.writeTap s o v).status.clearPending = s.status.clearPending ∧
    (∀ m, (State.writeTap s o v).link m = s.link m) := by
  and_intros <;> first | rfl | (intro m; cases m <;> rfl)

/-- What `putLink` leaves as it is. -/
@[simp] theorem putLink_keeps (l : LinkId) (k : Link) (s : State) :
    (State.putLink s l k).pending = s.pending ∧ (State.putLink s l k).timebase = s.timebase ∧
    (State.putLink s l k).bus = s.bus ∧ (State.putLink s l k).mem = s.mem ∧ (State.putLink s l k).port = s.port ∧
    (State.putLink s l k).items = s.items ∧ (State.putLink s l k).request = s.request ∧
    (State.putLink s l k).route = s.route ∧ (State.putLink s l k).filter = s.filter ∧
    (State.putLink s l k).tracker = s.tracker ∧ (State.putLink s l k).res = s.res ∧
    (State.putLink s l k).notices = s.notices ∧ (State.putLink s l k).status.dirty = s.status.dirty ∧
    (State.putLink s l k).status.counts = s.status.counts ∧
    (State.putLink s l k).status.clearPending = s.status.clearPending := by
  cases l <;> and_intros <;> rfl

/-- `putLink` leaves the other links alone. -/
@[simp] theorem putLink_other (l : LinkId) (k : Link) (s : State) (m : LinkId) (h : m ≠ l) :
    (State.putLink s l k).link m = s.link m := by
  cases l <;> cases m <;> simp_all [State.putLink, State.link]

/-- The link replaced is the one given. -/
@[simp] theorem putLink_self (l : LinkId) (k : Link) (s : State) : (s.putLink l k).link l = k := by cases l <;> rfl

/-- What `setLink` leaves as it is. -/
@[simp] theorem setLink_keeps (l : LinkId) (k : Link) (s : State) :
    (setLink l k s).pending = s.pending ∧ (setLink l k s).timebase = s.timebase ∧ (setLink l k s).bus = s.bus ∧
    (setLink l k s).mem = s.mem ∧ (setLink l k s).port = s.port ∧ (setLink l k s).items = s.items ∧
    (setLink l k s).request = s.request ∧ (setLink l k s).route = s.route ∧ (setLink l k s).filter = s.filter ∧
    (setLink l k s).tracker = s.tracker ∧ (setLink l k s).res = s.res ∧ (setLink l k s).notices = s.notices ∧
    (setLink l k s).status.counts = s.status.counts ∧
    (setLink l k s).status.clearPending = s.status.clearPending := by
  unfold setLink; try dsimp only
  all_goals (repeat' split) <;> simp

/-- `setLink` leaves the other links alone. -/
@[simp] theorem setLink_other (l : LinkId) (k : Link) (s : State) (m : LinkId) (h : m ≠ l) :
    (setLink l k s).link m = s.link m := by
  unfold setLink; try dsimp only
  all_goals (repeat' split) <;> simp [h]

/-- The link replaced is the one given. -/
@[simp] theorem setLink_self (l : LinkId) (k : Link) (s : State) : (setLink l k s).link l = k := by
  unfold setLink; simp

/-- What `onLink` leaves as it is. -/
@[simp] theorem onLink_keeps (l : LinkId) (f : Link → Link) (s : State) :
    (onLink l f s).pending = s.pending ∧ (onLink l f s).timebase = s.timebase ∧ (onLink l f s).bus = s.bus ∧
    (onLink l f s).mem = s.mem ∧ (onLink l f s).port = s.port ∧ (onLink l f s).items = s.items ∧
    (onLink l f s).request = s.request ∧ (onLink l f s).route = s.route ∧ (onLink l f s).filter = s.filter ∧
    (onLink l f s).tracker = s.tracker ∧ (onLink l f s).res = s.res ∧ (onLink l f s).notices = s.notices ∧
    (onLink l f s).status.counts = s.status.counts ∧
    (onLink l f s).status.clearPending = s.status.clearPending := by
  unfold onLink; try dsimp only
  all_goals (repeat' split) <;> simp

/-- `onLink` leaves the other links alone. -/
@[simp] theorem onLink_other (l : LinkId) (f : Link → Link) (s : State) (m : LinkId) (h : m ≠ l) :
    (onLink l f s).link m = s.link m := by
  unfold onLink; try dsimp only
  all_goals (repeat' split) <;> simp [h]

/-- The link changed is the function of itself. -/
@[simp] theorem onLink_self (l : LinkId) (f : Link → Link) (s : State) : (onLink l f s).link l = f (s.link l) := by
  unfold onLink; simp

/-- What `setLinkUnits` leaves as it is. -/
@[simp] theorem setLinkUnits_keeps (l : LinkId) (k : Link) (s : State) :
    (setLinkUnits l k s).pending = s.pending ∧ (setLinkUnits l k s).timebase = s.timebase ∧
    (setLinkUnits l k s).bus = s.bus ∧ (setLinkUnits l k s).mem = s.mem ∧ (setLinkUnits l k s).port = s.port ∧
    (setLinkUnits l k s).items = s.items ∧ (setLinkUnits l k s).request = s.request ∧
    (setLinkUnits l k s).route = s.route ∧ (setLinkUnits l k s).filter = s.filter ∧
    (setLinkUnits l k s).tracker = s.tracker ∧ (setLinkUnits l k s).res = s.res ∧
    (setLinkUnits l k s).notices = s.notices ∧ (setLinkUnits l k s).status.counts = s.status.counts ∧
    (setLinkUnits l k s).status.clearPending = s.status.clearPending := by
  unfold setLinkUnits; try dsimp only
  all_goals (repeat' split) <;> simp

/-- `setLinkUnits` leaves the other links alone. -/
@[simp] theorem setLinkUnits_other (l : LinkId) (k : Link) (s : State) (m : LinkId) (h : m ≠ l) :
    (setLinkUnits l k s).link m = s.link m := by
  unfold setLinkUnits; try dsimp only
  all_goals (repeat' split) <;> simp [h]

/-- The link replaced is the one given. -/
@[simp] theorem setLinkUnits_self (l : LinkId) (k : Link) (s : State) : (setLinkUnits l k s).link l = k := by
  unfold setLinkUnits; simp

/-- What `updateUnit` leaves as it is. -/
@[simp] theorem updateUnit_keeps (l : LinkId) (a : Nat) (f : UnitEntry → UnitEntry) (s : State) :
    (updateUnit l a f s).pending = s.pending ∧ (updateUnit l a f s).timebase = s.timebase ∧
    (updateUnit l a f s).bus = s.bus ∧ (updateUnit l a f s).mem = s.mem ∧ (updateUnit l a f s).port = s.port ∧
    (updateUnit l a f s).items = s.items ∧ (updateUnit l a f s).request = s.request ∧
    (updateUnit l a f s).route = s.route ∧ (updateUnit l a f s).filter = s.filter ∧
    (updateUnit l a f s).tracker = s.tracker ∧ (updateUnit l a f s).res = s.res ∧
    (updateUnit l a f s).notices = s.notices ∧ (updateUnit l a f s).status.counts = s.status.counts ∧
    (updateUnit l a f s).status.clearPending = s.status.clearPending := by
  unfold updateUnit; try dsimp only
  all_goals (repeat' split) <;> simp

/-- `updateUnit` leaves the other links alone. -/
@[simp] theorem updateUnit_other (l : LinkId) (a : Nat) (f : UnitEntry → UnitEntry) (s : State) (m : LinkId) (h : m ≠ l) :
    (updateUnit l a f s).link m = s.link m := by
  unfold updateUnit; try dsimp only
  all_goals (repeat' split) <;> simp [h]

/-- The link of a changed unit is the link with that unit changed. -/
@[simp] theorem updateUnit_self (l : LinkId) (a : Nat) (f : UnitEntry → UnitEntry) (s : State) :
    (updateUnit l a f s).link l = (s.link l).mapUnit a f := by
  unfold updateUnit; simp

/-- What `setSeat` leaves as it is. -/
@[simp] theorem setSeat_keeps (n : Nat) (x : SeatEntry) (s : State) :
    (setSeat n x s).pending = s.pending ∧ (setSeat n x s).timebase = s.timebase ∧ (setSeat n x s).bus = s.bus ∧
    (setSeat n x s).mem = s.mem ∧ (setSeat n x s).port = s.port ∧ (setSeat n x s).items = s.items ∧
    (setSeat n x s).request = s.request ∧ (setSeat n x s).route = s.route ∧ (setSeat n x s).filter = s.filter ∧
    (setSeat n x s).tracker = s.tracker ∧ (setSeat n x s).notices = s.notices ∧
    (setSeat n x s).status.counts = s.status.counts ∧ (setSeat n x s).status.clearPending = s.status.clearPending ∧
    (∀ m, (setSeat n x s).link m = s.link m) := by
  unfold setSeat; (repeat' split) <;> simp <;> and_intros <;> first | rfl | (intro m; cases m <;> rfl)

/-- What `markSummary` leaves as it is. -/
@[simp] theorem markSummary_keeps (b : Reservations) (s : State) :
    (markSummary b s).pending = s.pending ∧ (markSummary b s).timebase = s.timebase ∧
    (markSummary b s).bus = s.bus ∧ (markSummary b s).mem = s.mem ∧ (markSummary b s).port = s.port ∧
    (markSummary b s).items = s.items ∧ (markSummary b s).request = s.request ∧ (markSummary b s).route = s.route ∧
    (markSummary b s).filter = s.filter ∧ (markSummary b s).tracker = s.tracker ∧ (markSummary b s).res = s.res ∧
    (markSummary b s).notices = s.notices ∧ (markSummary b s).status.counts = s.status.counts ∧
    (markSummary b s).status.clearPending = s.status.clearPending ∧ (∀ m, (markSummary b s).link m = s.link m) := by
  unfold markSummary; try dsimp only
  all_goals (repeat' split) <;> simp

/-- What `setReleaseList` leaves as it is. -/
@[simp] theorem setReleaseList_keeps (rs : List ReleaseEntry) (s : State) :
    (setReleaseList rs s).pending = s.pending ∧ (setReleaseList rs s).timebase = s.timebase ∧
    (setReleaseList rs s).bus = s.bus ∧ (setReleaseList rs s).mem = s.mem ∧ (setReleaseList rs s).port = s.port ∧
    (setReleaseList rs s).items = s.items ∧ (setReleaseList rs s).request = s.request ∧
    (setReleaseList rs s).route = s.route ∧ (setReleaseList rs s).filter = s.filter ∧
    (setReleaseList rs s).tracker = s.tracker ∧ (setReleaseList rs s).notices = s.notices ∧
    (setReleaseList rs s).status.counts = s.status.counts ∧
    (setReleaseList rs s).status.clearPending = s.status.clearPending ∧
    (∀ m, (setReleaseList rs s).link m = s.link m) := by
  unfold setReleaseList; simp; and_intros <;> first | rfl | (intro m; cases m <;> rfl)

/-- What `answer` leaves as it is. -/
@[simp] theorem answer_keeps (tag : Byte) (kind : RequestKind) (code : ResultCode) (reason : Option InvalidReason) (s : State) :
    (answer tag kind code reason s).pending = s.pending ∧ (answer tag kind code reason s).timebase = s.timebase ∧
    (answer tag kind code reason s).bus = s.bus ∧ (answer tag kind code reason s).mem = s.mem ∧
    (answer tag kind code reason s).port = s.port ∧ (answer tag kind code reason s).items = s.items ∧
    (answer tag kind code reason s).route = s.route ∧ (answer tag kind code reason s).filter = s.filter ∧
    (answer tag kind code reason s).tracker = s.tracker ∧ (answer tag kind code reason s).res = s.res ∧
    (answer tag kind code reason s).notices = s.notices ∧
    (answer tag kind code reason s).status.counts = s.status.counts ∧
    (answer tag kind code reason s).status.clearPending = s.status.clearPending ∧
    (∀ m, (answer tag kind code reason s).link m = s.link m) := by
  unfold answer; simp; and_intros <;> first | rfl | (intro m; cases m <;> rfl)

/-- What `setRoute` leaves as it is. -/
@[simp] theorem setRoute_keeps (r : Route) (s : State) :
    (setRoute r s).pending = s.pending ∧ (setRoute r s).timebase = s.timebase ∧ (setRoute r s).bus = s.bus ∧
    (setRoute r s).mem = s.mem ∧ (setRoute r s).port = s.port ∧ (setRoute r s).items = s.items ∧
    (setRoute r s).request = s.request ∧ (setRoute r s).filter = s.filter ∧ (setRoute r s).tracker = s.tracker ∧
    (setRoute r s).res = s.res ∧ (setRoute r s).notices = s.notices ∧
    (setRoute r s).status.counts = s.status.counts ∧ (setRoute r s).status.clearPending = s.status.clearPending ∧
    (∀ m, (setRoute r s).link m = s.link m) := by
  unfold setRoute; simp; and_intros <;> first | rfl | (intro m; cases m <;> rfl)

/-- The route engine replaced is the one given. -/
@[simp] theorem setRoute_route (r : Route) (s : State) : (setRoute r s).route = r := by unfold setRoute; simp

/-- What `setFilter` leaves as it is. -/
@[simp] theorem setFilter_keeps (f : Filter) (s : State) :
    (setFilter f s).pending = s.pending ∧ (setFilter f s).timebase = s.timebase ∧ (setFilter f s).bus = s.bus ∧
    (setFilter f s).mem = s.mem ∧ (setFilter f s).port = s.port ∧ (setFilter f s).items = s.items ∧
    (setFilter f s).request = s.request ∧ (setFilter f s).route = s.route ∧ (setFilter f s).tracker = s.tracker ∧
    (setFilter f s).res = s.res ∧ (setFilter f s).notices = s.notices ∧
    (setFilter f s).status.counts = s.status.counts ∧ (setFilter f s).status.clearPending = s.status.clearPending ∧
    (∀ m, (setFilter f s).link m = s.link m) := by
  unfold setFilter; simp; and_intros <;> first | rfl | (intro m; cases m <;> rfl)

/-- The filter replaced is the one given. -/
@[simp] theorem setFilter_filter (f : Filter) (s : State) : (setFilter f s).filter = f := by unfold setFilter; simp

/-- What `setTracker` leaves as it is. -/
@[simp] theorem setTracker_keeps (t : Tracker) (s : State) :
    (setTracker t s).pending = s.pending ∧ (setTracker t s).timebase = s.timebase ∧ (setTracker t s).bus = s.bus ∧
    (setTracker t s).mem = s.mem ∧ (setTracker t s).port = s.port ∧ (setTracker t s).items = s.items ∧
    (setTracker t s).request = s.request ∧ (setTracker t s).route = s.route ∧ (setTracker t s).filter = s.filter ∧
    (setTracker t s).res = s.res ∧ (setTracker t s).notices = s.notices ∧
    (setTracker t s).status.counts = s.status.counts ∧
    (setTracker t s).status.clearPending = s.status.clearPending ∧ (∀ m, (setTracker t s).link m = s.link m) := by
  unfold setTracker; simp; and_intros <;> first | rfl | (intro m; cases m <;> rfl)

/-- The tracker replaced is the one given. -/
@[simp] theorem setTracker_tracker (t : Tracker) (s : State) : (setTracker t s).tracker = t := by unfold setTracker; simp

/-! ## Values -/

/-- Memory after a word is written. -/
@[simp] theorem writeWord_mem (a : Nat) (v : Word) (s : State) : (s.writeWord a v).mem = writeMem s.mem a v := rfl

/-- Memory after a word of the tap region is written. -/
@[simp] theorem writeTap_mem (o : Nat) (v : Word) (s : State) : (s.writeTap o v).mem = writeMem s.mem (s.tapBase + o) v :=
  rfl

/-- The timebase set. -/
@[simp] theorem setTimebase_timebase (t : Time) (s : State) : (setTimebase t s).timebase = t := by
  unfold setTimebase; simp

/-- The dirty set after a mark. -/
@[simp] theorem markMany_dirty (ws : BitVec 704) (s : State) :
    (markMany ws s).status.dirty = s.status.dirty ||| ws := rfl

/-- The dirty set after the mark of one word. -/
@[simp] theorem markDirty_dirty (w : ViewWord) (s : State) :
    (markDirty w s).status.dirty = s.status.dirty ||| dirtyBit w := rfl

/-- A counter set. -/
theorem setCount_self (c : Counter) (n : Nat) (s : State) (h : c.index < s.status.counts.length) :
    (setCount c n s).count c = n := by
  simp [setCount, State.count, h]

/-- Every other counter keeps its value. -/
theorem setCount_other (c d : Counter) (h : d.index ≠ c.index) (n : Nat) (s : State) :
    (setCount c n s).count d = s.count d := by
  have hi : (c.index : Nat) ≠ d.index := fun e => h (Fin.ext e.symm)
  simp [setCount, State.count, List.getElem?_set, hi]

end Sys2Proof.Machine
end

