-- ==== Sys2Proof/Laws/Keeps.lean ====
section
/-! SUPPORT. What each operation leaves as it is: one lemma per operation, its conjuncts the parts it does not touch. -/

namespace Sys2Proof.Machine

/-! ## Composer -/

/-- What `sweepLink` leaves as it is. -/
@[simp] theorem sweepLink_keeps (l : LinkId) (s : State) :
    (sweepLink l s).pending = s.pending ∧ (sweepLink l s).timebase = s.timebase ∧ (sweepLink l s).bus = s.bus ∧
    (sweepLink l s).mem = s.mem ∧ (sweepLink l s).port = s.port ∧ (sweepLink l s).items = s.items ∧
    (sweepLink l s).request = s.request ∧ (sweepLink l s).route = s.route ∧ (sweepLink l s).filter = s.filter ∧
    (sweepLink l s).tracker = s.tracker ∧ (sweepLink l s).res = s.res ∧ (sweepLink l s).notices = s.notices ∧
    (sweepLink l s).status.counts = s.status.counts ∧
    (sweepLink l s).status.clearPending = s.status.clearPending := by
  unfold sweepLink; try dsimp only
  all_goals (repeat' split) <;> simp

/-- `sweepLink` leaves the other links alone. -/
@[simp] theorem sweepLink_other (l : LinkId) (s : State) (m : LinkId) (h : m ≠ l) :
    (sweepLink l s).link m = s.link m := by
  unfold sweepLink; try dsimp only
  all_goals (repeat' split) <;> simp [h]

/-- The link swept. -/
@[simp] theorem sweepLink_self (l : LinkId) (s : State) : (sweepLink l s).link l = (s.link l).sweep (s.supply l) := by
  unfold sweepLink; simp

/-- What `sweepAfterRemoval` leaves as it is. -/
@[simp] theorem sweepAfterRemoval_keeps (l : LinkId) (n : Nat) (s : State) :
    (sweepAfterRemoval l n s).pending = s.pending ∧ (sweepAfterRemoval l n s).timebase = s.timebase ∧
    (sweepAfterRemoval l n s).bus = s.bus ∧ (sweepAfterRemoval l n s).mem = s.mem ∧
    (sweepAfterRemoval l n s).port = s.port ∧ (sweepAfterRemoval l n s).items = s.items ∧
    (sweepAfterRemoval l n s).request = s.request ∧ (sweepAfterRemoval l n s).route = s.route ∧
    (sweepAfterRemoval l n s).filter = s.filter ∧ (sweepAfterRemoval l n s).tracker = s.tracker ∧
    (sweepAfterRemoval l n s).res = s.res ∧ (sweepAfterRemoval l n s).notices = s.notices ∧
    (sweepAfterRemoval l n s).status.counts = s.status.counts ∧
    (sweepAfterRemoval l n s).status.clearPending = s.status.clearPending := by
  unfold sweepAfterRemoval; try dsimp only
  all_goals (repeat' split) <;> simp

/-- `sweepAfterRemoval` leaves the other links alone. -/
@[simp] theorem sweepAfterRemoval_other (l : LinkId) (n : Nat) (s : State) (m : LinkId) (h : m ≠ l) :
    (sweepAfterRemoval l n s).link m = s.link m := by
  unfold sweepAfterRemoval; try dsimp only
  all_goals (repeat' split) <;> simp [h]

/-- What `offerItem` leaves as it is. -/
@[simp] theorem offerItem_keeps (l : LinkId) (x : Item) (s : State) :
    (offerItem l x s).pending = s.pending ∧ (offerItem l x s).timebase = s.timebase ∧
    (offerItem l x s).bus = s.bus ∧ (offerItem l x s).mem = s.mem ∧ (offerItem l x s).port = s.port ∧
    (offerItem l x s).items = s.items ∧ (offerItem l x s).request = s.request ∧ (offerItem l x s).route = s.route ∧
    (offerItem l x s).filter = s.filter ∧ (offerItem l x s).tracker = s.tracker ∧ (offerItem l x s).res = s.res ∧
    (offerItem l x s).notices = s.notices ∧ (offerItem l x s).status.counts = s.status.counts ∧
    (offerItem l x s).status.clearPending = s.status.clearPending := by
  unfold offerItem; try dsimp only
  all_goals (repeat' split) <;> simp

/-- `offerItem` leaves the other links alone. -/
@[simp] theorem offerItem_other (l : LinkId) (x : Item) (s : State) (m : LinkId) (h : m ≠ l) :
    (offerItem l x s).link m = s.link m := by
  unfold offerItem; try dsimp only
  all_goals (repeat' split) <;> simp [h]

/-- The link an item is offered to. -/
@[simp] theorem offerItem_self (l : LinkId) (x : Item) (s : State) :
    (offerItem l x s).link l = (s.link l).offer s.items.queueNearFull x := by
  unfold offerItem; simp

/-- What `withdrawItem` leaves as it is. -/
@[simp] theorem withdrawItem_keeps (l : LinkId) (x : Item) (s : State) :
    (withdrawItem l x s).pending = s.pending ∧ (withdrawItem l x s).timebase = s.timebase ∧
    (withdrawItem l x s).bus = s.bus ∧ (withdrawItem l x s).mem = s.mem ∧ (withdrawItem l x s).port = s.port ∧
    (withdrawItem l x s).items = s.items ∧ (withdrawItem l x s).request = s.request ∧
    (withdrawItem l x s).route = s.route ∧ (withdrawItem l x s).filter = s.filter ∧
    (withdrawItem l x s).tracker = s.tracker ∧ (withdrawItem l x s).res = s.res ∧
    (withdrawItem l x s).notices = s.notices ∧ (withdrawItem l x s).status.counts = s.status.counts ∧
    (withdrawItem l x s).status.clearPending = s.status.clearPending := by
  unfold withdrawItem; try dsimp only
  all_goals (repeat' split) <;> simp

/-- `withdrawItem` leaves the other links alone. -/
@[simp] theorem withdrawItem_other (l : LinkId) (x : Item) (s : State) (m : LinkId) (h : m ≠ l) :
    (withdrawItem l x s).link m = s.link m := by
  unfold withdrawItem; try dsimp only
  all_goals (repeat' split) <;> simp [h]

/-- What `judgeTarget` leaves as it is. -/
@[simp] theorem judgeTarget_keeps (l : LinkId) (x : Nat × ContentKind) (s : State) :
    (judgeTarget l s x).pending = s.pending ∧ (judgeTarget l s x).timebase = s.timebase ∧
    (judgeTarget l s x).bus = s.bus ∧ (judgeTarget l s x).mem = s.mem ∧ (judgeTarget l s x).port = s.port ∧
    (judgeTarget l s x).items = s.items ∧ (judgeTarget l s x).request = s.request ∧
    (judgeTarget l s x).route = s.route ∧ (judgeTarget l s x).filter = s.filter ∧
    (judgeTarget l s x).tracker = s.tracker ∧ (judgeTarget l s x).res = s.res ∧
    (judgeTarget l s x).notices = s.notices ∧ (judgeTarget l s x).status.counts = s.status.counts ∧
    (judgeTarget l s x).status.clearPending = s.status.clearPending := by
  unfold judgeTarget; try dsimp only
  all_goals (repeat' split) <;> simp

/-- `judgeTarget` leaves the other links alone. -/
@[simp] theorem judgeTarget_other (l : LinkId) (x : Nat × ContentKind) (s : State) (m : LinkId) (h : m ≠ l) :
    (judgeTarget l s x).link m = s.link m := by
  unfold judgeTarget; try dsimp only
  all_goals (repeat' split) <;> simp [h]

/-- What `judgeLevel` leaves as it is. -/
@[simp] theorem judgeLevel_keeps (l : LinkId) (s : State) :
    (judgeLevel s l).pending = s.pending ∧ (judgeLevel s l).timebase = s.timebase ∧ (judgeLevel s l).bus = s.bus ∧
    (judgeLevel s l).mem = s.mem ∧ (judgeLevel s l).port = s.port ∧ (judgeLevel s l).items = s.items ∧
    (judgeLevel s l).request = s.request ∧ (judgeLevel s l).route = s.route ∧ (judgeLevel s l).filter = s.filter ∧
    (judgeLevel s l).tracker = s.tracker ∧ (judgeLevel s l).res = s.res ∧ (judgeLevel s l).notices = s.notices ∧
    (judgeLevel s l).status.counts = s.status.counts ∧
    (judgeLevel s l).status.clearPending = s.status.clearPending := by
  unfold judgeLevel; try dsimp only
  all_goals (repeat' split) <;> simp

/-- `judgeLevel` leaves the other links alone. -/
@[simp] theorem judgeLevel_other (l : LinkId) (s : State) (m : LinkId) (h : m ≠ l) :
    (judgeLevel s l).link m = s.link m := by
  unfold judgeLevel; try dsimp only
  all_goals (repeat' split) <;> simp [h]

/-- What `composePanels` leaves as it is. -/
@[simp] theorem composePanels_keeps (s : State) :
    (composePanels s).pending = s.pending ∧ (composePanels s).timebase = s.timebase ∧
    (composePanels s).bus = s.bus ∧ (composePanels s).mem = s.mem ∧ (composePanels s).port = s.port ∧
    (composePanels s).items = s.items ∧ (composePanels s).request = s.request ∧ (composePanels s).route = s.route ∧
    (composePanels s).filter = s.filter ∧ (composePanels s).tracker = s.tracker ∧ (composePanels s).res = s.res ∧
    (composePanels s).notices = s.notices ∧ (composePanels s).status.counts = s.status.counts ∧
    (composePanels s).status.clearPending = s.status.clearPending ∧ (composePanels s).link .a = s.link .a ∧
    (composePanels s).link .b = s.link .b := by
  unfold composePanels
  generalize (s.link .p).units.flatMap _ = xs
  induction xs generalizing s with
  | nil => simp
  | cons x xs ih => simp [ih]

/-- What `composePanelsIf` leaves as it is. -/
@[simp] theorem composePanelsIf_keeps (b : Bool) (s : State) :
    (composePanelsIf b s).pending = s.pending ∧ (composePanelsIf b s).timebase = s.timebase ∧
    (composePanelsIf b s).bus = s.bus ∧ (composePanelsIf b s).mem = s.mem ∧ (composePanelsIf b s).port = s.port ∧
    (composePanelsIf b s).items = s.items ∧ (composePanelsIf b s).request = s.request ∧
    (composePanelsIf b s).route = s.route ∧ (composePanelsIf b s).filter = s.filter ∧
    (composePanelsIf b s).tracker = s.tracker ∧ (composePanelsIf b s).res = s.res ∧
    (composePanelsIf b s).notices = s.notices ∧ (composePanelsIf b s).status.counts = s.status.counts ∧
    (composePanelsIf b s).status.clearPending = s.status.clearPending ∧ (composePanelsIf b s).link .a = s.link .a ∧
    (composePanelsIf b s).link .b = s.link .b := by
  unfold composePanelsIf; try dsimp only
  all_goals (repeat' split) <;> simp

/-- What `composeSeat` leaves as it is. -/
@[simp] theorem composeSeat_keeps (n : Nat) (s : State) :
    (composeSeat s n).pending = s.pending ∧ (composeSeat s n).timebase = s.timebase ∧
    (composeSeat s n).bus = s.bus ∧ (composeSeat s n).mem = s.mem ∧ (composeSeat s n).port = s.port ∧
    (composeSeat s n).items = s.items ∧ (composeSeat s n).request = s.request ∧ (composeSeat s n).route = s.route ∧
    (composeSeat s n).filter = s.filter ∧ (composeSeat s n).tracker = s.tracker ∧ (composeSeat s n).res = s.res ∧
    (composeSeat s n).notices = s.notices ∧ (composeSeat s n).status.counts = s.status.counts ∧
    (composeSeat s n).status.clearPending = s.status.clearPending := by
  unfold composeSeat; try dsimp only
  all_goals (repeat' split) <;> simp

/-- What `composeSeats` leaves as it is. -/
@[simp] theorem composeSeats_keeps (ns : List Nat) (s : State) :
    (composeSeats ns s).pending = s.pending ∧ (composeSeats ns s).timebase = s.timebase ∧
    (composeSeats ns s).bus = s.bus ∧ (composeSeats ns s).mem = s.mem ∧ (composeSeats ns s).port = s.port ∧
    (composeSeats ns s).items = s.items ∧ (composeSeats ns s).request = s.request ∧
    (composeSeats ns s).route = s.route ∧ (composeSeats ns s).filter = s.filter ∧
    (composeSeats ns s).tracker = s.tracker ∧ (composeSeats ns s).res = s.res ∧
    (composeSeats ns s).notices = s.notices ∧ (composeSeats ns s).status.counts = s.status.counts ∧
    (composeSeats ns s).status.clearPending = s.status.clearPending := by
  unfold composeSeats; induction ns generalizing s with
  | nil => simp
  | cons x xs ih => simp [ih]

/-- What `composeLevels` leaves as it is. -/
@[simp] theorem composeLevels_keeps (s : State) :
    (composeLevels s).pending = s.pending ∧ (composeLevels s).timebase = s.timebase ∧
    (composeLevels s).bus = s.bus ∧ (composeLevels s).mem = s.mem ∧ (composeLevels s).port = s.port ∧
    (composeLevels s).items = s.items ∧ (composeLevels s).request = s.request ∧ (composeLevels s).route = s.route ∧
    (composeLevels s).filter = s.filter ∧ (composeLevels s).tracker = s.tracker ∧ (composeLevels s).res = s.res ∧
    (composeLevels s).notices = s.notices ∧ (composeLevels s).status.counts = s.status.counts ∧
    (composeLevels s).status.clearPending = s.status.clearPending := by
  unfold composeLevels allLinks; simp

/-! ## Seats -/

/-- What `setSeats` leaves as it is. -/
@[simp] theorem setSeats_keeps (es : List SeatEntry) (s : State) :
    (setSeats es s).pending = s.pending ∧ (setSeats es s).timebase = s.timebase ∧ (setSeats es s).bus = s.bus ∧
    (setSeats es s).mem = s.mem ∧ (setSeats es s).port = s.port ∧ (setSeats es s).items = s.items ∧
    (setSeats es s).request = s.request ∧ (setSeats es s).route = s.route ∧ (setSeats es s).filter = s.filter ∧
    (setSeats es s).tracker = s.tracker ∧ (setSeats es s).notices = s.notices ∧
    (setSeats es s).status.counts = s.status.counts ∧ (setSeats es s).status.clearPending = s.status.clearPending ∧
    (∀ m, (setSeats es s).link m = s.link m) := by
  unfold setSeats; simp; and_intros <;> first | rfl | (intro m; cases m <;> rfl)

/-- What `putSeat` leaves as it is. -/
@[simp] theorem putSeat_keeps (n : Nat) (x : SeatEntry) (s : State) :
    (putSeat n x s).pending = s.pending ∧ (putSeat n x s).timebase = s.timebase ∧ (putSeat n x s).bus = s.bus ∧
    (putSeat n x s).mem = s.mem ∧ (putSeat n x s).port = s.port ∧ (putSeat n x s).items = s.items ∧
    (putSeat n x s).request = s.request ∧ (putSeat n x s).route = s.route ∧ (putSeat n x s).filter = s.filter ∧
    (putSeat n x s).tracker = s.tracker ∧ (putSeat n x s).notices = s.notices ∧
    (putSeat n x s).status.counts = s.status.counts ∧ (putSeat n x s).status.clearPending = s.status.clearPending ∧
    (∀ m, (putSeat n x s).link m = s.link m) := by
  unfold putSeat; try dsimp only
  all_goals (repeat' split) <;> simp

/-- What `resolveAll` leaves as it is. -/
@[simp] theorem resolveAll_keeps (s : State) :
    (resolveAll s).pending = s.pending ∧ (resolveAll s).timebase = s.timebase ∧ (resolveAll s).bus = s.bus ∧
    (resolveAll s).mem = s.mem ∧ (resolveAll s).port = s.port ∧ (resolveAll s).items = s.items ∧
    (resolveAll s).request = s.request ∧ (resolveAll s).route = s.route ∧ (resolveAll s).filter = s.filter ∧
    (resolveAll s).tracker = s.tracker ∧ (resolveAll s).notices = s.notices ∧
    (resolveAll s).status.counts = s.status.counts ∧ (resolveAll s).status.clearPending = s.status.clearPending ∧
    (∀ m, (resolveAll s).link m = s.link m) := by
  unfold resolveAll; try dsimp only
  all_goals (repeat' split) <;> simp

/-- What `setUnverified` leaves as it is. -/
@[simp] theorem setUnverified_keeps (b : Bool) (s : State) :
    (setUnverified b s).pending = s.pending ∧ (setUnverified b s).timebase = s.timebase ∧
    (setUnverified b s).bus = s.bus ∧ (setUnverified b s).mem = s.mem ∧ (setUnverified b s).port = s.port ∧
    (setUnverified b s).items = s.items ∧ (setUnverified b s).request = s.request ∧
    (setUnverified b s).route = s.route ∧ (setUnverified b s).filter = s.filter ∧
    (setUnverified b s).tracker = s.tracker ∧ (setUnverified b s).notices = s.notices ∧
    (setUnverified b s).status.counts = s.status.counts ∧
    (setUnverified b s).status.clearPending = s.status.clearPending := by
  unfold setUnverified; split <;> simp

/-- What `pruneReleases` leaves as it is. -/
@[simp] theorem pruneReleases_keeps (s : State) :
    (pruneReleases s).pending = s.pending ∧ (pruneReleases s).timebase = s.timebase ∧
    (pruneReleases s).bus = s.bus ∧ (pruneReleases s).mem = s.mem ∧ (pruneReleases s).port = s.port ∧
    (pruneReleases s).items = s.items ∧ (pruneReleases s).request = s.request ∧ (pruneReleases s).route = s.route ∧
    (pruneReleases s).filter = s.filter ∧ (pruneReleases s).tracker = s.tracker ∧
    (pruneReleases s).notices = s.notices ∧ (pruneReleases s).status.counts = s.status.counts ∧
    (pruneReleases s).status.clearPending = s.status.clearPending ∧ (∀ m, (pruneReleases s).link m = s.link m) := by
  unfold pruneReleases; try dsimp only
  all_goals (repeat' split) <;> simp

/-- What `dropRelease` leaves as it is. -/
@[simp] theorem dropRelease_keeps (n : Nat) (s : State) :
    (dropRelease n s).pending = s.pending ∧ (dropRelease n s).timebase = s.timebase ∧
    (dropRelease n s).bus = s.bus ∧ (dropRelease n s).mem = s.mem ∧ (dropRelease n s).port = s.port ∧
    (dropRelease n s).items = s.items ∧ (dropRelease n s).request = s.request ∧ (dropRelease n s).route = s.route ∧
    (dropRelease n s).filter = s.filter ∧ (dropRelease n s).tracker = s.tracker ∧
    (dropRelease n s).notices = s.notices ∧ (dropRelease n s).status.counts = s.status.counts ∧
    (dropRelease n s).status.clearPending = s.status.clearPending ∧ (∀ m, (dropRelease n s).link m = s.link m) := by
  unfold dropRelease; try dsimp only
  all_goals (repeat' split) <;> simp

/-- What `departed` leaves as it is. -/
@[simp] theorem departed_keeps (c : Nat) (k : Lock) (s : State) :
    (departed c k s).pending = s.pending ∧ (departed c k s).timebase = s.timebase ∧ (departed c k s).bus = s.bus ∧
    (departed c k s).mem = s.mem ∧ (departed c k s).port = s.port ∧ (departed c k s).items = s.items ∧
    (departed c k s).request = s.request ∧ (departed c k s).route = s.route ∧ (departed c k s).filter = s.filter ∧
    (departed c k s).tracker = s.tracker ∧ (departed c k s).notices = s.notices ∧
    (departed c k s).status.counts = s.status.counts ∧
    (departed c k s).status.clearPending = s.status.clearPending ∧ (∀ m, (departed c k s).link m = s.link m) := by
  unfold departed; try dsimp only
  all_goals (repeat' split) <;> simp

/-- What `rejudge` leaves as it is. -/
@[simp] theorem rejudge_keeps (s : State) :
    (rejudge s).pending = s.pending ∧ (rejudge s).timebase = s.timebase ∧ (rejudge s).bus = s.bus ∧
    (rejudge s).mem = s.mem ∧ (rejudge s).port = s.port ∧ (rejudge s).items = s.items ∧
    (rejudge s).request = s.request ∧ (rejudge s).route = s.route ∧ (rejudge s).filter = s.filter ∧
    (rejudge s).tracker = s.tracker ∧ (rejudge s).notices = s.notices ∧
    (rejudge s).status.counts = s.status.counts ∧ (rejudge s).status.clearPending = s.status.clearPending := by
  unfold rejudge; simp

/-- A fold of steps each of which keeps a part keeps it. -/
theorem foldl_keeps {α β : Type} (p : State → β) (f : State → α → State) (h : ∀ s x, p (f s x) = p s) (xs : List α)
    (s : State) : p (xs.foldl f s) = p s := by
  induction xs generalizing s with
  | nil => rfl
  | cons x xs ih => simp [ih, h]

/-- What `raiseMisrouted` leaves as it is. -/
@[simp] theorem raiseMisrouted_keeps (p : Segment → Bool) (r : ActiveRoute) (es : List SeatEntry) (s : State) :
    (raiseMisrouted p r es s).pending = s.pending ∧ (raiseMisrouted p r es s).timebase = s.timebase ∧
    (raiseMisrouted p r es s).bus = s.bus ∧ (raiseMisrouted p r es s).mem = s.mem ∧
    (raiseMisrouted p r es s).port = s.port ∧ (raiseMisrouted p r es s).items = s.items ∧
    (raiseMisrouted p r es s).request = s.request ∧ (raiseMisrouted p r es s).route = s.route ∧
    (raiseMisrouted p r es s).filter = s.filter ∧ (raiseMisrouted p r es s).tracker = s.tracker ∧
    (raiseMisrouted p r es s).res = s.res ∧ (raiseMisrouted p r es s).status.clearPending = s.status.clearPending ∧
    (∀ m, (raiseMisrouted p r es s).link m = s.link m) := by
  unfold raiseMisrouted
  have h : ∀ {β : Type} (p : State → β), (∀ n t, p (raise n t) = p t) → ∀ (gs : List Segment) (k : Nat) (t : State),
      p (gs.foldl (fun s g => raise (misroutedNotice r k g) s) t) = p t :=
    fun p hp gs k t => foldl_keeps p _ (fun s x => hp _ s) gs t
  and_intros <;> first
    | (intro m; exact foldl_keeps (fun t => t.link m) _ (fun s x => h (fun t => t.link m) (by simp) _ _ _) _ _)
    | exact foldl_keeps State.pending _ (fun s x => h State.pending (by simp) _ _ _) _ _
    | exact foldl_keeps State.timebase _ (fun s x => h State.timebase (by simp) _ _ _) _ _
    | exact foldl_keeps State.bus _ (fun s x => h State.bus (by simp) _ _ _) _ _
    | exact foldl_keeps State.mem _ (fun s x => h State.mem (by simp) _ _ _) _ _
    | exact foldl_keeps State.port _ (fun s x => h State.port (by simp) _ _ _) _ _
    | exact foldl_keeps State.items _ (fun s x => h State.items (by simp) _ _ _) _ _
    | exact foldl_keeps State.request _ (fun s x => h State.request (by simp) _ _ _) _ _
    | exact foldl_keeps State.route _ (fun s x => h State.route (by simp) _ _ _) _ _
    | exact foldl_keeps State.filter _ (fun s x => h State.filter (by simp) _ _ _) _ _
    | exact foldl_keeps State.tracker _ (fun s x => h State.tracker (by simp) _ _ _) _ _
    | exact foldl_keeps State.res _ (fun s x => h State.res (by simp) _ _ _) _ _
    | exact foldl_keeps (fun t => t.status.clearPending) _ (fun s x => h (fun t => t.status.clearPending) (by simp) _ _ _) _ _

/-- What `retag` leaves as it is. -/
@[simp] theorem retag_keeps (p : Segment → Bool) (r : ActiveRoute) (removed : Option Nat) (s : State) :
    (retag p r removed s).pending = s.pending ∧ (retag p r removed s).timebase = s.timebase ∧
    (retag p r removed s).bus = s.bus ∧ (retag p r removed s).mem = s.mem ∧ (retag p r removed s).port = s.port ∧
    (retag p r removed s).items = s.items ∧ (retag p r removed s).request = s.request ∧
    (retag p r removed s).route = s.route ∧ (retag p r removed s).filter = s.filter ∧
    (retag p r removed s).tracker = s.tracker ∧
    (retag p r removed s).status.clearPending = s.status.clearPending := by
  unfold retag; simp

/-- What `takeCommit` leaves as it is. -/
@[simp] theorem takeCommit_keeps (x : CommitEntry) (s : State) :
    (takeCommit x s).pending = s.pending ∧ (takeCommit x s).timebase = s.timebase ∧ (takeCommit x s).bus = s.bus ∧
    (takeCommit x s).mem = s.mem ∧ (takeCommit x s).port = s.port ∧ (takeCommit x s).items = s.items ∧
    (takeCommit x s).request = s.request ∧ (takeCommit x s).route = s.route ∧ (takeCommit x s).filter = s.filter ∧
    (takeCommit x s).tracker = s.tracker ∧ (takeCommit x s).status.clearPending = s.status.clearPending := by
  unfold takeCommit; (repeat' split) <;> simp <;> and_intros <;> first | rfl | (intro m; cases m <;> rfl)

/-- What `applyRecord` leaves as it is. -/
@[simp] theorem applyRecord_keeps (r : Record) (s : State) :
    (applyRecord r s).pending = s.pending ∧ (applyRecord r s).timebase = s.timebase ∧
    (applyRecord r s).bus = s.bus ∧ (applyRecord r s).mem = s.mem ∧ (applyRecord r s).port = s.port ∧
    (applyRecord r s).items = s.items ∧ (applyRecord r s).request = s.request ∧ (applyRecord r s).route = s.route ∧
    (applyRecord r s).filter = s.filter ∧ (applyRecord r s).tracker = s.tracker ∧
    (applyRecord r s).status.clearPending = s.status.clearPending := by
  unfold applyRecord
  have h : ∀ {β : Type} (p : State → β), (∀ n t, p (raise n t) = p t) → ∀ (a : ActiveRoute) (gs : List Segment)
      (k : Nat) (t : State), p (gs.foldl (fun s g => raise (misroutedNotice a k g) s) t) = p t :=
    fun p hp a gs k t => foldl_keeps p _ (fun s x => hp _ s) gs t
  dsimp only
  split
  · simp only [composeSeat_keeps, putSeat_keeps]
    and_intros <;> first
      | (rw [h State.pending (by simp)]; simp) | (rw [h State.timebase (by simp)]; simp)
      | (rw [h State.bus (by simp)]; simp) | (rw [h State.mem (by simp)]; simp)
      | (rw [h State.port (by simp)]; simp) | (rw [h State.items (by simp)]; simp)
      | (rw [h State.request (by simp)]; simp) | (rw [h State.route (by simp)]; simp)
      | (rw [h State.filter (by simp)]; simp) | (rw [h State.tracker (by simp)]; simp)
      | (rw [h (fun t => t.status.clearPending) (by simp)]; simp)
  · simp

/-- What `judgeRecord` leaves as it is. -/
@[simp] theorem judgeRecord_keeps (x : CommitEntry) (r : Record) (s : State) :
    (judgeRecord x r s).pending = s.pending ∧ (judgeRecord x r s).timebase = s.timebase ∧
    (judgeRecord x r s).bus = s.bus ∧ (judgeRecord x r s).mem = s.mem ∧ (judgeRecord x r s).port = s.port ∧
    (judgeRecord x r s).items = s.items ∧ (judgeRecord x r s).request = s.request ∧
    (judgeRecord x r s).route = s.route ∧ (judgeRecord x r s).filter = s.filter ∧
    (judgeRecord x r s).tracker = s.tracker ∧ (judgeRecord x r s).status.clearPending = s.status.clearPending := by
  unfold judgeRecord; try dsimp only
  all_goals (repeat' split) <;> simp

/-- What `completeFetch` leaves as it is. -/
@[simp] theorem completeFetch_keeps (s : State) :
    (completeFetch s).pending = s.pending ∧ (completeFetch s).timebase = s.timebase ∧
    (completeFetch s).bus = s.bus ∧ (completeFetch s).mem = s.mem ∧ (completeFetch s).port = s.port ∧
    (completeFetch s).items = s.items ∧ (completeFetch s).request = s.request ∧ (completeFetch s).route = s.route ∧
    (completeFetch s).filter = s.filter ∧ (completeFetch s).tracker = s.tracker ∧
    (completeFetch s).status.clearPending = s.status.clearPending := by
  unfold completeFetch; (repeat' split) <;> simp <;> and_intros <;> first | rfl | (intro m; cases m <;> rfl)

/-- What `clearSeats` leaves as it is. -/
@[simp] theorem clearSeats_keeps (s : State) :
    (clearSeats s).pending = s.pending ∧ (clearSeats s).timebase = s.timebase ∧ (clearSeats s).bus = s.bus ∧
    (clearSeats s).mem = s.mem ∧ (clearSeats s).port = s.port ∧ (clearSeats s).items = s.items ∧
    (clearSeats s).request = s.request ∧ (clearSeats s).route = s.route ∧ (clearSeats s).filter = s.filter ∧
    (clearSeats s).tracker = s.tracker ∧ (clearSeats s).notices = s.notices ∧
    (clearSeats s).status.counts = s.status.counts ∧
    (clearSeats s).status.clearPending = s.status.clearPending := by
  unfold clearSeats; simp

/-- What `expireRelease` leaves as it is. -/
@[simp] theorem expireRelease_keeps (x : ReleaseEntry) (s : State) :
    (expireRelease x s).pending = s.pending ∧ (expireRelease x s).timebase = s.timebase ∧
    (expireRelease x s).bus = s.bus ∧ (expireRelease x s).mem = s.mem ∧ (expireRelease x s).port = s.port ∧
    (expireRelease x s).items = s.items ∧ (expireRelease x s).request = s.request ∧
    (expireRelease x s).route = s.route ∧ (expireRelease x s).filter = s.filter ∧
    (expireRelease x s).tracker = s.tracker ∧ (expireRelease x s).status.clearPending = s.status.clearPending := by
  unfold expireRelease; dsimp only; (repeat' split) <;> simp

/-- What `confirmSeat` leaves as it is. -/
@[simp] theorem confirmSeat_keeps (tag : Byte) (n : Nat) (s : State) :
    (confirmSeat tag n s).pending = s.pending ∧ (confirmSeat tag n s).timebase = s.timebase ∧
    (confirmSeat tag n s).bus = s.bus ∧ (confirmSeat tag n s).mem = s.mem ∧ (confirmSeat tag n s).port = s.port ∧
    (confirmSeat tag n s).items = s.items ∧ (confirmSeat tag n s).route = s.route ∧
    (confirmSeat tag n s).filter = s.filter ∧ (confirmSeat tag n s).tracker = s.tracker ∧
    (confirmSeat tag n s).notices = s.notices ∧ (confirmSeat tag n s).status.counts = s.status.counts ∧
    (confirmSeat tag n s).status.clearPending = s.status.clearPending := by
  unfold confirmSeat; dsimp only; (repeat' split) <;> simp

/-! ## Motion and routes -/

/-- What `setMode` leaves as it is. -/
@[simp] theorem setMode_keeps (m : Mode) (s : State) :
    (setMode m s).pending = s.pending ∧ (setMode m s).timebase = s.timebase ∧ (setMode m s).bus = s.bus ∧
    (setMode m s).mem = s.mem ∧ (setMode m s).port = s.port ∧ (setMode m s).items = s.items ∧
    (setMode m s).request = s.request ∧ (setMode m s).route = s.route ∧ (setMode m s).tracker = s.tracker ∧
    (setMode m s).res = s.res ∧ (setMode m s).status.clearPending = s.status.clearPending ∧
    (setMode m s).link .a = s.link .a ∧ (setMode m s).link .b = s.link .b := by
  unfold setMode; dsimp only; split <;> simp

/-- What `moveBy` leaves as it is. -/
@[simp] theorem moveBy_keeps (x : MotionEvent) (s : State) :
    (moveBy x s).pending = s.pending ∧ (moveBy x s).timebase = s.timebase ∧ (moveBy x s).bus = s.bus ∧
    (moveBy x s).mem = s.mem ∧ (moveBy x s).port = s.port ∧ (moveBy x s).items = s.items ∧
    (moveBy x s).request = s.request ∧ (moveBy x s).route = s.route ∧ (moveBy x s).tracker = s.tracker ∧
    (moveBy x s).res = s.res ∧ (moveBy x s).status.clearPending = s.status.clearPending ∧
    (moveBy x s).link .a = s.link .a ∧ (moveBy x s).link .b = s.link .b := by
  unfold moveBy; try dsimp only
  all_goals (repeat' split) <;> simp

/-- What `readCap` leaves as it is. -/
@[simp] theorem readCap_keeps (s : State) :
    (readCap s).pending = s.pending ∧ (readCap s).timebase = s.timebase ∧ (readCap s).bus = s.bus ∧
    (readCap s).mem = s.mem ∧ (readCap s).port = s.port ∧ (readCap s).items = s.items ∧
    (readCap s).request = s.request ∧ (readCap s).route = s.route ∧ (readCap s).tracker = s.tracker ∧
    (readCap s).res = s.res ∧ (readCap s).status.clearPending = s.status.clearPending ∧
    (readCap s).link .a = s.link .a ∧ (readCap s).link .b = s.link .b := by
  unfold readCap; try dsimp only
  all_goals (repeat' split) <;> simp

/-- What `switchRoute` leaves as it is. -/
@[simp] theorem switchRoute_keeps (i : ImageId) (st : Start) (c : RouteCopy) (s : State) :
    (switchRoute i st c s).pending = s.pending ∧ (switchRoute i st c s).timebase = s.timebase ∧
    (switchRoute i st c s).bus = s.bus ∧ (switchRoute i st c s).mem = s.mem ∧ (switchRoute i st c s).port = s.port ∧
    (switchRoute i st c s).items = s.items ∧ (switchRoute i st c s).request = s.request ∧
    (switchRoute i st c s).status.clearPending = s.status.clearPending := by
  unfold switchRoute; simp

/-- What `abandonSwitch` leaves as it is. -/
@[simp] theorem abandonSwitch_keeps (tag : Byte) (x : InvalidReason) (s : State) :
    (abandonSwitch tag x s).pending = s.pending ∧ (abandonSwitch tag x s).timebase = s.timebase ∧
    (abandonSwitch tag x s).bus = s.bus ∧ (abandonSwitch tag x s).mem = s.mem ∧
    (abandonSwitch tag x s).port = s.port ∧ (abandonSwitch tag x s).items = s.items ∧
    (abandonSwitch tag x s).filter = s.filter ∧ (abandonSwitch tag x s).tracker = s.tracker ∧
    (abandonSwitch tag x s).res = s.res ∧ (abandonSwitch tag x s).notices = s.notices ∧
    (abandonSwitch tag x s).status.counts = s.status.counts ∧
    (abandonSwitch tag x s).status.clearPending = s.status.clearPending ∧
    (∀ m, (abandonSwitch tag x s).link m = s.link m) := by
  unfold abandonSwitch; try dsimp only
  all_goals (repeat' split) <;> simp

/-- What `enterStop` leaves as it is. -/
@[simp] theorem enterStop_keeps (s : State) :
    (enterStop s).pending = s.pending ∧ (enterStop s).timebase = s.timebase ∧ (enterStop s).bus = s.bus ∧
    (enterStop s).mem = s.mem ∧ (enterStop s).port = s.port ∧ (enterStop s).items = s.items ∧
    (enterStop s).status.clearPending = s.status.clearPending := by
  unfold enterStop; try dsimp only
  all_goals (repeat' split) <;> simp

/-- What `completeActivation` leaves as it is. -/
@[simp] theorem completeActivation_keeps (c : RouteCopy) (s : State) :
    (completeActivation c s).pending = s.pending ∧ (completeActivation c s).timebase = s.timebase ∧
    (completeActivation c s).bus = s.bus ∧ (completeActivation c s).mem = s.mem ∧
    (completeActivation c s).port = s.port ∧ (completeActivation c s).items = s.items ∧
    (completeActivation c s).status.clearPending = s.status.clearPending := by
  unfold completeActivation; dsimp only; (repeat' split) <;> simp

/-- What `completePreview` leaves as it is. -/
@[simp] theorem completePreview_keeps (c : RouteCopy) (s : State) :
    (completePreview c s).pending = s.pending ∧ (completePreview c s).timebase = s.timebase ∧
    (completePreview c s).bus = s.bus ∧ (completePreview c s).mem = s.mem ∧ (completePreview c s).port = s.port ∧
    (completePreview c s).items = s.items ∧ (completePreview c s).filter = s.filter ∧
    (completePreview c s).tracker = s.tracker ∧ (completePreview c s).res = s.res ∧
    (completePreview c s).notices = s.notices ∧ (completePreview c s).status.counts = s.status.counts ∧
    (completePreview c s).status.clearPending = s.status.clearPending ∧
    (∀ m, (completePreview c s).link m = s.link m) := by
  unfold completePreview; dsimp only; (repeat' split) <;> simp <;> (intro m; cases m <;> rfl)

/-- What `replaceServed` leaves as it is. -/
@[simp] theorem replaceServed_keeps (o n : ActiveRoute) (s : State) :
    (replaceServed o n s).pending = s.pending ∧ (replaceServed o n s).timebase = s.timebase ∧
    (replaceServed o n s).bus = s.bus ∧ (replaceServed o n s).mem = s.mem ∧ (replaceServed o n s).port = s.port ∧
    (replaceServed o n s).items = s.items ∧ (replaceServed o n s).status.clearPending = s.status.clearPending := by
  unfold replaceServed; dsimp only; (repeat' split) <;> simp

/-- What `changePortion` leaves as it is. -/
@[simp] theorem changePortion_keeps (r : ActiveRoute) (p : Portion) (s : State) :
    (changePortion r p s).pending = s.pending ∧ (changePortion r p s).timebase = s.timebase ∧
    (changePortion r p s).bus = s.bus ∧ (changePortion r p s).mem = s.mem ∧ (changePortion r p s).port = s.port ∧
    (changePortion r p s).items = s.items ∧ (changePortion r p s).status.clearPending = s.status.clearPending := by
  unfold changePortion; try dsimp only
  all_goals (repeat' split) <;> simp

/-- What `takeConsist` leaves as it is. -/
@[simp] theorem takeConsist_keeps (k : Consist) (s : State) :
    (takeConsist k s).pending = s.pending ∧ (takeConsist k s).timebase = s.timebase ∧
    (takeConsist k s).bus = s.bus ∧ (takeConsist k s).mem = s.mem ∧ (takeConsist k s).port = s.port ∧
    (takeConsist k s).items = s.items ∧ (takeConsist k s).status.clearPending = s.status.clearPending := by
  unfold takeConsist; try dsimp only
  all_goals (repeat' split) <;> simp

/-! ## Approaches and reports -/

/-- What `setApproach` leaves as it is. -/
@[simp] theorem setApproach_keeps (a : Approach) (s : State) :
    (setApproach a s).pending = s.pending ∧ (setApproach a s).timebase = s.timebase ∧
    (setApproach a s).bus = s.bus ∧ (setApproach a s).mem = s.mem ∧ (setApproach a s).port = s.port ∧
    (setApproach a s).items = s.items ∧ (setApproach a s).request = s.request ∧ (setApproach a s).route = s.route ∧
    (setApproach a s).filter = s.filter ∧ (setApproach a s).res = s.res ∧ (setApproach a s).notices = s.notices ∧
    (setApproach a s).status.counts = s.status.counts ∧
    (setApproach a s).status.clearPending = s.status.clearPending ∧ (∀ m, (setApproach a s).link m = s.link m) := by
  unfold setApproach; try dsimp only
  all_goals (repeat' split) <;> simp

/-- What `announceNext` leaves as it is. -/
@[simp] theorem announceNext_keeps (r : ActiveRoute) (n : Nat) (s : State) :
    (announceNext r n s).pending = s.pending ∧ (announceNext r n s).timebase = s.timebase ∧
    (announceNext r n s).bus = s.bus ∧ (announceNext r n s).mem = s.mem ∧ (announceNext r n s).port = s.port ∧
    (announceNext r n s).items = s.items ∧ (announceNext r n s).request = s.request ∧
    (announceNext r n s).route = s.route ∧ (announceNext r n s).filter = s.filter ∧
    (announceNext r n s).res = s.res ∧ (announceNext r n s).status.clearPending = s.status.clearPending ∧
    (∀ m, (announceNext r n s).link m = s.link m) := by
  unfold announceNext; try dsimp only
  all_goals (repeat' split) <;> simp

/-- What `beginApproach` leaves as it is. -/
@[simp] theorem beginApproach_keeps (r : ActiveRoute) (a : Approach) (s : State) :
    (beginApproach r a s).pending = s.pending ∧ (beginApproach r a s).timebase = s.timebase ∧
    (beginApproach r a s).bus = s.bus ∧ (beginApproach r a s).mem = s.mem ∧ (beginApproach r a s).port = s.port ∧
    (beginApproach r a s).items = s.items ∧ (beginApproach r a s).request = s.request ∧
    (beginApproach r a s).route = s.route ∧ (beginApproach r a s).filter = s.filter ∧
    (beginApproach r a s).res = s.res ∧ (beginApproach r a s).status.clearPending = s.status.clearPending ∧
    (beginApproach r a s).link .a = s.link .a ∧ (beginApproach r a s).link .b = s.link .b := by
  unfold beginApproach; try dsimp only
  all_goals (repeat' split) <;> simp

/-- What `beginArriving` leaves as it is. -/
@[simp] theorem beginArriving_keeps (r : ActiveRoute) (a : Approach) (s : State) :
    (beginArriving r a s).pending = s.pending ∧ (beginArriving r a s).timebase = s.timebase ∧
    (beginArriving r a s).bus = s.bus ∧ (beginArriving r a s).mem = s.mem ∧ (beginArriving r a s).port = s.port ∧
    (beginArriving r a s).items = s.items ∧ (beginArriving r a s).request = s.request ∧
    (beginArriving r a s).route = s.route ∧ (beginArriving r a s).filter = s.filter ∧
    (beginArriving r a s).res = s.res ∧ (beginArriving r a s).status.clearPending = s.status.clearPending ∧
    (beginArriving r a s).link .a = s.link .a ∧ (beginArriving r a s).link .b = s.link .b := by
  unfold beginArriving; dsimp only; split <;> simp

/-- What `handCurrent` leaves as it is. -/
@[simp] theorem handCurrent_keeps (s : State) :
    (handCurrent s).pending = s.pending ∧ (handCurrent s).timebase = s.timebase ∧ (handCurrent s).bus = s.bus ∧
    (handCurrent s).mem = s.mem ∧ (handCurrent s).port = s.port ∧ (handCurrent s).items = s.items ∧
    (handCurrent s).request = s.request ∧ (handCurrent s).route = s.route ∧ (handCurrent s).tracker = s.tracker ∧
    (handCurrent s).status.clearPending = s.status.clearPending := by
  unfold handCurrent; try dsimp only
  all_goals (repeat' split) <;> simp

/-- What `arrive` leaves as it is. -/
@[simp] theorem arrive_keeps (r : ActiveRoute) (a : Approach) (s : State) :
    (arrive r a s).pending = s.pending ∧ (arrive r a s).timebase = s.timebase ∧ (arrive r a s).bus = s.bus ∧
    (arrive r a s).mem = s.mem ∧ (arrive r a s).port = s.port ∧ (arrive r a s).items = s.items ∧
    (arrive r a s).status.clearPending = s.status.clearPending := by
  unfold arrive; try dsimp only
  all_goals (repeat' split) <;> simp

/-- What `passStop` leaves as it is. -/
@[simp] theorem passStop_keeps (r : ActiveRoute) (a : Approach) (s : State) :
    (passStop r a s).pending = s.pending ∧ (passStop r a s).timebase = s.timebase ∧ (passStop r a s).bus = s.bus ∧
    (passStop r a s).mem = s.mem ∧ (passStop r a s).port = s.port ∧ (passStop r a s).items = s.items ∧
    (passStop r a s).status.clearPending = s.status.clearPending := by
  unfold passStop; dsimp only; (repeat' split) <;> simp

/-- What `depart` leaves as it is. -/
@[simp] theorem depart_keeps (r : ActiveRoute) (a : Approach) (s : State) :
    (depart r a s).pending = s.pending ∧ (depart r a s).timebase = s.timebase ∧ (depart r a s).bus = s.bus ∧
    (depart r a s).mem = s.mem ∧ (depart r a s).port = s.port ∧ (depart r a s).items = s.items ∧
    (depart r a s).request = s.request ∧ (depart r a s).route = s.route ∧ (depart r a s).filter = s.filter ∧
    (depart r a s).status.clearPending = s.status.clearPending ∧ (depart r a s).link .a = s.link .a ∧
    (depart r a s).link .b = s.link .b := by
  unfold depart; dsimp only; split <;> simp

/-- What `showDelay` leaves as it is. -/
@[simp] theorem showDelay_keeps (b : Bool) (code : Nat) (s : State) :
    (showDelay b code s).pending = s.pending ∧ (showDelay b code s).timebase = s.timebase ∧
    (showDelay b code s).bus = s.bus ∧ (showDelay b code s).mem = s.mem ∧ (showDelay b code s).port = s.port ∧
    (showDelay b code s).items = s.items ∧ (showDelay b code s).request = s.request ∧
    (showDelay b code s).route = s.route ∧ (showDelay b code s).filter = s.filter ∧
    (showDelay b code s).res = s.res ∧ (showDelay b code s).status.clearPending = s.status.clearPending ∧
    (showDelay b code s).link .a = s.link .a ∧ (showDelay b code s).link .b = s.link .b := by
  unfold showDelay; try dsimp only
  all_goals (repeat' split) <;> simp

/-- What `arithmeticSettled` leaves as it is. -/
@[simp] theorem arithmeticSettled_keeps (r : ActiveRoute) (a : Approach) (b : Bool) (s : State) :
    (arithmeticSettled r a b s).pending = s.pending ∧ (arithmeticSettled r a b s).timebase = s.timebase ∧
    (arithmeticSettled r a b s).bus = s.bus ∧ (arithmeticSettled r a b s).mem = s.mem ∧
    (arithmeticSettled r a b s).port = s.port ∧ (arithmeticSettled r a b s).items = s.items ∧
    (arithmeticSettled r a b s).request = s.request ∧ (arithmeticSettled r a b s).route = s.route ∧
    (arithmeticSettled r a b s).filter = s.filter ∧ (arithmeticSettled r a b s).res = s.res ∧
    (arithmeticSettled r a b s).status.clearPending = s.status.clearPending ∧
    (arithmeticSettled r a b s).link .a = s.link .a ∧ (arithmeticSettled r a b s).link .b = s.link .b := by
  unfold arithmeticSettled; try dsimp only
  all_goals (repeat' split) <;> simp

/-- What `arithmeticMoving` leaves as it is. -/
@[simp] theorem arithmeticMoving_keeps (r : ActiveRoute) (a : Approach) (s : State) :
    (arithmeticMoving r a s).pending = s.pending ∧ (arithmeticMoving r a s).timebase = s.timebase ∧
    (arithmeticMoving r a s).bus = s.bus ∧ (arithmeticMoving r a s).mem = s.mem ∧
    (arithmeticMoving r a s).port = s.port ∧ (arithmeticMoving r a s).items = s.items ∧
    (arithmeticMoving r a s).request = s.request ∧ (arithmeticMoving r a s).route = s.route ∧
    (arithmeticMoving r a s).filter = s.filter ∧ (arithmeticMoving r a s).res = s.res ∧
    (arithmeticMoving r a s).status.clearPending = s.status.clearPending ∧
    (arithmeticMoving r a s).link .a = s.link .a ∧ (arithmeticMoving r a s).link .b = s.link .b := by
  unfold arithmeticMoving; try dsimp only
  all_goals (repeat' split) <;> simp

/-- What `arithmetic` leaves as it is. -/
@[simp] theorem arithmetic_keeps (b : Bool) (s : State) :
    (arithmetic b s).pending = s.pending ∧ (arithmetic b s).timebase = s.timebase ∧ (arithmetic b s).bus = s.bus ∧
    (arithmetic b s).mem = s.mem ∧ (arithmetic b s).port = s.port ∧ (arithmetic b s).items = s.items ∧
    (arithmetic b s).request = s.request ∧ (arithmetic b s).route = s.route ∧ (arithmetic b s).filter = s.filter ∧
    (arithmetic b s).res = s.res ∧ (arithmetic b s).status.clearPending = s.status.clearPending ∧
    (arithmetic b s).link .a = s.link .a ∧ (arithmetic b s).link .b = s.link .b := by
  unfold arithmetic; try dsimp only
  all_goals (repeat' split) <;> simp

/-- What `passRound` leaves as it is. -/
@[simp] theorem passRound_keeps (b : Bool) (x : Pass) :
    (passRound b x).state.pending = x.state.pending ∧ (passRound b x).state.timebase = x.state.timebase ∧
    (passRound b x).state.bus = x.state.bus ∧ (passRound b x).state.mem = x.state.mem ∧
    (passRound b x).state.port = x.state.port ∧ (passRound b x).state.items = x.state.items ∧
    (passRound b x).state.status.clearPending = x.state.status.clearPending := by
  unfold passRound; dsimp only; (repeat' split) <;> simp

/-- What `runPass` leaves as it is. -/
@[simp] theorem runPass_keeps (b : Bool) (n : Nat) (x : Pass) :
    (runPass b n x).state.pending = x.state.pending ∧ (runPass b n x).state.timebase = x.state.timebase ∧
    (runPass b n x).state.bus = x.state.bus ∧ (runPass b n x).state.mem = x.state.mem ∧
    (runPass b n x).state.port = x.state.port ∧ (runPass b n x).state.items = x.state.items ∧
    (runPass b n x).state.status.clearPending = x.state.status.clearPending := by
  induction n generalizing x with
  | zero => simp [runPass]
  | succ n ih => unfold runPass; split <;> simp [ih]

/-- What `doorsAway` leaves as it is. -/
@[simp] theorem doorsAway_keeps (b : Bool) (x : Pass) :
    (doorsAway b x).pending = x.state.pending ∧ (doorsAway b x).timebase = x.state.timebase ∧
    (doorsAway b x).bus = x.state.bus ∧ (doorsAway b x).mem = x.state.mem ∧
    (doorsAway b x).port = x.state.port ∧ (doorsAway b x).items = x.state.items ∧
    (doorsAway b x).request = x.state.request ∧ (doorsAway b x).route = x.state.route ∧
    (doorsAway b x).filter = x.state.filter ∧ (doorsAway b x).tracker = x.state.tracker ∧
    (doorsAway b x).res = x.state.res ∧ (doorsAway b x).status.clearPending = x.state.status.clearPending ∧
    (∀ m, (doorsAway b x).link m = x.state.link m) := by
  unfold doorsAway; dsimp only; split <;> simp

/-- What `evaluateReport` leaves as it is. -/
@[simp] theorem evaluateReport_keeps (b : Bool) (s : State) :
    (evaluateReport b s).pending = s.pending ∧ (evaluateReport b s).timebase = s.timebase ∧
    (evaluateReport b s).bus = s.bus ∧ (evaluateReport b s).mem = s.mem ∧ (evaluateReport b s).port = s.port ∧
    (evaluateReport b s).items = s.items ∧ (evaluateReport b s).status.clearPending = s.status.clearPending := by
  unfold evaluateReport; dsimp only; split <;> simp

/-- What `evaluateCoast` leaves as it is. -/
@[simp] theorem evaluateCoast_keeps (s : State) :
    (evaluateCoast s).pending = s.pending ∧ (evaluateCoast s).timebase = s.timebase ∧
    (evaluateCoast s).bus = s.bus ∧ (evaluateCoast s).mem = s.mem ∧ (evaluateCoast s).port = s.port ∧
    (evaluateCoast s).items = s.items ∧ (evaluateCoast s).request = s.request ∧ (evaluateCoast s).route = s.route ∧
    (evaluateCoast s).filter = s.filter ∧ (evaluateCoast s).status.clearPending = s.status.clearPending ∧
    (evaluateCoast s).link .a = s.link .a ∧ (evaluateCoast s).link .b = s.link .b := by
  unfold evaluateCoast; (repeat' split) <;> simp

/-- What `keepReport` leaves as it is. -/
@[simp] theorem keepReport_keeps (v : Verdict) (r : Report) (s : State) :
    (keepReport v r s).pending = s.pending ∧ (keepReport v r s).timebase = s.timebase ∧
    (keepReport v r s).bus = s.bus ∧ (keepReport v r s).mem = s.mem ∧ (keepReport v r s).port = s.port ∧
    (keepReport v r s).items = s.items ∧ (keepReport v r s).request = s.request ∧
    (keepReport v r s).route = s.route ∧ (keepReport v r s).tracker = s.tracker ∧ (keepReport v r s).res = s.res ∧
    (keepReport v r s).notices = s.notices ∧ (keepReport v r s).status.clearPending = s.status.clearPending ∧
    (∀ m, (keepReport v r s).link m = s.link m) := by
  unfold keepReport; cases v <;> simp

/-- What `freshen` leaves as it is. -/
@[simp] theorem freshen_keeps (s : State) :
    (freshen s).pending = s.pending ∧ (freshen s).timebase = s.timebase ∧ (freshen s).bus = s.bus ∧
    (freshen s).mem = s.mem ∧ (freshen s).port = s.port ∧ (freshen s).items = s.items ∧
    (freshen s).request = s.request ∧ (freshen s).route = s.route ∧ (freshen s).tracker = s.tracker ∧
    (freshen s).res = s.res ∧ (freshen s).status.clearPending = s.status.clearPending ∧
    (freshen s).link .a = s.link .a ∧ (freshen s).link .b = s.link .b := by
  unfold freshen; dsimp only; split <;> simp

/-- What `judgeLock` leaves as it is. -/
@[simp] theorem judgeLock_keeps (v : Verdict) (s : State) :
    (judgeLock v s).pending = s.pending ∧ (judgeLock v s).timebase = s.timebase ∧ (judgeLock v s).bus = s.bus ∧
    (judgeLock v s).mem = s.mem ∧ (judgeLock v s).port = s.port ∧ (judgeLock v s).items = s.items ∧
    (judgeLock v s).request = s.request ∧ (judgeLock v s).route = s.route ∧ (judgeLock v s).tracker = s.tracker ∧
    (judgeLock v s).res = s.res ∧ (judgeLock v s).status.clearPending = s.status.clearPending ∧
    (judgeLock v s).link .a = s.link .a ∧ (judgeLock v s).link .b = s.link .b := by
  unfold judgeLock; dsimp only; (repeat' split) <;> simp

/-- What `judgeMode` leaves as it is. -/
@[simp] theorem judgeMode_keeps (k : Lock) (v : Verdict) (s : State) :
    (judgeMode k v s).pending = s.pending ∧ (judgeMode k v s).timebase = s.timebase ∧
    (judgeMode k v s).bus = s.bus ∧ (judgeMode k v s).mem = s.mem ∧ (judgeMode k v s).port = s.port ∧
    (judgeMode k v s).items = s.items ∧ (judgeMode k v s).request = s.request ∧ (judgeMode k v s).route = s.route ∧
    (judgeMode k v s).tracker = s.tracker ∧ (judgeMode k v s).res = s.res ∧
    (judgeMode k v s).status.clearPending = s.status.clearPending ∧ (judgeMode k v s).link .a = s.link .a ∧
    (judgeMode k v s).link .b = s.link .b := by
  unfold judgeMode; try dsimp only
  all_goals (repeat' split) <;> simp

/-- What `moveFigures` leaves as it is. -/
@[simp] theorem moveFigures_keeps (v : Verdict) (r : Report) (s : State) :
    (moveFigures v r s).pending = s.pending ∧ (moveFigures v r s).timebase = s.timebase ∧
    (moveFigures v r s).bus = s.bus ∧ (moveFigures v r s).mem = s.mem ∧ (moveFigures v r s).port = s.port ∧
    (moveFigures v r s).items = s.items ∧ (moveFigures v r s).request = s.request ∧
    (moveFigures v r s).route = s.route ∧ (moveFigures v r s).tracker = s.tracker ∧
    (moveFigures v r s).res = s.res ∧ (moveFigures v r s).notices = s.notices ∧
    (moveFigures v r s).status.counts = s.status.counts ∧
    (moveFigures v r s).status.clearPending = s.status.clearPending ∧
    (∀ m, (moveFigures v r s).link m = s.link m) := by
  unfold moveFigures; simp

/-- What `offerStates` leaves as it is. -/
@[simp] theorem offerStates_keeps (r : Report) (s : State) :
    (offerStates r s).pending = s.pending ∧ (offerStates r s).timebase = s.timebase ∧
    (offerStates r s).bus = s.bus ∧ (offerStates r s).mem = s.mem ∧ (offerStates r s).port = s.port ∧
    (offerStates r s).items = s.items ∧ (offerStates r s).request = s.request ∧ (offerStates r s).route = s.route ∧
    (offerStates r s).tracker = s.tracker ∧ (offerStates r s).res = s.res ∧ (offerStates r s).notices = s.notices ∧
    (offerStates r s).status.counts = s.status.counts ∧
    (offerStates r s).status.clearPending = s.status.clearPending := by
  unfold offerStates; dsimp only; split <;> simp

/-- What `takeReport` leaves as it is. -/
@[simp] theorem takeReport_keeps (r : Report) (s : State) :
    (takeReport r s).pending = s.pending ∧ (takeReport r s).timebase = s.timebase ∧ (takeReport r s).bus = s.bus ∧
    (takeReport r s).mem = s.mem ∧ (takeReport r s).port = s.port ∧ (takeReport r s).items = s.items ∧
    (takeReport r s).status.clearPending = s.status.clearPending := by
  unfold takeReport; dsimp only; split <;> simp

/-- What `expireFreshness` leaves as it is. -/
@[simp] theorem expireFreshness_keeps (s : State) :
    (expireFreshness s).pending = s.pending ∧ (expireFreshness s).bus = s.bus ∧ (expireFreshness s).mem = s.mem ∧
    (expireFreshness s).port = s.port ∧ (expireFreshness s).items = s.items ∧
    (expireFreshness s).request = s.request ∧ (expireFreshness s).route = s.route ∧
    (expireFreshness s).tracker = s.tracker ∧ (expireFreshness s).res = s.res ∧
    (expireFreshness s).status.clearPending = s.status.clearPending ∧ (expireFreshness s).link .a = s.link .a ∧
    (expireFreshness s).link .b = s.link .b := by
  unfold expireFreshness; (repeat' split) <;> simp

/-- What `fireCoastStep` leaves as it is. -/
@[simp] theorem fireCoastStep_keeps (s : State) :
    (fireCoastStep s).pending = s.pending ∧ (fireCoastStep s).bus = s.bus ∧ (fireCoastStep s).mem = s.mem ∧
    (fireCoastStep s).port = s.port ∧ (fireCoastStep s).items = s.items ∧ (fireCoastStep s).request = s.request ∧
    (fireCoastStep s).route = s.route ∧ (fireCoastStep s).status.clearPending = s.status.clearPending ∧
    (fireCoastStep s).link .a = s.link .a ∧ (fireCoastStep s).link .b = s.link .b := by
  unfold fireCoastStep; dsimp only; (repeat' split) <;> simp

/-! ## Enumeration -/

/-- What `beginFrame` leaves as it is. -/
@[simp] theorem beginFrame_keeps (l : LinkId) (p : Purpose) (a : Nat) (k : FrameKind) (ws : List Half) (s : State) :
    (beginFrame l p a k ws s).pending = s.pending ∧ (beginFrame l p a k ws s).timebase = s.timebase ∧
    (beginFrame l p a k ws s).bus = s.bus ∧ (beginFrame l p a k ws s).mem = s.mem ∧
    (beginFrame l p a k ws s).port = s.port ∧ (beginFrame l p a k ws s).items = s.items ∧
    (beginFrame l p a k ws s).request = s.request ∧ (beginFrame l p a k ws s).route = s.route ∧
    (beginFrame l p a k ws s).filter = s.filter ∧ (beginFrame l p a k ws s).tracker = s.tracker ∧
    (beginFrame l p a k ws s).res = s.res ∧ (beginFrame l p a k ws s).notices = s.notices ∧
    (beginFrame l p a k ws s).status.dirty = s.status.dirty ∧
    (beginFrame l p a k ws s).status.counts = s.status.counts ∧
    (beginFrame l p a k ws s).status.clearPending = s.status.clearPending := by
  unfold beginFrame; try dsimp only
  all_goals (repeat' split) <;> simp

/-- `beginFrame` leaves the other links alone. -/
@[simp] theorem beginFrame_other (l : LinkId) (p : Purpose) (a : Nat) (k : FrameKind) (ws : List Half) (s : State) (m : LinkId) (h : m ≠ l) :
    (beginFrame l p a k ws s).link m = s.link m := by
  unfold beginFrame; try dsimp only
  all_goals (repeat' split) <;> simp [h]

/-- The link of a begun frame. -/
@[simp] theorem beginFrame_self (l : LinkId) (p : Purpose) (a : Nat) (k : FrameKind) (ws : List Half) (s : State) :
    (beginFrame l p a k ws s).link l =
      { s.link l with transaction := some ⟨p, a, frameOf a k ws, s.items.replyWindow, s.timebase⟩ } := by
  unfold beginFrame; simp

/-- What `clearTransaction` leaves as it is. -/
@[simp] theorem clearTransaction_keeps (l : LinkId) (s : State) :
    (clearTransaction l s).pending = s.pending ∧ (clearTransaction l s).timebase = s.timebase ∧
    (clearTransaction l s).bus = s.bus ∧ (clearTransaction l s).mem = s.mem ∧ (clearTransaction l s).port = s.port ∧
    (clearTransaction l s).items = s.items ∧ (clearTransaction l s).request = s.request ∧
    (clearTransaction l s).route = s.route ∧ (clearTransaction l s).filter = s.filter ∧
    (clearTransaction l s).tracker = s.tracker ∧ (clearTransaction l s).res = s.res ∧
    (clearTransaction l s).notices = s.notices ∧ (clearTransaction l s).status.dirty = s.status.dirty ∧
    (clearTransaction l s).status.counts = s.status.counts ∧
    (clearTransaction l s).status.clearPending = s.status.clearPending := by
  unfold clearTransaction; try dsimp only
  all_goals (repeat' split) <;> simp

/-- `clearTransaction` leaves the other links alone. -/
@[simp] theorem clearTransaction_other (l : LinkId) (s : State) (m : LinkId) (h : m ≠ l) :
    (clearTransaction l s).link m = s.link m := by
  unfold clearTransaction; try dsimp only
  all_goals (repeat' split) <;> simp [h]

/-- The link of an ended transaction. -/
@[simp] theorem clearTransaction_self (l : LinkId) (s : State) :
    (clearTransaction l s).link l = { s.link l with transaction := none } := by
  unfold clearTransaction; simp

/-- What `countMiss` leaves as it is. -/
@[simp] theorem countMiss_keeps (l : LinkId) (s : State) :
    (countMiss l s).pending = s.pending ∧ (countMiss l s).timebase = s.timebase ∧ (countMiss l s).bus = s.bus ∧
    (countMiss l s).mem = s.mem ∧ (countMiss l s).port = s.port ∧ (countMiss l s).items = s.items ∧
    (countMiss l s).request = s.request ∧ (countMiss l s).route = s.route ∧ (countMiss l s).filter = s.filter ∧
    (countMiss l s).tracker = s.tracker ∧ (countMiss l s).res = s.res ∧ (countMiss l s).notices = s.notices ∧
    (countMiss l s).status.clearPending = s.status.clearPending := by
  unfold countMiss; try dsimp only
  all_goals (repeat' split) <;> simp

/-- `countMiss` leaves the other links alone. -/
@[simp] theorem countMiss_other (l : LinkId) (s : State) (m : LinkId) (h : m ≠ l) :
    (countMiss l s).link m = s.link m := by
  unfold countMiss; try dsimp only
  all_goals (repeat' split) <;> simp [h]

/-- What `unbind` leaves as it is. -/
@[simp] theorem unbind_keeps (l : LinkId) (s : State) :
    (unbind l s).pending = s.pending ∧ (unbind l s).timebase = s.timebase ∧ (unbind l s).bus = s.bus ∧
    (unbind l s).mem = s.mem ∧ (unbind l s).port = s.port ∧ (unbind l s).items = s.items ∧
    (unbind l s).request = s.request ∧ (unbind l s).route = s.route ∧ (unbind l s).filter = s.filter ∧
    (unbind l s).tracker = s.tracker ∧ (unbind l s).notices = s.notices ∧
    (unbind l s).status.counts = s.status.counts ∧ (unbind l s).status.clearPending = s.status.clearPending ∧
    (∀ m, (unbind l s).link m = s.link m) := by
  unfold unbind; try dsimp only
  all_goals (repeat' split) <;> simp

/-- What `startEnumeration` leaves as it is. -/
@[simp] theorem startEnumeration_keeps (l : LinkId) (s : State) :
    (startEnumeration l s).pending = s.pending ∧ (startEnumeration l s).timebase = s.timebase ∧
    (startEnumeration l s).bus = s.bus ∧ (startEnumeration l s).mem = s.mem ∧ (startEnumeration l s).port = s.port ∧
    (startEnumeration l s).items = s.items ∧ (startEnumeration l s).request = s.request ∧
    (startEnumeration l s).route = s.route ∧ (startEnumeration l s).filter = s.filter ∧
    (startEnumeration l s).tracker = s.tracker ∧ (startEnumeration l s).notices = s.notices ∧
    (startEnumeration l s).status.counts = s.status.counts ∧
    (startEnumeration l s).status.clearPending = s.status.clearPending := by
  unfold startEnumeration; try dsimp only
  all_goals (repeat' split) <;> simp

/-- `startEnumeration` leaves the other links alone. -/
@[simp] theorem startEnumeration_other (l : LinkId) (s : State) (m : LinkId) (h : m ≠ l) :
    (startEnumeration l s).link m = s.link m := by
  unfold startEnumeration; try dsimp only
  all_goals (repeat' split) <;> simp [h]

/-- What `disableLink` leaves as it is. -/
@[simp] theorem disableLink_keeps (l : LinkId) (s : State) :
    (disableLink l s).pending = s.pending ∧ (disableLink l s).timebase = s.timebase ∧
    (disableLink l s).bus = s.bus ∧ (disableLink l s).mem = s.mem ∧ (disableLink l s).port = s.port ∧
    (disableLink l s).items = s.items ∧ (disableLink l s).request = s.request ∧ (disableLink l s).route = s.route ∧
    (disableLink l s).filter = s.filter ∧ (disableLink l s).tracker = s.tracker ∧
    (disableLink l s).notices = s.notices ∧ (disableLink l s).status.counts = s.status.counts ∧
    (disableLink l s).status.clearPending = s.status.clearPending := by
  unfold disableLink; try dsimp only
  all_goals (repeat' split) <;> simp

/-- `disableLink` leaves the other links alone. -/
@[simp] theorem disableLink_other (l : LinkId) (s : State) (m : LinkId) (h : m ≠ l) :
    (disableLink l s).link m = s.link m := by
  unfold disableLink; try dsimp only
  all_goals (repeat' split) <;> simp [h]

/-- What `switchLink` leaves as it is. -/
@[simp] theorem switchLink_keeps (b c : Bool) (l : LinkId) (s : State) :
    (switchLink b c l s).pending = s.pending ∧ (switchLink b c l s).timebase = s.timebase ∧
    (switchLink b c l s).bus = s.bus ∧ (switchLink b c l s).mem = s.mem ∧ (switchLink b c l s).port = s.port ∧
    (switchLink b c l s).items = s.items ∧ (switchLink b c l s).request = s.request ∧
    (switchLink b c l s).route = s.route ∧ (switchLink b c l s).filter = s.filter ∧
    (switchLink b c l s).tracker = s.tracker ∧ (switchLink b c l s).notices = s.notices ∧
    (switchLink b c l s).status.counts = s.status.counts ∧
    (switchLink b c l s).status.clearPending = s.status.clearPending := by
  unfold switchLink; try dsimp only
  all_goals (repeat' split) <;> simp

/-- `switchLink` leaves the other links alone. -/
@[simp] theorem switchLink_other (b c : Bool) (l : LinkId) (s : State) (m : LinkId) (h : m ≠ l) :
    (switchLink b c l s).link m = s.link m := by
  unfold switchLink; try dsimp only
  all_goals (repeat' split) <;> simp [h]

/-- What `sendBasePage` leaves as it is. -/
@[simp] theorem sendBasePage_keeps (l : LinkId) (n : Nat) (s : State) :
    (sendBasePage l n s).pending = s.pending ∧ (sendBasePage l n s).timebase = s.timebase ∧
    (sendBasePage l n s).bus = s.bus ∧ (sendBasePage l n s).mem = s.mem ∧ (sendBasePage l n s).port = s.port ∧
    (sendBasePage l n s).items = s.items ∧ (sendBasePage l n s).request = s.request ∧
    (sendBasePage l n s).route = s.route ∧ (sendBasePage l n s).filter = s.filter ∧
    (sendBasePage l n s).tracker = s.tracker ∧ (sendBasePage l n s).res = s.res ∧
    (sendBasePage l n s).notices = s.notices ∧ (sendBasePage l n s).status.dirty = s.status.dirty ∧
    (sendBasePage l n s).status.counts = s.status.counts ∧
    (sendBasePage l n s).status.clearPending = s.status.clearPending := by
  unfold sendBasePage; try dsimp only
  all_goals (repeat' split) <;> simp

/-- `sendBasePage` leaves the other links alone. -/
@[simp] theorem sendBasePage_other (l : LinkId) (n : Nat) (s : State) (m : LinkId) (h : m ≠ l) :
    (sendBasePage l n s).link m = s.link m := by
  unfold sendBasePage; try dsimp only
  all_goals (repeat' split) <;> simp [h]

/-- What `sendExtendedPage` leaves as it is. -/
@[simp] theorem sendExtendedPage_keeps (l : LinkId) (n k : Nat) (p : Page) (s : State) :
    (sendExtendedPage l n k p s).pending = s.pending ∧ (sendExtendedPage l n k p s).timebase = s.timebase ∧
    (sendExtendedPage l n k p s).bus = s.bus ∧ (sendExtendedPage l n k p s).mem = s.mem ∧
    (sendExtendedPage l n k p s).port = s.port ∧ (sendExtendedPage l n k p s).items = s.items ∧
    (sendExtendedPage l n k p s).request = s.request ∧ (sendExtendedPage l n k p s).route = s.route ∧
    (sendExtendedPage l n k p s).filter = s.filter ∧ (sendExtendedPage l n k p s).tracker = s.tracker ∧
    (sendExtendedPage l n k p s).res = s.res ∧ (sendExtendedPage l n k p s).notices = s.notices ∧
    (sendExtendedPage l n k p s).status.dirty = s.status.dirty ∧
    (sendExtendedPage l n k p s).status.counts = s.status.counts ∧
    (sendExtendedPage l n k p s).status.clearPending = s.status.clearPending := by
  unfold sendExtendedPage; try dsimp only
  all_goals (repeat' split) <;> simp

/-- `sendExtendedPage` leaves the other links alone. -/
@[simp] theorem sendExtendedPage_other (l : LinkId) (n k : Nat) (p : Page) (s : State) (m : LinkId) (h : m ≠ l) :
    (sendExtendedPage l n k p s).link m = s.link m := by
  unfold sendExtendedPage; try dsimp only
  all_goals (repeat' split) <;> simp [h]

/-- What `sendSetAddress` leaves as it is. -/
@[simp] theorem sendSetAddress_keeps (l : LinkId) (n : Nat) (p : Page) (s : State) :
    (sendSetAddress l n p s).pending = s.pending ∧ (sendSetAddress l n p s).timebase = s.timebase ∧
    (sendSetAddress l n p s).bus = s.bus ∧ (sendSetAddress l n p s).mem = s.mem ∧
    (sendSetAddress l n p s).port = s.port ∧ (sendSetAddress l n p s).items = s.items ∧
    (sendSetAddress l n p s).request = s.request ∧ (sendSetAddress l n p s).route = s.route ∧
    (sendSetAddress l n p s).filter = s.filter ∧ (sendSetAddress l n p s).tracker = s.tracker ∧
    (sendSetAddress l n p s).res = s.res ∧ (sendSetAddress l n p s).notices = s.notices ∧
    (sendSetAddress l n p s).status.dirty = s.status.dirty ∧
    (sendSetAddress l n p s).status.counts = s.status.counts ∧
    (sendSetAddress l n p s).status.clearPending = s.status.clearPending := by
  unfold sendSetAddress; try dsimp only
  all_goals (repeat' split) <;> simp

/-- `sendSetAddress` leaves the other links alone. -/
@[simp] theorem sendSetAddress_other (l : LinkId) (n : Nat) (p : Page) (s : State) (m : LinkId) (h : m ≠ l) :
    (sendSetAddress l n p s).link m = s.link m := by
  unfold sendSetAddress; try dsimp only
  all_goals (repeat' split) <;> simp [h]

/-- What `sendCheckProbe` leaves as it is. -/
@[simp] theorem sendCheckProbe_keeps (l : LinkId) (n : Nat) (p : Page) (s : State) :
    (sendCheckProbe l n p s).pending = s.pending ∧ (sendCheckProbe l n p s).timebase = s.timebase ∧
    (sendCheckProbe l n p s).bus = s.bus ∧ (sendCheckProbe l n p s).mem = s.mem ∧
    (sendCheckProbe l n p s).port = s.port ∧ (sendCheckProbe l n p s).items = s.items ∧
    (sendCheckProbe l n p s).request = s.request ∧ (sendCheckProbe l n p s).route = s.route ∧
    (sendCheckProbe l n p s).filter = s.filter ∧ (sendCheckProbe l n p s).tracker = s.tracker ∧
    (sendCheckProbe l n p s).res = s.res ∧ (sendCheckProbe l n p s).notices = s.notices ∧
    (sendCheckProbe l n p s).status.dirty = s.status.dirty ∧
    (sendCheckProbe l n p s).status.counts = s.status.counts ∧
    (sendCheckProbe l n p s).status.clearPending = s.status.clearPending := by
  unfold sendCheckProbe; try dsimp only
  all_goals (repeat' split) <;> simp

/-- `sendCheckProbe` leaves the other links alone. -/
@[simp] theorem sendCheckProbe_other (l : LinkId) (n : Nat) (p : Page) (s : State) (m : LinkId) (h : m ≠ l) :
    (sendCheckProbe l n p s).link m = s.link m := by
  unfold sendCheckProbe; try dsimp only
  all_goals (repeat' split) <;> simp [h]

/-- What `bindSeats` leaves as it is. -/
@[simp] theorem bindSeats_keeps (l : LinkId) (a : Nat) (p : Page) (s : State) :
    (bindSeats l a p s).pending = s.pending ∧ (bindSeats l a p s).timebase = s.timebase ∧
    (bindSeats l a p s).bus = s.bus ∧ (bindSeats l a p s).mem = s.mem ∧ (bindSeats l a p s).port = s.port ∧
    (bindSeats l a p s).items = s.items ∧ (bindSeats l a p s).request = s.request ∧
    (bindSeats l a p s).route = s.route ∧ (bindSeats l a p s).filter = s.filter ∧
    (bindSeats l a p s).tracker = s.tracker ∧ (bindSeats l a p s).notices = s.notices ∧
    (bindSeats l a p s).status.counts = s.status.counts ∧
    (bindSeats l a p s).status.clearPending = s.status.clearPending ∧
    (∀ m, (bindSeats l a p s).link m = s.link m) := by
  unfold bindSeats; induction usableLabels p generalizing s with
  | nil => simp
  | cons x xs ih => simp [ih]

/-- What `enterUnit` leaves as it is. -/
@[simp] theorem enterUnit_keeps (l : LinkId) (p : Page) (s : State) :
    (enterUnit l p s).pending = s.pending ∧ (enterUnit l p s).timebase = s.timebase ∧
    (enterUnit l p s).bus = s.bus ∧ (enterUnit l p s).mem = s.mem ∧ (enterUnit l p s).port = s.port ∧
    (enterUnit l p s).items = s.items ∧ (enterUnit l p s).request = s.request ∧ (enterUnit l p s).route = s.route ∧
    (enterUnit l p s).filter = s.filter ∧ (enterUnit l p s).tracker = s.tracker ∧
    (enterUnit l p s).status.clearPending = s.status.clearPending := by
  unfold enterUnit; dsimp only; split <;> (try split) <;> simp

/-- `enterUnit` leaves the other links alone. -/
@[simp] theorem enterUnit_other (l : LinkId) (p : Page) (s : State) (m : LinkId) (h : m ≠ l) :
    (enterUnit l p s).link m = s.link m := by
  unfold enterUnit; try dsimp only
  all_goals (repeat' split) <;> simp [h]

/-- What `judgeQuiet` leaves as it is. -/
@[simp] theorem judgeQuiet_keeps (l : LinkId) (s : State) :
    (judgeQuiet l s).pending = s.pending ∧ (judgeQuiet l s).timebase = s.timebase ∧ (judgeQuiet l s).bus = s.bus ∧
    (judgeQuiet l s).mem = s.mem ∧ (judgeQuiet l s).port = s.port ∧ (judgeQuiet l s).items = s.items ∧
    (judgeQuiet l s).request = s.request ∧ (judgeQuiet l s).route = s.route ∧ (judgeQuiet l s).filter = s.filter ∧
    (judgeQuiet l s).tracker = s.tracker ∧ (judgeQuiet l s).res = s.res ∧ (judgeQuiet l s).notices = s.notices ∧
    (judgeQuiet l s).status.dirty = s.status.dirty ∧ (judgeQuiet l s).status.counts = s.status.counts ∧
    (judgeQuiet l s).status.clearPending = s.status.clearPending := by
  unfold judgeQuiet; try dsimp only
  all_goals (repeat' split) <;> simp

/-- `judgeQuiet` leaves the other links alone. -/
@[simp] theorem judgeQuiet_other (l : LinkId) (s : State) (m : LinkId) (h : m ≠ l) :
    (judgeQuiet l s).link m = s.link m := by
  unfold judgeQuiet; try dsimp only
  all_goals (repeat' split) <;> simp [h]

/-- What `endEnumeration` leaves as it is. -/
@[simp] theorem endEnumeration_keeps (l : LinkId) (x : Ending) (s : State) :
    (endEnumeration l x s).pending = s.pending ∧ (endEnumeration l x s).timebase = s.timebase ∧
    (endEnumeration l x s).bus = s.bus ∧ (endEnumeration l x s).mem = s.mem ∧ (endEnumeration l x s).port = s.port ∧
    (endEnumeration l x s).items = s.items ∧ (endEnumeration l x s).request = s.request ∧
    (endEnumeration l x s).route = s.route ∧ (endEnumeration l x s).filter = s.filter ∧
    (endEnumeration l x s).tracker = s.tracker ∧ (endEnumeration l x s).res = s.res ∧
    (endEnumeration l x s).status.clearPending = s.status.clearPending := by
  unfold endEnumeration; try dsimp only
  all_goals (repeat' split) <;> simp

/-- `endEnumeration` leaves the other links alone. -/
@[simp] theorem endEnumeration_other (l : LinkId) (x : Ending) (s : State) (m : LinkId) (h : m ≠ l) :
    (endEnumeration l x s).link m = s.link m := by
  unfold endEnumeration; try dsimp only
  all_goals (repeat' split) <;> simp [h]

/-- What `breakEnumeration` leaves as it is. -/
@[simp] theorem breakEnumeration_keeps (l : LinkId) (x : Option Nat) (s : State) :
    (breakEnumeration l x s).pending = s.pending ∧ (breakEnumeration l x s).timebase = s.timebase ∧
    (breakEnumeration l x s).bus = s.bus ∧ (breakEnumeration l x s).mem = s.mem ∧
    (breakEnumeration l x s).port = s.port ∧ (breakEnumeration l x s).items = s.items ∧
    (breakEnumeration l x s).request = s.request ∧ (breakEnumeration l x s).route = s.route ∧
    (breakEnumeration l x s).filter = s.filter ∧ (breakEnumeration l x s).tracker = s.tracker ∧
    (breakEnumeration l x s).res = s.res ∧
    (breakEnumeration l x s).status.clearPending = s.status.clearPending := by
  unfold breakEnumeration; try dsimp only
  all_goals (repeat' split) <;> simp

/-- `breakEnumeration` leaves the other links alone. -/
@[simp] theorem breakEnumeration_other (l : LinkId) (x : Option Nat) (s : State) (m : LinkId) (h : m ≠ l) :
    (breakEnumeration l x s).link m = s.link m := by
  unfold breakEnumeration; try dsimp only
  all_goals (repeat' split) <;> simp [h]

/-- What `takeBasePage` leaves as it is. -/
@[simp] theorem takeBasePage_keeps (l : LinkId) (p : Page) (s : State) :
    (takeBasePage l p s).pending = s.pending ∧ (takeBasePage l p s).timebase = s.timebase ∧
    (takeBasePage l p s).bus = s.bus ∧ (takeBasePage l p s).mem = s.mem ∧ (takeBasePage l p s).port = s.port ∧
    (takeBasePage l p s).items = s.items ∧ (takeBasePage l p s).request = s.request ∧
    (takeBasePage l p s).route = s.route ∧ (takeBasePage l p s).filter = s.filter ∧
    (takeBasePage l p s).tracker = s.tracker ∧ (takeBasePage l p s).res = s.res ∧
    (takeBasePage l p s).status.clearPending = s.status.clearPending := by
  unfold takeBasePage; try dsimp only
  all_goals (repeat' split) <;> simp

/-- `takeBasePage` leaves the other links alone. -/
@[simp] theorem takeBasePage_other (l : LinkId) (p : Page) (s : State) (m : LinkId) (h : m ≠ l) :
    (takeBasePage l p s).link m = s.link m := by
  unfold takeBasePage; try dsimp only
  all_goals (repeat' split) <;> simp [h]

/-- What `takeExtendedPage` leaves as it is. -/
@[simp] theorem takeExtendedPage_keeps (l : LinkId) (n : Nat) (p : Page) (w : Half) (s : State) :
    (takeExtendedPage l n p w s).pending = s.pending ∧ (takeExtendedPage l n p w s).timebase = s.timebase ∧
    (takeExtendedPage l n p w s).bus = s.bus ∧ (takeExtendedPage l n p w s).mem = s.mem ∧
    (takeExtendedPage l n p w s).port = s.port ∧ (takeExtendedPage l n p w s).items = s.items ∧
    (takeExtendedPage l n p w s).request = s.request ∧ (takeExtendedPage l n p w s).route = s.route ∧
    (takeExtendedPage l n p w s).filter = s.filter ∧ (takeExtendedPage l n p w s).tracker = s.tracker ∧
    (takeExtendedPage l n p w s).res = s.res ∧ (takeExtendedPage l n p w s).notices = s.notices ∧
    (takeExtendedPage l n p w s).status.dirty = s.status.dirty ∧
    (takeExtendedPage l n p w s).status.counts = s.status.counts ∧
    (takeExtendedPage l n p w s).status.clearPending = s.status.clearPending := by
  unfold takeExtendedPage; try dsimp only
  all_goals (repeat' split) <;> simp

/-- `takeExtendedPage` leaves the other links alone. -/
@[simp] theorem takeExtendedPage_other (l : LinkId) (n : Nat) (p : Page) (w : Half) (s : State) (m : LinkId) (h : m ≠ l) :
    (takeExtendedPage l n p w s).link m = s.link m := by
  unfold takeExtendedPage; try dsimp only
  all_goals (repeat' split) <;> simp [h]

/-- What `addressTaken` leaves as it is. -/
@[simp] theorem addressTaken_keeps (l : LinkId) (p : Page) (s : State) :
    (addressTaken l p s).pending = s.pending ∧ (addressTaken l p s).timebase = s.timebase ∧
    (addressTaken l p s).bus = s.bus ∧ (addressTaken l p s).mem = s.mem ∧ (addressTaken l p s).port = s.port ∧
    (addressTaken l p s).items = s.items ∧ (addressTaken l p s).request = s.request ∧
    (addressTaken l p s).route = s.route ∧ (addressTaken l p s).filter = s.filter ∧
    (addressTaken l p s).tracker = s.tracker ∧
    (addressTaken l p s).status.clearPending = s.status.clearPending := by
  unfold addressTaken; try dsimp only
  all_goals (repeat' split) <;> simp

/-- `addressTaken` leaves the other links alone. -/
@[simp] theorem addressTaken_other (l : LinkId) (p : Page) (s : State) (m : LinkId) (h : m ≠ l) :
    (addressTaken l p s).link m = s.link m := by
  unfold addressTaken; try dsimp only
  all_goals (repeat' split) <;> simp [h]

/-- What `missStep` leaves as it is. -/
@[simp] theorem missStep_keeps (l : LinkId) (p : Purpose) (s : State) :
    (missStep l p s).pending = s.pending ∧ (missStep l p s).timebase = s.timebase ∧ (missStep l p s).bus = s.bus ∧
    (missStep l p s).mem = s.mem ∧ (missStep l p s).port = s.port ∧ (missStep l p s).items = s.items ∧
    (missStep l p s).request = s.request ∧ (missStep l p s).route = s.route ∧ (missStep l p s).filter = s.filter ∧
    (missStep l p s).tracker = s.tracker ∧ (missStep l p s).res = s.res ∧
    (missStep l p s).status.clearPending = s.status.clearPending := by
  unfold missStep; try dsimp only
  all_goals (repeat' split) <;> simp

/-- `missStep` leaves the other links alone. -/
@[simp] theorem missStep_other (l : LinkId) (p : Purpose) (s : State) (m : LinkId) (h : m ≠ l) :
    (missStep l p s).link m = s.link m := by
  unfold missStep; try dsimp only
  all_goals (repeat' split) <;> simp [h]

/-- What `reenumerateLink` leaves as it is. -/
@[simp] theorem reenumerateLink_keeps (l : LinkId) (s : State) :
    (reenumerateLink l s).pending = s.pending ∧ (reenumerateLink l s).timebase = s.timebase ∧
    (reenumerateLink l s).bus = s.bus ∧ (reenumerateLink l s).mem = s.mem ∧ (reenumerateLink l s).port = s.port ∧
    (reenumerateLink l s).items = s.items ∧ (reenumerateLink l s).request = s.request ∧
    (reenumerateLink l s).route = s.route ∧ (reenumerateLink l s).filter = s.filter ∧
    (reenumerateLink l s).tracker = s.tracker ∧ (reenumerateLink l s).notices = s.notices ∧
    (reenumerateLink l s).status.counts = s.status.counts ∧
    (reenumerateLink l s).status.clearPending = s.status.clearPending := by
  unfold reenumerateLink; try dsimp only
  all_goals (repeat' split) <;> simp

/-- `reenumerateLink` leaves the other links alone. -/
@[simp] theorem reenumerateLink_other (l : LinkId) (s : State) (m : LinkId) (h : m ≠ l) :
    (reenumerateLink l s).link m = s.link m := by
  unfold reenumerateLink; try dsimp only
  all_goals (repeat' split) <;> simp [h]

/-! ## Delivery -/

/-- What `showOk` leaves as it is. -/
@[simp] theorem showOk_keeps (l : LinkId) (a : Nat) (c : Content) (s : State) :
    (showOk l a c s).pending = s.pending ∧ (showOk l a c s).timebase = s.timebase ∧ (showOk l a c s).bus = s.bus ∧
    (showOk l a c s).mem = s.mem ∧ (showOk l a c s).port = s.port ∧ (showOk l a c s).items = s.items ∧
    (showOk l a c s).request = s.request ∧ (showOk l a c s).route = s.route ∧ (showOk l a c s).filter = s.filter ∧
    (showOk l a c s).tracker = s.tracker ∧ (showOk l a c s).res = s.res ∧ (showOk l a c s).notices = s.notices ∧
    (showOk l a c s).status.counts = s.status.counts ∧
    (showOk l a c s).status.clearPending = s.status.clearPending := by
  unfold showOk; try dsimp only
  all_goals (repeat' split) <;> simp

/-- `showOk` leaves the other links alone. -/
@[simp] theorem showOk_other (l : LinkId) (a : Nat) (c : Content) (s : State) (m : LinkId) (h : m ≠ l) :
    (showOk l a c s).link m = s.link m := by
  unfold showOk; try dsimp only
  all_goals (repeat' split) <;> simp [h]

/-- What `probeOk` leaves as it is. -/
@[simp] theorem probeOk_keeps (l : LinkId) (a : Nat) (s : State) :
    (probeOk l a s).pending = s.pending ∧ (probeOk l a s).timebase = s.timebase ∧ (probeOk l a s).bus = s.bus ∧
    (probeOk l a s).mem = s.mem ∧ (probeOk l a s).port = s.port ∧ (probeOk l a s).items = s.items ∧
    (probeOk l a s).request = s.request ∧ (probeOk l a s).route = s.route ∧ (probeOk l a s).filter = s.filter ∧
    (probeOk l a s).tracker = s.tracker ∧ (probeOk l a s).res = s.res ∧ (probeOk l a s).notices = s.notices ∧
    (probeOk l a s).status.counts = s.status.counts ∧
    (probeOk l a s).status.clearPending = s.status.clearPending := by
  unfold probeOk; try dsimp only
  all_goals (repeat' split) <;> simp

/-- `probeOk` leaves the other links alone. -/
@[simp] theorem probeOk_other (l : LinkId) (a : Nat) (s : State) (m : LinkId) (h : m ≠ l) :
    (probeOk l a s).link m = s.link m := by
  unfold probeOk; try dsimp only
  all_goals (repeat' split) <;> simp [h]

/-- What `probeBusy` leaves as it is. -/
@[simp] theorem probeBusy_keeps (l : LinkId) (a : Nat) (s : State) :
    (probeBusy l a s).pending = s.pending ∧ (probeBusy l a s).timebase = s.timebase ∧
    (probeBusy l a s).bus = s.bus ∧ (probeBusy l a s).mem = s.mem ∧ (probeBusy l a s).port = s.port ∧
    (probeBusy l a s).items = s.items ∧ (probeBusy l a s).request = s.request ∧ (probeBusy l a s).route = s.route ∧
    (probeBusy l a s).filter = s.filter ∧ (probeBusy l a s).tracker = s.tracker ∧ (probeBusy l a s).res = s.res ∧
    (probeBusy l a s).notices = s.notices ∧ (probeBusy l a s).status.counts = s.status.counts ∧
    (probeBusy l a s).status.clearPending = s.status.clearPending := by
  unfold probeBusy; try dsimp only
  all_goals (repeat' split) <;> simp

/-- `probeBusy` leaves the other links alone. -/
@[simp] theorem probeBusy_other (l : LinkId) (a : Nat) (s : State) (m : LinkId) (h : m ≠ l) :
    (probeBusy l a s).link m = s.link m := by
  unfold probeBusy; try dsimp only
  all_goals (repeat' split) <;> simp [h]

/-- What `showBusy` leaves as it is. -/
@[simp] theorem showBusy_keeps (l : LinkId) (x : Item) (s : State) :
    (showBusy l x s).pending = s.pending ∧ (showBusy l x s).timebase = s.timebase ∧ (showBusy l x s).bus = s.bus ∧
    (showBusy l x s).mem = s.mem ∧ (showBusy l x s).port = s.port ∧ (showBusy l x s).items = s.items ∧
    (showBusy l x s).request = s.request ∧ (showBusy l x s).route = s.route ∧ (showBusy l x s).filter = s.filter ∧
    (showBusy l x s).tracker = s.tracker ∧ (showBusy l x s).res = s.res ∧ (showBusy l x s).notices = s.notices ∧
    (showBusy l x s).status.counts = s.status.counts ∧
    (showBusy l x s).status.clearPending = s.status.clearPending := by
  unfold showBusy; try dsimp only
  all_goals (repeat' split) <;> simp

/-- `showBusy` leaves the other links alone. -/
@[simp] theorem showBusy_other (l : LinkId) (x : Item) (s : State) (m : LinkId) (h : m ≠ l) :
    (showBusy l x s).link m = s.link m := by
  unfold showBusy; try dsimp only
  all_goals (repeat' split) <;> simp [h]

/-- What `oweItem` leaves as it is. -/
@[simp] theorem oweItem_keeps (l : LinkId) (x : Option Item) (s : State) :
    (oweItem l x s).pending = s.pending ∧ (oweItem l x s).timebase = s.timebase ∧ (oweItem l x s).bus = s.bus ∧
    (oweItem l x s).mem = s.mem ∧ (oweItem l x s).port = s.port ∧ (oweItem l x s).items = s.items ∧
    (oweItem l x s).request = s.request ∧ (oweItem l x s).route = s.route ∧ (oweItem l x s).filter = s.filter ∧
    (oweItem l x s).tracker = s.tracker ∧ (oweItem l x s).res = s.res ∧ (oweItem l x s).notices = s.notices ∧
    (oweItem l x s).status.counts = s.status.counts ∧
    (oweItem l x s).status.clearPending = s.status.clearPending := by
  unfold oweItem; try dsimp only
  all_goals (repeat' split) <;> simp

/-- `oweItem` leaves the other links alone. -/
@[simp] theorem oweItem_other (l : LinkId) (x : Option Item) (s : State) (m : LinkId) (h : m ≠ l) :
    (oweItem l x s).link m = s.link m := by
  unfold oweItem; try dsimp only
  all_goals (repeat' split) <;> simp [h]

/-- What `giveBackItem` leaves as it is. -/
@[simp] theorem giveBackItem_keeps (l : LinkId) (x : Option Item) (s : State) :
    (giveBackItem l x s).pending = s.pending ∧ (giveBackItem l x s).timebase = s.timebase ∧
    (giveBackItem l x s).bus = s.bus ∧ (giveBackItem l x s).mem = s.mem ∧ (giveBackItem l x s).port = s.port ∧
    (giveBackItem l x s).items = s.items ∧ (giveBackItem l x s).request = s.request ∧
    (giveBackItem l x s).route = s.route ∧ (giveBackItem l x s).filter = s.filter ∧
    (giveBackItem l x s).tracker = s.tracker ∧ (giveBackItem l x s).res = s.res ∧
    (giveBackItem l x s).notices = s.notices ∧ (giveBackItem l x s).status.counts = s.status.counts ∧
    (giveBackItem l x s).status.clearPending = s.status.clearPending := by
  unfold giveBackItem; try dsimp only
  all_goals (repeat' split) <;> simp

/-- `giveBackItem` leaves the other links alone. -/
@[simp] theorem giveBackItem_other (l : LinkId) (x : Option Item) (s : State) (m : LinkId) (h : m ≠ l) :
    (giveBackItem l x s).link m = s.link m := by
  unfold giveBackItem; try dsimp only
  all_goals (repeat' split) <;> simp [h]

/-- What `latchUnit` leaves as it is. -/
@[simp] theorem latchUnit_keeps (l : LinkId) (a : Nat) (c : FailCause) (x : Option Item) (s : State) :
    (latchUnit l a c x s).pending = s.pending ∧ (latchUnit l a c x s).timebase = s.timebase ∧
    (latchUnit l a c x s).bus = s.bus ∧ (latchUnit l a c x s).mem = s.mem ∧ (latchUnit l a c x s).port = s.port ∧
    (latchUnit l a c x s).items = s.items ∧ (latchUnit l a c x s).request = s.request ∧
    (latchUnit l a c x s).route = s.route ∧ (latchUnit l a c x s).filter = s.filter ∧
    (latchUnit l a c x s).tracker = s.tracker ∧ (latchUnit l a c x s).res = s.res ∧
    (latchUnit l a c x s).status.clearPending = s.status.clearPending := by
  unfold latchUnit; try dsimp only
  all_goals (repeat' split) <;> simp

/-- `latchUnit` leaves the other links alone. -/
@[simp] theorem latchUnit_other (l : LinkId) (a : Nat) (c : FailCause) (x : Option Item) (s : State) (m : LinkId) (h : m ≠ l) :
    (latchUnit l a c x s).link m = s.link m := by
  unfold latchUnit; try dsimp only
  all_goals (repeat' split) <;> simp [h]

/-- What `backoffUnit` leaves as it is. -/
@[simp] theorem backoffUnit_keeps (l : LinkId) (a : Nat) (x : Option Item) (s : State) :
    (backoffUnit l a x s).pending = s.pending ∧ (backoffUnit l a x s).timebase = s.timebase ∧
    (backoffUnit l a x s).bus = s.bus ∧ (backoffUnit l a x s).mem = s.mem ∧ (backoffUnit l a x s).port = s.port ∧
    (backoffUnit l a x s).items = s.items ∧ (backoffUnit l a x s).request = s.request ∧
    (backoffUnit l a x s).route = s.route ∧ (backoffUnit l a x s).filter = s.filter ∧
    (backoffUnit l a x s).tracker = s.tracker ∧ (backoffUnit l a x s).res = s.res ∧
    (backoffUnit l a x s).notices = s.notices ∧ (backoffUnit l a x s).status.counts = s.status.counts ∧
    (backoffUnit l a x s).status.clearPending = s.status.clearPending := by
  unfold backoffUnit; try dsimp only
  all_goals (repeat' split) <;> simp

/-- `backoffUnit` leaves the other links alone. -/
@[simp] theorem backoffUnit_other (l : LinkId) (a : Nat) (x : Option Item) (s : State) (m : LinkId) (h : m ≠ l) :
    (backoffUnit l a x s).link m = s.link m := by
  unfold backoffUnit; try dsimp only
  all_goals (repeat' split) <;> simp [h]

/-- What `reportUnit` leaves as it is. -/
@[simp] theorem reportUnit_keeps (l : LinkId) (a : Nat) (c : FailCause) (x : Option Item) (s : State) :
    (reportUnit l a c x s).pending = s.pending ∧ (reportUnit l a c x s).timebase = s.timebase ∧
    (reportUnit l a c x s).bus = s.bus ∧ (reportUnit l a c x s).mem = s.mem ∧ (reportUnit l a c x s).port = s.port ∧
    (reportUnit l a c x s).items = s.items ∧ (reportUnit l a c x s).request = s.request ∧
    (reportUnit l a c x s).route = s.route ∧ (reportUnit l a c x s).filter = s.filter ∧
    (reportUnit l a c x s).tracker = s.tracker ∧ (reportUnit l a c x s).res = s.res ∧
    (reportUnit l a c x s).status.clearPending = s.status.clearPending := by
  unfold reportUnit; try dsimp only
  all_goals (repeat' split) <;> simp

/-- `reportUnit` leaves the other links alone. -/
@[simp] theorem reportUnit_other (l : LinkId) (a : Nat) (c : FailCause) (x : Option Item) (s : State) (m : LinkId) (h : m ≠ l) :
    (reportUnit l a c x s).link m = s.link m := by
  unfold reportUnit; try dsimp only
  all_goals (repeat' split) <;> simp [h]

/-- What `enterFault` leaves as it is. -/
@[simp] theorem enterFault_keeps (l : LinkId) (a : Nat) (c : FailCause) (x : Option Item) (s : State) :
    (enterFault l a c x s).pending = s.pending ∧ (enterFault l a c x s).timebase = s.timebase ∧
    (enterFault l a c x s).bus = s.bus ∧ (enterFault l a c x s).mem = s.mem ∧ (enterFault l a c x s).port = s.port ∧
    (enterFault l a c x s).items = s.items ∧ (enterFault l a c x s).request = s.request ∧
    (enterFault l a c x s).route = s.route ∧ (enterFault l a c x s).filter = s.filter ∧
    (enterFault l a c x s).tracker = s.tracker ∧ (enterFault l a c x s).res = s.res ∧
    (enterFault l a c x s).status.clearPending = s.status.clearPending := by
  unfold enterFault; try dsimp only
  all_goals (repeat' split) <;> simp

/-- `enterFault` leaves the other links alone. -/
@[simp] theorem enterFault_other (l : LinkId) (a : Nat) (c : FailCause) (x : Option Item) (s : State) (m : LinkId) (h : m ≠ l) :
    (enterFault l a c x s).link m = s.link m := by
  unfold enterFault; try dsimp only
  all_goals (repeat' split) <;> simp [h]

/-- What `missItem` leaves as it is. -/
@[simp] theorem missItem_keeps (l : LinkId) (x : Item) (s : State) :
    (missItem l x s).pending = s.pending ∧ (missItem l x s).timebase = s.timebase ∧ (missItem l x s).bus = s.bus ∧
    (missItem l x s).mem = s.mem ∧ (missItem l x s).port = s.port ∧ (missItem l x s).items = s.items ∧
    (missItem l x s).request = s.request ∧ (missItem l x s).route = s.route ∧ (missItem l x s).filter = s.filter ∧
    (missItem l x s).tracker = s.tracker ∧ (missItem l x s).res = s.res ∧
    (missItem l x s).status.clearPending = s.status.clearPending := by
  unfold missItem; try dsimp only
  all_goals (repeat' split) <;> simp

/-- `missItem` leaves the other links alone. -/
@[simp] theorem missItem_other (l : LinkId) (x : Item) (s : State) (m : LinkId) (h : m ≠ l) :
    (missItem l x s).link m = s.link m := by
  unfold missItem; try dsimp only
  all_goals (repeat' split) <;> simp [h]

/-- What `recoverUnit` leaves as it is. -/
@[simp] theorem recoverUnit_keeps (l : LinkId) (a : Nat) (s : State) :
    (recoverUnit l a s).pending = s.pending ∧ (recoverUnit l a s).timebase = s.timebase ∧
    (recoverUnit l a s).bus = s.bus ∧ (recoverUnit l a s).mem = s.mem ∧ (recoverUnit l a s).port = s.port ∧
    (recoverUnit l a s).items = s.items ∧ (recoverUnit l a s).request = s.request ∧
    (recoverUnit l a s).route = s.route ∧ (recoverUnit l a s).filter = s.filter ∧
    (recoverUnit l a s).tracker = s.tracker ∧ (recoverUnit l a s).res = s.res ∧
    (recoverUnit l a s).status.clearPending = s.status.clearPending := by
  unfold recoverUnit; try dsimp only
  all_goals (repeat' split) <;> simp

/-- `recoverUnit` leaves the other links alone. -/
@[simp] theorem recoverUnit_other (l : LinkId) (a : Nat) (s : State) (m : LinkId) (h : m ≠ l) :
    (recoverUnit l a s).link m = s.link m := by
  unfold recoverUnit; try dsimp only
  all_goals (repeat' split) <;> simp [h]

/-- What `missBackoff` leaves as it is. -/
@[simp] theorem missBackoff_keeps (l : LinkId) (a : Nat) (s : State) :
    (missBackoff l a s).pending = s.pending ∧ (missBackoff l a s).timebase = s.timebase ∧
    (missBackoff l a s).bus = s.bus ∧ (missBackoff l a s).mem = s.mem ∧ (missBackoff l a s).port = s.port ∧
    (missBackoff l a s).items = s.items ∧ (missBackoff l a s).request = s.request ∧
    (missBackoff l a s).route = s.route ∧ (missBackoff l a s).filter = s.filter ∧
    (missBackoff l a s).tracker = s.tracker ∧ (missBackoff l a s).res = s.res ∧
    (missBackoff l a s).status.clearPending = s.status.clearPending := by
  unfold missBackoff; try dsimp only
  all_goals (repeat' split) <;> simp

/-- `missBackoff` leaves the other links alone. -/
@[simp] theorem missBackoff_other (l : LinkId) (a : Nat) (s : State) (m : LinkId) (h : m ≠ l) :
    (missBackoff l a s).link m = s.link m := by
  unfold missBackoff; try dsimp only
  all_goals (repeat' split) <;> simp [h]

/-- What `finishRousing` leaves as it is. -/
@[simp] theorem finishRousing_keeps (l : LinkId) (s : State) :
    (finishRousing l s).pending = s.pending ∧ (finishRousing l s).timebase = s.timebase ∧
    (finishRousing l s).bus = s.bus ∧ (finishRousing l s).mem = s.mem ∧ (finishRousing l s).port = s.port ∧
    (finishRousing l s).items = s.items ∧ (finishRousing l s).request = s.request ∧
    (finishRousing l s).route = s.route ∧ (finishRousing l s).filter = s.filter ∧
    (finishRousing l s).tracker = s.tracker ∧ (finishRousing l s).res = s.res ∧
    (finishRousing l s).notices = s.notices ∧ (finishRousing l s).status.counts = s.status.counts ∧
    (finishRousing l s).status.clearPending = s.status.clearPending := by
  unfold finishRousing; try dsimp only
  all_goals (repeat' split) <;> simp

/-- `finishRousing` leaves the other links alone. -/
@[simp] theorem finishRousing_other (l : LinkId) (s : State) (m : LinkId) (h : m ≠ l) :
    (finishRousing l s).link m = s.link m := by
  unfold finishRousing; try dsimp only
  all_goals (repeat' split) <;> simp [h]

/-- What `advanceWake` leaves as it is. -/
@[simp] theorem advanceWake_keeps (l : LinkId) (x : Option Nat) (s : State) :
    (advanceWake l x s).pending = s.pending ∧ (advanceWake l x s).timebase = s.timebase ∧
    (advanceWake l x s).bus = s.bus ∧ (advanceWake l x s).mem = s.mem ∧ (advanceWake l x s).port = s.port ∧
    (advanceWake l x s).items = s.items ∧ (advanceWake l x s).request = s.request ∧
    (advanceWake l x s).route = s.route ∧ (advanceWake l x s).filter = s.filter ∧
    (advanceWake l x s).tracker = s.tracker ∧ (advanceWake l x s).res = s.res ∧
    (advanceWake l x s).notices = s.notices ∧ (advanceWake l x s).status.counts = s.status.counts ∧
    (advanceWake l x s).status.clearPending = s.status.clearPending := by
  unfold advanceWake; try dsimp only
  all_goals (repeat' split) <;> simp

/-- `advanceWake` leaves the other links alone. -/
@[simp] theorem advanceWake_other (l : LinkId) (x : Option Nat) (s : State) (m : LinkId) (h : m ≠ l) :
    (advanceWake l x s).link m = s.link m := by
  unfold advanceWake; try dsimp only
  all_goals (repeat' split) <;> simp [h]

/-- What `wakeUnit` leaves as it is. -/
@[simp] theorem wakeUnit_keeps (l : LinkId) (a : Nat) (b : Bool) (s : State) :
    (wakeUnit l a b s).pending = s.pending ∧ (wakeUnit l a b s).timebase = s.timebase ∧
    (wakeUnit l a b s).bus = s.bus ∧ (wakeUnit l a b s).mem = s.mem ∧ (wakeUnit l a b s).port = s.port ∧
    (wakeUnit l a b s).items = s.items ∧ (wakeUnit l a b s).request = s.request ∧
    (wakeUnit l a b s).route = s.route ∧ (wakeUnit l a b s).filter = s.filter ∧
    (wakeUnit l a b s).tracker = s.tracker ∧ (wakeUnit l a b s).res = s.res ∧
    (wakeUnit l a b s).notices = s.notices ∧ (wakeUnit l a b s).status.counts = s.status.counts ∧
    (wakeUnit l a b s).status.clearPending = s.status.clearPending := by
  unfold wakeUnit; try dsimp only
  all_goals (repeat' split) <;> simp

/-- `wakeUnit` leaves the other links alone. -/
@[simp] theorem wakeUnit_other (l : LinkId) (a : Nat) (b : Bool) (s : State) (m : LinkId) (h : m ≠ l) :
    (wakeUnit l a b s).link m = s.link m := by
  unfold wakeUnit; try dsimp only
  all_goals (repeat' split) <;> simp [h]

/-- What `endEpisode` leaves as it is. -/
@[simp] theorem endEpisode_keeps (l : LinkId) (a : Nat) (s : State) :
    (endEpisode l a s).pending = s.pending ∧ (endEpisode l a s).timebase = s.timebase ∧
    (endEpisode l a s).bus = s.bus ∧ (endEpisode l a s).mem = s.mem ∧ (endEpisode l a s).port = s.port ∧
    (endEpisode l a s).items = s.items ∧ (endEpisode l a s).request = s.request ∧
    (endEpisode l a s).route = s.route ∧ (endEpisode l a s).filter = s.filter ∧
    (endEpisode l a s).tracker = s.tracker ∧ (endEpisode l a s).res = s.res ∧
    (endEpisode l a s).notices = s.notices ∧ (endEpisode l a s).status.counts = s.status.counts ∧
    (endEpisode l a s).status.clearPending = s.status.clearPending := by
  unfold endEpisode; try dsimp only
  all_goals (repeat' split) <;> simp

/-- `endEpisode` leaves the other links alone. -/
@[simp] theorem endEpisode_other (l : LinkId) (a : Nat) (s : State) (m : LinkId) (h : m ≠ l) :
    (endEpisode l a s).link m = s.link m := by
  unfold endEpisode; try dsimp only
  all_goals (repeat' split) <;> simp [h]

/-- What `wakeMissed` leaves as it is. -/
@[simp] theorem wakeMissed_keeps (l : LinkId) (a : Nat) (s : State) :
    (wakeMissed l a s).pending = s.pending ∧ (wakeMissed l a s).timebase = s.timebase ∧
    (wakeMissed l a s).bus = s.bus ∧ (wakeMissed l a s).mem = s.mem ∧ (wakeMissed l a s).port = s.port ∧
    (wakeMissed l a s).items = s.items ∧ (wakeMissed l a s).request = s.request ∧
    (wakeMissed l a s).route = s.route ∧ (wakeMissed l a s).filter = s.filter ∧
    (wakeMissed l a s).tracker = s.tracker ∧ (wakeMissed l a s).res = s.res ∧
    (wakeMissed l a s).status.clearPending = s.status.clearPending := by
  unfold wakeMissed; try dsimp only
  all_goals (repeat' split) <;> simp

/-- `wakeMissed` leaves the other links alone. -/
@[simp] theorem wakeMissed_other (l : LinkId) (a : Nat) (s : State) (m : LinkId) (h : m ≠ l) :
    (wakeMissed l a s).link m = s.link m := by
  unfold wakeMissed; try dsimp only
  all_goals (repeat' split) <;> simp [h]

/-- What `afterWake` leaves as it is. -/
@[simp] theorem afterWake_keeps (l : LinkId) (s : State) :
    (afterWake l s).pending = s.pending ∧ (afterWake l s).timebase = s.timebase ∧ (afterWake l s).bus = s.bus ∧
    (afterWake l s).mem = s.mem ∧ (afterWake l s).port = s.port ∧ (afterWake l s).items = s.items ∧
    (afterWake l s).request = s.request ∧ (afterWake l s).route = s.route ∧ (afterWake l s).filter = s.filter ∧
    (afterWake l s).tracker = s.tracker ∧ (afterWake l s).res = s.res ∧ (afterWake l s).notices = s.notices ∧
    (afterWake l s).status.counts = s.status.counts ∧
    (afterWake l s).status.clearPending = s.status.clearPending := by
  unfold afterWake; try dsimp only
  all_goals (repeat' split) <;> simp

/-- `afterWake` leaves the other links alone. -/
@[simp] theorem afterWake_other (l : LinkId) (s : State) (m : LinkId) (h : m ≠ l) :
    (afterWake l s).link m = s.link m := by
  unfold afterWake; try dsimp only
  all_goals (repeat' split) <;> simp [h]

/-- What `rested` leaves as it is. -/
@[simp] theorem rested_keeps (l : LinkId) (s : State) :
    (rested l s).pending = s.pending ∧ (rested l s).timebase = s.timebase ∧ (rested l s).bus = s.bus ∧
    (rested l s).mem = s.mem ∧ (rested l s).port = s.port ∧ (rested l s).items = s.items ∧
    (rested l s).request = s.request ∧ (rested l s).route = s.route ∧ (rested l s).filter = s.filter ∧
    (rested l s).tracker = s.tracker ∧ (rested l s).res = s.res ∧ (rested l s).notices = s.notices ∧
    (rested l s).status.counts = s.status.counts ∧ (rested l s).status.clearPending = s.status.clearPending := by
  unfold rested; try dsimp only
  all_goals (repeat' split) <;> simp

/-- `rested` leaves the other links alone. -/
@[simp] theorem rested_other (l : LinkId) (s : State) (m : LinkId) (h : m ≠ l) :
    (rested l s).link m = s.link m := by
  unfold rested; try dsimp only
  all_goals (repeat' split) <;> simp [h]

/-- What `roused` leaves as it is. -/
@[simp] theorem roused_keeps (l : LinkId) (s : State) :
    (roused l s).pending = s.pending ∧ (roused l s).timebase = s.timebase ∧ (roused l s).bus = s.bus ∧
    (roused l s).mem = s.mem ∧ (roused l s).port = s.port ∧ (roused l s).items = s.items ∧
    (roused l s).request = s.request ∧ (roused l s).route = s.route ∧ (roused l s).filter = s.filter ∧
    (roused l s).tracker = s.tracker ∧ (roused l s).res = s.res ∧ (roused l s).notices = s.notices ∧
    (roused l s).status.counts = s.status.counts ∧ (roused l s).status.clearPending = s.status.clearPending := by
  unfold roused; try dsimp only
  all_goals (repeat' split) <;> simp

/-- `roused` leaves the other links alone. -/
@[simp] theorem roused_other (l : LinkId) (s : State) (m : LinkId) (h : m ≠ l) :
    (roused l s).link m = s.link m := by
  unfold roused; try dsimp only
  all_goals (repeat' split) <;> simp [h]

/-- What `handService` leaves as it is. -/
@[simp] theorem handService_keeps (l : LinkId) (s : State) :
    (handService s l).pending = s.pending ∧ (handService s l).timebase = s.timebase ∧
    (handService s l).bus = s.bus ∧ (handService s l).mem = s.mem ∧ (handService s l).port = s.port ∧
    (handService s l).items = s.items ∧ (handService s l).request = s.request ∧ (handService s l).route = s.route ∧
    (handService s l).filter = s.filter ∧ (handService s l).tracker = s.tracker ∧ (handService s l).res = s.res ∧
    (handService s l).notices = s.notices ∧ (handService s l).status.counts = s.status.counts ∧
    (handService s l).status.clearPending = s.status.clearPending := by
  unfold handService; try dsimp only
  all_goals (repeat' split) <;> simp

/-- `handService` leaves the other links alone. -/
@[simp] theorem handService_other (l : LinkId) (s : State) (m : LinkId) (h : m ≠ l) :
    (handService s l).link m = s.link m := by
  unfold handService; try dsimp only
  all_goals (repeat' split) <;> simp [h]

/-- What `expireQuiet` leaves as it is. -/
@[simp] theorem expireQuiet_keeps (l : LinkId) (t : Time) (s : State) :
    (expireQuiet l t s).pending = s.pending ∧ (expireQuiet l t s).bus = s.bus ∧ (expireQuiet l t s).mem = s.mem ∧
    (expireQuiet l t s).port = s.port ∧ (expireQuiet l t s).items = s.items ∧
    (expireQuiet l t s).request = s.request ∧ (expireQuiet l t s).route = s.route ∧
    (expireQuiet l t s).filter = s.filter ∧ (expireQuiet l t s).tracker = s.tracker ∧
    (expireQuiet l t s).res = s.res ∧ (expireQuiet l t s).notices = s.notices ∧
    (expireQuiet l t s).status.counts = s.status.counts ∧
    (expireQuiet l t s).status.clearPending = s.status.clearPending := by
  unfold expireQuiet; try dsimp only
  all_goals (repeat' split) <;> simp

/-- `expireQuiet` leaves the other links alone. -/
@[simp] theorem expireQuiet_other (l : LinkId) (t : Time) (s : State) (m : LinkId) (h : m ≠ l) :
    (expireQuiet l t s).link m = s.link m := by
  unfold expireQuiet; try dsimp only
  all_goals (repeat' split) <;> simp [h]

/-- What `beginItem` leaves as it is. -/
@[simp] theorem beginItem_keeps (l : LinkId) (x : Item) (s : State) :
    (beginItem l x s).pending = s.pending ∧ (beginItem l x s).timebase = s.timebase ∧
    (beginItem l x s).bus = s.bus ∧ (beginItem l x s).mem = s.mem ∧ (beginItem l x s).port = s.port ∧
    (beginItem l x s).items = s.items ∧ (beginItem l x s).request = s.request ∧ (beginItem l x s).route = s.route ∧
    (beginItem l x s).filter = s.filter ∧ (beginItem l x s).tracker = s.tracker ∧ (beginItem l x s).res = s.res ∧
    (beginItem l x s).notices = s.notices ∧ (beginItem l x s).status.dirty = s.status.dirty ∧
    (beginItem l x s).status.counts = s.status.counts ∧
    (beginItem l x s).status.clearPending = s.status.clearPending := by
  unfold beginItem; try dsimp only
  all_goals (repeat' split) <;> simp

/-- `beginItem` leaves the other links alone. -/
@[simp] theorem beginItem_other (l : LinkId) (x : Item) (s : State) (m : LinkId) (h : m ≠ l) :
    (beginItem l x s).link m = s.link m := by
  unfold beginItem; try dsimp only
  all_goals (repeat' split) <;> simp [h]

/-- What `sendHeads` leaves as it is. -/
@[simp] theorem sendHeads_keeps (l : LinkId) (n : Nat) (s : State) :
    (sendHeads l n s).pending = s.pending ∧ (sendHeads l n s).timebase = s.timebase ∧
    (sendHeads l n s).bus = s.bus ∧ (sendHeads l n s).mem = s.mem ∧ (sendHeads l n s).port = s.port ∧
    (sendHeads l n s).items = s.items ∧ (sendHeads l n s).request = s.request ∧ (sendHeads l n s).route = s.route ∧
    (sendHeads l n s).filter = s.filter ∧ (sendHeads l n s).tracker = s.tracker ∧ (sendHeads l n s).res = s.res ∧
    (sendHeads l n s).notices = s.notices ∧ (sendHeads l n s).status.counts = s.status.counts ∧
    (sendHeads l n s).status.clearPending = s.status.clearPending := by
  induction n generalizing s with
  | zero => simp [sendHeads]
  | succ n ih => unfold sendHeads; dsimp only; (repeat' split) <;> simp [ih]

/-- `sendHeads` leaves the other links alone. -/
@[simp] theorem sendHeads_other (l : LinkId) (n : Nat) (s : State) (m : LinkId) (h : m ≠ l) :
    (sendHeads l n s).link m = s.link m := by
  induction n generalizing s with
  | zero => simp [sendHeads, h]
  | succ n ih => unfold sendHeads; dsimp only; (repeat' split) <;> simp [ih, h]

/-- What `sendHead` leaves as it is. -/
@[simp] theorem sendHead_keeps (l : LinkId) (s : State) :
    (sendHead l s).pending = s.pending ∧ (sendHead l s).timebase = s.timebase ∧ (sendHead l s).bus = s.bus ∧
    (sendHead l s).mem = s.mem ∧ (sendHead l s).port = s.port ∧ (sendHead l s).items = s.items ∧
    (sendHead l s).request = s.request ∧ (sendHead l s).route = s.route ∧ (sendHead l s).filter = s.filter ∧
    (sendHead l s).tracker = s.tracker ∧ (sendHead l s).res = s.res ∧ (sendHead l s).notices = s.notices ∧
    (sendHead l s).status.counts = s.status.counts ∧
    (sendHead l s).status.clearPending = s.status.clearPending := by
  unfold sendHead; try dsimp only
  all_goals (repeat' split) <;> simp

/-- `sendHead` leaves the other links alone. -/
@[simp] theorem sendHead_other (l : LinkId) (s : State) (m : LinkId) (h : m ≠ l) :
    (sendHead l s).link m = s.link m := by
  unfold sendHead; try dsimp only
  all_goals (repeat' split) <;> simp [h]

/-- What `sendUnassigned` leaves as it is. -/
@[simp] theorem sendUnassigned_keeps (l : LinkId) (a : Nat) (r : List Nat) (s : State) :
    (sendUnassigned l a r s).pending = s.pending ∧ (sendUnassigned l a r s).timebase = s.timebase ∧
    (sendUnassigned l a r s).bus = s.bus ∧ (sendUnassigned l a r s).mem = s.mem ∧
    (sendUnassigned l a r s).port = s.port ∧ (sendUnassigned l a r s).items = s.items ∧
    (sendUnassigned l a r s).request = s.request ∧ (sendUnassigned l a r s).route = s.route ∧
    (sendUnassigned l a r s).filter = s.filter ∧ (sendUnassigned l a r s).tracker = s.tracker ∧
    (sendUnassigned l a r s).res = s.res ∧ (sendUnassigned l a r s).notices = s.notices ∧
    (sendUnassigned l a r s).status.dirty = s.status.dirty ∧
    (sendUnassigned l a r s).status.counts = s.status.counts ∧
    (sendUnassigned l a r s).status.clearPending = s.status.clearPending := by
  unfold sendUnassigned; try dsimp only
  all_goals (repeat' split) <;> simp

/-- `sendUnassigned` leaves the other links alone. -/
@[simp] theorem sendUnassigned_other (l : LinkId) (a : Nat) (r : List Nat) (s : State) (m : LinkId) (h : m ≠ l) :
    (sendUnassigned l a r s).link m = s.link m := by
  unfold sendUnassigned; try dsimp only
  all_goals (repeat' split) <;> simp [h]

/-- What `sendBackoffProbe` leaves as it is. -/
@[simp] theorem sendBackoffProbe_keeps (l : LinkId) (a : Nat) (s : State) :
    (sendBackoffProbe l a s).pending = s.pending ∧ (sendBackoffProbe l a s).timebase = s.timebase ∧
    (sendBackoffProbe l a s).bus = s.bus ∧ (sendBackoffProbe l a s).mem = s.mem ∧
    (sendBackoffProbe l a s).port = s.port ∧ (sendBackoffProbe l a s).items = s.items ∧
    (sendBackoffProbe l a s).request = s.request ∧ (sendBackoffProbe l a s).route = s.route ∧
    (sendBackoffProbe l a s).filter = s.filter ∧ (sendBackoffProbe l a s).tracker = s.tracker ∧
    (sendBackoffProbe l a s).res = s.res ∧ (sendBackoffProbe l a s).notices = s.notices ∧
    (sendBackoffProbe l a s).status.counts = s.status.counts ∧
    (sendBackoffProbe l a s).status.clearPending = s.status.clearPending := by
  unfold sendBackoffProbe; try dsimp only
  all_goals (repeat' split) <;> simp

/-- `sendBackoffProbe` leaves the other links alone. -/
@[simp] theorem sendBackoffProbe_other (l : LinkId) (a : Nat) (s : State) (m : LinkId) (h : m ≠ l) :
    (sendBackoffProbe l a s).link m = s.link m := by
  unfold sendBackoffProbe; try dsimp only
  all_goals (repeat' split) <;> simp [h]

/-- What `nextFrame` leaves as it is. -/
@[simp] theorem nextFrame_keeps (l : LinkId) (s : State) :
    (nextFrame l s).pending = s.pending ∧ (nextFrame l s).timebase = s.timebase ∧ (nextFrame l s).bus = s.bus ∧
    (nextFrame l s).mem = s.mem ∧ (nextFrame l s).port = s.port ∧ (nextFrame l s).items = s.items ∧
    (nextFrame l s).request = s.request ∧ (nextFrame l s).route = s.route ∧ (nextFrame l s).filter = s.filter ∧
    (nextFrame l s).tracker = s.tracker ∧ (nextFrame l s).res = s.res ∧ (nextFrame l s).notices = s.notices ∧
    (nextFrame l s).status.counts = s.status.counts ∧
    (nextFrame l s).status.clearPending = s.status.clearPending := by
  unfold nextFrame; try dsimp only
  all_goals (repeat' split) <;> simp

/-- `nextFrame` leaves the other links alone. -/
@[simp] theorem nextFrame_other (l : LinkId) (s : State) (m : LinkId) (h : m ≠ l) :
    (nextFrame l s).link m = s.link m := by
  unfold nextFrame; try dsimp only
  all_goals (repeat' split) <;> simp [h]

/-- What `expireProbe` leaves as it is. -/
@[simp] theorem expireProbe_keeps (l : LinkId) (u : UnitEntry) (s : State) :
    (expireProbe l u s).pending = s.pending ∧ (expireProbe l u s).bus = s.bus ∧ (expireProbe l u s).mem = s.mem ∧
    (expireProbe l u s).port = s.port ∧ (expireProbe l u s).items = s.items ∧
    (expireProbe l u s).request = s.request ∧ (expireProbe l u s).route = s.route ∧
    (expireProbe l u s).filter = s.filter ∧ (expireProbe l u s).tracker = s.tracker ∧
    (expireProbe l u s).res = s.res ∧ (expireProbe l u s).notices = s.notices ∧
    (expireProbe l u s).status.counts = s.status.counts ∧
    (expireProbe l u s).status.clearPending = s.status.clearPending := by
  unfold expireProbe; try dsimp only
  all_goals (repeat' split) <;> simp

/-- `expireProbe` leaves the other links alone. -/
@[simp] theorem expireProbe_other (l : LinkId) (u : UnitEntry) (s : State) (m : LinkId) (h : m ≠ l) :
    (expireProbe l u s).link m = s.link m := by
  unfold expireProbe; try dsimp only
  all_goals (repeat' split) <;> simp [h]

/-- What `expireBackoff` leaves as it is. -/
@[simp] theorem expireBackoff_keeps (l : LinkId) (a : Nat) (t : Time) (s : State) :
    (expireBackoff l a t s).pending = s.pending ∧ (expireBackoff l a t s).bus = s.bus ∧
    (expireBackoff l a t s).mem = s.mem ∧ (expireBackoff l a t s).port = s.port ∧
    (expireBackoff l a t s).items = s.items ∧ (expireBackoff l a t s).request = s.request ∧
    (expireBackoff l a t s).route = s.route ∧ (expireBackoff l a t s).filter = s.filter ∧
    (expireBackoff l a t s).tracker = s.tracker ∧ (expireBackoff l a t s).res = s.res ∧
    (expireBackoff l a t s).notices = s.notices ∧ (expireBackoff l a t s).status.counts = s.status.counts ∧
    (expireBackoff l a t s).status.clearPending = s.status.clearPending := by
  unfold expireBackoff; try dsimp only
  all_goals (repeat' split) <;> simp

/-- `expireBackoff` leaves the other links alone. -/
@[simp] theorem expireBackoff_other (l : LinkId) (a : Nat) (t : Time) (s : State) (m : LinkId) (h : m ≠ l) :
    (expireBackoff l a t s).link m = s.link m := by
  unfold expireBackoff; try dsimp only
  all_goals (repeat' split) <;> simp [h]

/-- What `expireHold` leaves as it is. -/
@[simp] theorem expireHold_keeps (l : LinkId) (a : Nat) (t : Time) (s : State) :
    (expireHold l a t s).pending = s.pending ∧ (expireHold l a t s).bus = s.bus ∧ (expireHold l a t s).mem = s.mem ∧
    (expireHold l a t s).port = s.port ∧ (expireHold l a t s).items = s.items ∧
    (expireHold l a t s).request = s.request ∧ (expireHold l a t s).route = s.route ∧
    (expireHold l a t s).filter = s.filter ∧ (expireHold l a t s).tracker = s.tracker ∧
    (expireHold l a t s).res = s.res ∧ (expireHold l a t s).notices = s.notices ∧
    (expireHold l a t s).status.counts = s.status.counts ∧
    (expireHold l a t s).status.clearPending = s.status.clearPending := by
  unfold expireHold; try dsimp only
  all_goals (repeat' split) <;> simp

/-- `expireHold` leaves the other links alone. -/
@[simp] theorem expireHold_other (l : LinkId) (a : Nat) (t : Time) (s : State) (m : LinkId) (h : m ≠ l) :
    (expireHold l a t s).link m = s.link m := by
  unfold expireHold; try dsimp only
  all_goals (repeat' split) <;> simp [h]

/-- What `refreshLink` leaves as it is. -/
@[simp] theorem refreshLink_keeps (l : LinkId) (s : State) :
    (refreshLink l s).pending = s.pending ∧ (refreshLink l s).timebase = s.timebase ∧
    (refreshLink l s).bus = s.bus ∧ (refreshLink l s).mem = s.mem ∧ (refreshLink l s).port = s.port ∧
    (refreshLink l s).items = s.items ∧ (refreshLink l s).request = s.request ∧ (refreshLink l s).route = s.route ∧
    (refreshLink l s).filter = s.filter ∧ (refreshLink l s).tracker = s.tracker ∧ (refreshLink l s).res = s.res ∧
    (refreshLink l s).notices = s.notices ∧ (refreshLink l s).status.counts = s.status.counts ∧
    (refreshLink l s).status.clearPending = s.status.clearPending := by
  unfold refreshLink; try dsimp only
  all_goals (repeat' split) <;> simp

/-- `refreshLink` leaves the other links alone. -/
@[simp] theorem refreshLink_other (l : LinkId) (s : State) (m : LinkId) (h : m ≠ l) :
    (refreshLink l s).link m = s.link m := by
  unfold refreshLink; try dsimp only
  all_goals (repeat' split) <;> simp [h]

/-- What `missTransaction` leaves as it is. -/
@[simp] theorem missTransaction_keeps (l : LinkId) (x : Transaction) (s : State) :
    (missTransaction l x s).pending = s.pending ∧ (missTransaction l x s).timebase = s.timebase ∧
    (missTransaction l x s).bus = s.bus ∧ (missTransaction l x s).mem = s.mem ∧
    (missTransaction l x s).port = s.port ∧ (missTransaction l x s).items = s.items ∧
    (missTransaction l x s).request = s.request ∧ (missTransaction l x s).route = s.route ∧
    (missTransaction l x s).filter = s.filter ∧ (missTransaction l x s).tracker = s.tracker ∧
    (missTransaction l x s).status.clearPending = s.status.clearPending := by
  unfold missTransaction ended; try dsimp only
  all_goals (repeat' split) <;> simp_all

/-- `missTransaction` leaves the other links alone. -/
@[simp] theorem missTransaction_other (l : LinkId) (x : Transaction) (s : State) (m : LinkId) (h : m ≠ l) :
    (missTransaction l x s).link m = s.link m := by
  unfold missTransaction ended; try dsimp only
  all_goals (repeat' split) <;> simp_all

/-- What `takeMalformed` leaves as it is. -/
@[simp] theorem takeMalformed_keeps (l : LinkId) (x : Transaction) (r : Reply) (s : State) :
    (takeMalformed l x r s).pending = s.pending ∧ (takeMalformed l x r s).timebase = s.timebase ∧
    (takeMalformed l x r s).bus = s.bus ∧ (takeMalformed l x r s).mem = s.mem ∧
    (takeMalformed l x r s).port = s.port ∧ (takeMalformed l x r s).items = s.items ∧
    (takeMalformed l x r s).request = s.request ∧ (takeMalformed l x r s).route = s.route ∧
    (takeMalformed l x r s).filter = s.filter ∧ (takeMalformed l x r s).tracker = s.tracker ∧
    (takeMalformed l x r s).status.clearPending = s.status.clearPending := by
  unfold takeMalformed ended; try dsimp only
  all_goals (repeat' split) <;> simp_all

/-- `takeMalformed` leaves the other links alone. -/
@[simp] theorem takeMalformed_other (l : LinkId) (x : Transaction) (r : Reply) (s : State) (m : LinkId) (h : m ≠ l) :
    (takeMalformed l x r s).link m = s.link m := by
  unfold takeMalformed ended; try dsimp only
  all_goals (repeat' split) <;> simp_all

/-! ## Port and bus -/

/-- What `setProgress` leaves as it is. -/
@[simp] theorem setProgress_keeps (a : Option OwnAccess) (s : State) :
    (setProgress a s).pending = s.pending ∧ (setProgress a s).timebase = s.timebase ∧
    (setProgress a s).bus = s.bus ∧ (setProgress a s).mem = s.mem ∧ (setProgress a s).items = s.items ∧
    (setProgress a s).request = s.request ∧ (setProgress a s).route = s.route ∧
    (setProgress a s).filter = s.filter ∧ (setProgress a s).tracker = s.tracker ∧ (setProgress a s).res = s.res ∧
    (setProgress a s).notices = s.notices ∧ (setProgress a s).status.dirty = s.status.dirty ∧
    (setProgress a s).status.counts = s.status.counts ∧
    (setProgress a s).status.clearPending = s.status.clearPending ∧ (∀ m, (setProgress a s).link m = s.link m) := by
  and_intros <;> first | rfl | (intro m; cases m <;> rfl)

/-- What `setStarvation` leaves as it is. -/
@[simp] theorem setStarvation_keeps (n : Nat) (s : State) :
    (setStarvation n s).pending = s.pending ∧ (setStarvation n s).timebase = s.timebase ∧
    (setStarvation n s).bus = s.bus ∧ (setStarvation n s).mem = s.mem ∧ (setStarvation n s).items = s.items ∧
    (setStarvation n s).request = s.request ∧ (setStarvation n s).route = s.route ∧
    (setStarvation n s).filter = s.filter ∧ (setStarvation n s).tracker = s.tracker ∧
    (setStarvation n s).res = s.res ∧ (setStarvation n s).notices = s.notices ∧
    (setStarvation n s).status.dirty = s.status.dirty ∧ (setStarvation n s).status.counts = s.status.counts ∧
    (setStarvation n s).status.clearPending = s.status.clearPending ∧
    (∀ m, (setStarvation n s).link m = s.link m) := by
  and_intros <;> first | rfl | (intro m; cases m <;> rfl)

/-- What `setBurst` leaves as it is. -/
@[simp] theorem setBurst_keeps (b : Burst) (s : State) :
    (setBurst b s).pending = s.pending ∧ (setBurst b s).timebase = s.timebase ∧ (setBurst b s).bus = s.bus ∧
    (setBurst b s).mem = s.mem ∧ (setBurst b s).items = s.items ∧ (setBurst b s).request = s.request ∧
    (setBurst b s).route = s.route ∧ (setBurst b s).filter = s.filter ∧ (setBurst b s).tracker = s.tracker ∧
    (setBurst b s).res = s.res ∧ (setBurst b s).notices = s.notices ∧ (setBurst b s).status.dirty = s.status.dirty ∧
    (setBurst b s).status.counts = s.status.counts ∧ (setBurst b s).status.clearPending = s.status.clearPending ∧
    (∀ m, (setBurst b s).link m = s.link m) := by
  and_intros <;> first | rfl | (intro m; cases m <;> rfl)

/-- What `beginOwn` leaves as it is. -/
@[simp] theorem beginOwn_keeps (s : State) :
    (beginOwn s).pending = s.pending ∧ (beginOwn s).timebase = s.timebase ∧ (beginOwn s).bus = s.bus ∧
    (beginOwn s).mem = s.mem ∧ (beginOwn s).items = s.items ∧ (beginOwn s).request = s.request ∧
    (beginOwn s).route = s.route ∧ (beginOwn s).filter = s.filter ∧ (beginOwn s).tracker = s.tracker ∧
    (beginOwn s).res = s.res ∧ (beginOwn s).notices = s.notices ∧ (beginOwn s).status.dirty = s.status.dirty ∧
    (beginOwn s).status.counts = s.status.counts ∧ (beginOwn s).status.clearPending = s.status.clearPending ∧
    (∀ m, (beginOwn s).link m = s.link m) := by
  unfold beginOwn; (repeat' split) <;> simp <;> and_intros <;> first | rfl | (intro m; cases m <;> rfl)

/-- What `ready` leaves as it is. -/
@[simp] theorem ready_keeps (s : State) :
    (s.ready).pending = s.pending ∧ (s.ready).timebase = s.timebase ∧ (s.ready).bus = s.bus ∧
    (s.ready).mem = s.mem ∧ (s.ready).items = s.items ∧ (s.ready).request = s.request ∧ (s.ready).route = s.route ∧
    (s.ready).filter = s.filter ∧ (s.ready).tracker = s.tracker ∧ (s.ready).res = s.res ∧
    (s.ready).notices = s.notices ∧ (s.ready).status.dirty = s.status.dirty ∧
    (s.ready).status.counts = s.status.counts ∧ (s.ready).status.clearPending = s.status.clearPending ∧
    (∀ m, (s.ready).link m = s.link m) := by
  unfold State.ready; split <;> simp

/-- What `writeBack` leaves as it is. -/
@[simp] theorem writeBack_keeps (w : ViewWord) (s : State) :
    (writeBack w s).pending = s.pending ∧ (writeBack w s).timebase = s.timebase ∧ (writeBack w s).bus = s.bus ∧
    (writeBack w s).port = s.port ∧ (writeBack w s).items = s.items ∧ (writeBack w s).request = s.request ∧
    (writeBack w s).route = s.route ∧ (writeBack w s).filter = s.filter ∧ (writeBack w s).tracker = s.tracker ∧
    (writeBack w s).res = s.res ∧ (writeBack w s).notices = s.notices ∧
    (writeBack w s).status.counts = s.status.counts ∧ (∀ m, (writeBack w s).link m = s.link m) := by
  unfold writeBack; simp; and_intros <;> first | rfl | (intro m; cases m <;> rfl)

/-- What `writeVisible` leaves as it is. -/
@[simp] theorem writeVisible_keeps (s : State) :
    (writeVisible s).pending = s.pending ∧ (writeVisible s).timebase = s.timebase ∧ (writeVisible s).bus = s.bus ∧
    (writeVisible s).port = s.port ∧ (writeVisible s).items = s.items ∧ (writeVisible s).request = s.request ∧
    (writeVisible s).route = s.route ∧ (writeVisible s).filter = s.filter ∧ (writeVisible s).tracker = s.tracker ∧
    (writeVisible s).res = s.res ∧ (writeVisible s).notices = s.notices ∧
    (writeVisible s).status.dirty = s.status.dirty ∧ (writeVisible s).status.counts = s.status.counts ∧
    (writeVisible s).status.clearPending = s.status.clearPending ∧ (∀ m, (writeVisible s).link m = s.link m) := by
  unfold writeVisible; try dsimp only
  all_goals (repeat' split) <;> simp

/-- What `writeProducer` leaves as it is. -/
@[simp] theorem writeProducer_keeps (s : State) :
    (writeProducer s).pending = s.pending ∧ (writeProducer s).timebase = s.timebase ∧
    (writeProducer s).bus = s.bus ∧ (writeProducer s).port = s.port ∧ (writeProducer s).items = s.items ∧
    (writeProducer s).request = s.request ∧ (writeProducer s).route = s.route ∧
    (writeProducer s).filter = s.filter ∧ (writeProducer s).tracker = s.tracker ∧ (writeProducer s).res = s.res ∧
    (writeProducer s).status.dirty = s.status.dirty ∧ (writeProducer s).status.counts = s.status.counts ∧
    (writeProducer s).status.clearPending = s.status.clearPending ∧ (∀ m, (writeProducer s).link m = s.link m) := by
  unfold writeProducer; split <;> simp; and_intros <;> first | rfl | (intro m; cases m <;> rfl)

/-- What `setClearPending` leaves as it is. -/
@[simp] theorem setClearPending_keeps (n : Nat) (s : State) :
    (setClearPending n s).pending = s.pending ∧ (setClearPending n s).timebase = s.timebase ∧
    (setClearPending n s).bus = s.bus ∧ (setClearPending n s).mem = s.mem ∧ (setClearPending n s).port = s.port ∧
    (setClearPending n s).items = s.items ∧ (setClearPending n s).request = s.request ∧
    (setClearPending n s).route = s.route ∧ (setClearPending n s).filter = s.filter ∧
    (setClearPending n s).tracker = s.tracker ∧ (setClearPending n s).res = s.res ∧
    (setClearPending n s).notices = s.notices ∧ (setClearPending n s).status.dirty = s.status.dirty ∧
    (setClearPending n s).status.counts = s.status.counts ∧ (∀ m, (setClearPending n s).link m = s.link m) := by
  and_intros <;> first | rfl | (intro m; cases m <;> rfl)

/-- What `restoreView` leaves as it is. -/
@[simp] theorem restoreView_keeps (w : ViewWord) (s : State) :
    (restoreView w s).pending = s.pending ∧ (restoreView w s).timebase = s.timebase ∧
    (restoreView w s).bus = s.bus ∧ (restoreView w s).mem = s.mem ∧ (restoreView w s).port = s.port ∧
    (restoreView w s).items = s.items ∧ (restoreView w s).request = s.request ∧ (restoreView w s).route = s.route ∧
    (restoreView w s).filter = s.filter ∧ (restoreView w s).tracker = s.tracker ∧ (restoreView w s).res = s.res ∧
    (restoreView w s).notices = s.notices ∧ (restoreView w s).status.counts = s.status.counts ∧
    (∀ m, (restoreView w s).link m = s.link m) := by
  unfold restoreView; try dsimp only
  all_goals (repeat' split) <;> simp

/-- What `restoreProducer` leaves as it is. -/
@[simp] theorem restoreProducer_keeps (s : State) :
    (restoreProducer s).pending = s.pending ∧ (restoreProducer s).timebase = s.timebase ∧
    (restoreProducer s).bus = s.bus ∧ (restoreProducer s).mem = s.mem ∧ (restoreProducer s).port = s.port ∧
    (restoreProducer s).items = s.items ∧ (restoreProducer s).request = s.request ∧
    (restoreProducer s).route = s.route ∧ (restoreProducer s).filter = s.filter ∧
    (restoreProducer s).tracker = s.tracker ∧ (restoreProducer s).res = s.res ∧
    (restoreProducer s).status.dirty = s.status.dirty ∧ (restoreProducer s).status.counts = s.status.counts ∧
    (restoreProducer s).status.clearPending = s.status.clearPending ∧
    (∀ m, (restoreProducer s).link m = s.link m) := by
  unfold restoreProducer; split <;> simp; and_intros <;> first | rfl | (intro m; cases m <;> rfl)

/-- What `clearCounter` leaves as it is. -/
@[simp] theorem clearCounter_keeps (c : Counter) (v : Word) (s : State) :
    (clearCounter c v s).pending = s.pending ∧ (clearCounter c v s).timebase = s.timebase ∧
    (clearCounter c v s).bus = s.bus ∧ (clearCounter c v s).mem = s.mem ∧ (clearCounter c v s).port = s.port ∧
    (clearCounter c v s).items = s.items ∧ (clearCounter c v s).request = s.request ∧
    (clearCounter c v s).route = s.route ∧ (clearCounter c v s).filter = s.filter ∧
    (clearCounter c v s).tracker = s.tracker ∧ (clearCounter c v s).res = s.res ∧
    (clearCounter c v s).notices = s.notices ∧ (∀ m, (clearCounter c v s).link m = s.link m) := by
  unfold clearCounter; try dsimp only
  all_goals (repeat' split) <;> simp

/-- What `clearLink` leaves as it is. -/
@[simp] theorem clearLink_keeps (l : LinkId) (v : Word) (s : State) :
    (clearLink l v s).pending = s.pending ∧ (clearLink l v s).timebase = s.timebase ∧
    (clearLink l v s).bus = s.bus ∧ (clearLink l v s).mem = s.mem ∧ (clearLink l v s).port = s.port ∧
    (clearLink l v s).items = s.items ∧ (clearLink l v s).request = s.request ∧ (clearLink l v s).route = s.route ∧
    (clearLink l v s).filter = s.filter ∧ (clearLink l v s).tracker = s.tracker ∧ (clearLink l v s).res = s.res ∧
    (clearLink l v s).notices = s.notices ∧ (clearLink l v s).status.counts = s.status.counts := by
  unfold clearLink; try dsimp only
  all_goals (repeat' split) <;> simp

/-- `clearLink` leaves the other links alone. -/
@[simp] theorem clearLink_other (l : LinkId) (v : Word) (s : State) (m : LinkId) (h : m ≠ l) :
    (clearLink l v s).link m = s.link m := by
  unfold clearLink; try dsimp only
  all_goals (repeat' split) <;> simp [h]

end Sys2Proof.Machine
end

