-- ==== Sys2Proof/Laws/Frames.lean ====
section
/-! SUPPORT. How frames compose: a frame holds of no change, of two changes one after the other, and of any larger list of parts; the dirty set likewise; and when an event, an access and a notice act. -/

namespace Sys2Proof.Machine

/-- A part is the same as itself. -/
theorem Part.same_refl (p : Part) (s : State) : p.same s s := by cases p <;> rfl

/-- A part that two changes leave is left by both. -/
theorem Part.same_trans {p : Part} {s t u : State} (h : p.same s t) (k : p.same t u) : p.same s u := by
  cases p <;> exact Eq.trans k h

/-- Nothing changed is within every frame. -/
theorem changesOnly_refl (ps : List Part) (s : State) : ChangesOnly ps s s := fun p _ => p.same_refl s

/-- Two changes within a frame are within it together. -/
theorem changesOnly_trans {ps : List Part} {s t u : State} (h : ChangesOnly ps s t) (k : ChangesOnly ps t u) :
    ChangesOnly ps s u := fun p hp => Part.same_trans (h p hp) (k p hp)

/-- A frame holds of every longer list of parts. -/
theorem changesOnly_mono {ps qs : List Part} {s t : State} (hs : ps ⊆ qs) (h : ChangesOnly ps s t) :
    ChangesOnly qs s t := fun p hp => h p fun hq => hp (hs hq)

/-- Marking words changes the dirty set only. -/
theorem changesOnly_markMany (ws : BitVec 704) (s : State) : ChangesOnly [.dirty] s (markMany ws s) := by
  intro p hp; cases p <;> simp_all [Part.same]

/-- A counted event changes the counters and the dirty set only. -/
theorem changesOnly_bump (c : Counter) (s : State) : ChangesOnly [.counts, .dirty] s (bump c s) := by
  intro p hp; cases p <;> simp_all [Part.same]

/-- A notice given changes the notice writer, the counters and the dirty set only. -/
theorem changesOnly_raise (n : Notice) (s : State) : ChangesOnly [.notices, .counts, .dirty] s (raise n s) := by
  intro p hp; cases p <;> simp_all [Part.same]

/-- An answered request changes the request unit and the dirty set only. -/
theorem changesOnly_answer (tag : Byte) (kind : RequestKind) (code : ResultCode) (reason : Option InvalidReason)
    (s : State) : ChangesOnly [.request, .dirty] s (answer tag kind code reason s) := by
  intro p hp; cases p <;> simp_all [Part.same]

/-- The port's choice of its next own access changes the port only (R159). -/
theorem changesOnly_ready (s : State) : ChangesOnly [.port] s s.ready := by
  intro p hp; cases p <;> simp_all [Part.same]

/-- No own cycle goes before an access where none waits, or below the count of 16 (R158). -/
theorem yieldOwn_below {s : State} (h : (beginOwn s).port.inProgress = none ∨ (beginOwn s).port.starvation < 16) :
    yieldOwn s = beginOwn s := by
  unfold yieldOwn
  rcases h with h | h
  · simp [h]
  · simp [Nat.not_le.mpr h]

/-- The waiting own cycle goes before an access at the count of 16, and the next is chosen (R158). -/
theorem yieldOwn_sixteen {s : State} {o : OwnAccess} (h : (beginOwn s).port.inProgress = some o)
    (k : 16 ≤ (beginOwn s).port.starvation) :
    yieldOwn s = beginOwn (performCycle o (setStarvation 0 (beginOwn s))) := by
  simp [yieldOwn, performOwn, h, k]

/-- The next own access changes the port only (R159). -/
theorem changesOnly_beginOwn (s : State) : ChangesOnly [.port] s (beginOwn s) := by
  intro p hp; cases p <;> simp_all [Part.same]

/-- A burst begun, carried on or ended changes the port only (R158). -/
theorem changesOnly_setBurst (b : Burst) (s : State) : ChangesOnly [.port] s (setBurst b s) := by
  intro p hp; cases p <;> simp_all [Part.same]

/-- An access held back by the guard changes the port only, but where it begins a burst and an own cycle waits at 16
(R154, R158). -/
theorem changesOnly_skipWord {beat : Beat} {s : State} (h : joinsBurst beat s = true ∨ beat.ends = true ∨
    (beginOwn s).port.inProgress = none ∨ (beginOwn s).port.starvation < 16) :
    ChangesOnly [.port] s (skipWord beat s) := by
  refine changesOnly_trans ?_ (changesOnly_setBurst _ _)
  split
  · exact changesOnly_refl _ _
  · split
    · exact changesOnly_beginOwn s
    · rw [yieldOwn_below (by simp_all)]
      exact changesOnly_beginOwn s

/-- The notice writer after a notice is the one given it (R137). -/
theorem raise_notices (n : Notice) (s : State) : (raise n s).notices = s.given n := by
  unfold raise State.given NoticeWriter.give
  cases n.minor <;> simp <;> (repeat' split) <;> simp_all <;> omega

/-- An event reaches its block while SOFT_RESET is at RUN and RESET is not asserted (R160, R164). -/
theorem onEvent_run {s : State} (f : State → State) (h : s.items.softReset = false)
    (r : s.bus.resetAsserted = false) : onEvent f s = f s.ready := by simp [onEvent, h, r]

/-- No event reaches a block otherwise (R160, R164). -/
theorem onEvent_held {s : State} (f : State → State) (h : s.items.softReset = true ∨ s.bus.resetAsserted = true) :
    onEvent f s = s := by unfold onEvent; rcases h with h | h <;> simp [h]

/-- An access is performed while RESET is not asserted (R160). -/
theorem onBus_run {s : State} (i : Instr) (r : s.bus.resetAsserted = false) : onBus i s = performAccess s i := by
  simp [onBus, r]

/-- No own cycle is performed while a burst of the coach computer holds the port (R158). -/
theorem ownStep_burst {s : State} (names : OwnAccess → Bool) (h : s.port.burst.stands = true) : ownStep names s = s := by
  simp [ownStep, portFree, h]

/-- A report taken changes what the blocks hold only. -/
theorem changesOnly_takeReport (r : Report) (s : State) : ChangesOnly Part.blocks s (takeReport r s) := by
  intro p hp; cases p <;> simp_all [Part.same, Part.blocks]
  rename_i l; cases l <;> simp_all

/-- No word stops being dirty when nothing changes. -/
theorem dirtyRises_refl (s : State) : DirtyRises s s := fun _ h => h

/-- Words stay dirty through two changes. -/
theorem dirtyRises_trans {s t u : State} (h : DirtyRises s t) (k : DirtyRises t u) : DirtyRises s u :=
  fun w hw => k w (h w hw)

/-- Marking words only adds to the dirty set. -/
theorem dirtyRises_markMany (ws : BitVec 704) (s : State) : DirtyRises s (markMany ws s) := by
  intro w hw; simp_all [State.isDirty]

/-- Every word of the windows has one of 704 places. -/
theorem index_lt (w : ViewWord) : w.index < 704 := by
  cases w with
  | status w => simp only [ViewWord.index]; omega
  | unit l n => cases l <;> simp only [ViewWord.index] <;> omega
  | seat w => simp only [ViewWord.index]; omega

/-- A marked word is dirty. -/
theorem isDirty_markDirty (w : ViewWord) (s : State) : (markDirty w s).isDirty w = true := by
  simp [State.isDirty, dirtyBit, index_lt]

end Sys2Proof.Machine
end

