-- ==== Sys2Proof/Laws/Memory.lean ====
section
/-! SUPPORT. The laws of memory: every write keeps the canonical form, a read after a write to the same place gives the word written, and a write leaves every other place alone. -/

namespace Sys2Proof.Machine

/-- The canonical form of a memory with one more cell in front. -/
theorem wf_cons (c : Cell) (m : List Cell) :
    Memory.wf (c :: m) = true ↔ c.2 ≠ Config.untouchedWord ∧ (∀ d ∈ m.head?, c.1 < d.1) ∧ Memory.wf m = true := by
  cases m with
  | nil => simp [Memory.wf]
  | cons d rest => simp [Memory.wf, and_assoc]

/-- The rest of a canonical memory is canonical. -/
theorem wf_tail {c : Cell} {m : List Cell} (h : Memory.wf (c :: m) = true) : Memory.wf m = true :=
  ((wf_cons c m).mp h).2.2

/-- Every address of a canonical memory lies past its first. -/
theorem wf_lt {c : Cell} {m : List Cell} (h : Memory.wf (c :: m) = true) : ∀ d ∈ m, c.1 < d.1 := by
  induction m generalizing c with
  | nil => simp
  | cons d rest ih =>
    have hc := ((wf_cons c (d :: rest)).mp h).2.1 d (by simp)
    intro x hx
    rcases List.mem_cons.mp hx with rfl | hx
    · exact hc
    · exact Nat.lt_trans hc (ih (wf_tail h) x hx)

/-- An address that no cell names reads as the untouched word. -/
theorem readMem_absent {m : List Cell} {a : Nat} (h : ∀ d ∈ m, d.1 ≠ a) : readMem m a = Config.untouchedWord := by
  induction m with
  | nil => rfl
  | cons c rest ih =>
    have hc : c.1 ≠ a := h c (by simp)
    simp [readMem, hc, ih fun d hd => h d (by simp [hd])]

/-- Every cell of a written memory lies at the address written or was a cell before. -/
theorem mem_writeMem {m : List Cell} {a : Nat} {v : Word} {d : Cell} (h : d ∈ writeMem m a v) : d.1 = a ∨ d ∈ m := by
  induction m with
  | nil => unfold writeMem at h; split at h <;> simp_all
  | cons c rest ih =>
    unfold writeMem at h
    (repeat' split at h) <;> simp only [List.mem_cons] at h ⊢
    · exact .inr h
    · rcases h with rfl | h
      · exact .inl rfl
      · exact .inr h
    · exact .inr (.inr h)
    · rcases h with rfl | h
      · exact .inl rfl
      · exact .inr (.inr h)
    · rcases h with h | h
      · exact .inr (.inl h)
      · exact (ih h).imp id .inr

/-- A write keeps the canonical form. -/
theorem writeMem_wf {m : List Cell} (h : Memory.wf m = true) (a : Nat) (v : Word) :
    Memory.wf (writeMem m a v) = true := by
  induction m with
  | nil => unfold writeMem; split <;> simp_all [Memory.wf]
  | cons c rest ih =>
    have hr := wf_tail h
    have hl := wf_lt h
    have hc := ((wf_cons c rest).mp h).1
    unfold writeMem
    split
    · split
      · exact h
      · rename_i hlt hv
        exact (wf_cons _ _).mpr ⟨by simpa using hv, by simpa using hlt, h⟩
    · split
      · rename_i _ heq
        have heq : c.1 = a := by simpa using heq
        split
        · exact hr
        · rename_i hv
          exact (wf_cons _ _).mpr ⟨by simpa using hv, fun d hd => heq ▸ hl d (List.mem_of_mem_head? hd), hr⟩
      · rename_i hge hne
        have hne : c.1 ≠ a := by simpa using hne
        refine (wf_cons _ _).mpr ⟨hc, fun d hd => ?_, ih hr⟩
        rcases mem_writeMem (List.mem_of_mem_head? hd) with h1 | h1
        · omega
        · exact hl d h1

/-- A read of the address written gives the word written. -/
theorem readMem_writeMem_self {m : List Cell} (h : Memory.wf m = true) (a : Nat) (v : Word) :
    readMem (writeMem m a v) a = v := by
  induction m with
  | nil => unfold writeMem; split <;> simp_all [readMem]
  | cons c rest ih =>
    have hl := wf_lt h
    unfold writeMem
    split
    · rename_i hlt
      split
      · rename_i hv
        rw [readMem_absent]
        · simpa using (beq_iff_eq.mp hv).symm
        · intro d hd
          rcases List.mem_cons.mp hd with rfl | hd
          · omega
          · have := hl d hd; omega
      · simp [readMem]
    · split
      · rename_i _ heq
        have heq : c.1 = a := by simpa using heq
        split
        · rename_i hv
          rw [readMem_absent]
          · simpa using (beq_iff_eq.mp hv).symm
          · intro d hd
            have := hl d hd
            omega
        · simp [readMem]
      · rename_i hne
        simp only [readMem, hne]
        exact ih (wf_tail h)

/-- A read of any other address gives what it gave before. -/
theorem readMem_writeMem_other (m : List Cell) {a b : Nat} (h : b ≠ a) (v : Word) :
    readMem (writeMem m a v) b = readMem m b := by
  induction m with
  | nil => unfold writeMem; split <;> simp [readMem, Ne.symm h]
  | cons c rest ih =>
    unfold writeMem
    (repeat' split) <;> simp_all [readMem, Ne.symm h]

/-- The memory of the reset state is canonical. -/
theorem reset_mem_wf : Memory.wf State.reset.mem = true := rfl

/-- A write of the state's memory keeps its canonical form. -/
theorem writeWord_wf {s : State} (h : Memory.wf s.mem = true) (a : Nat) (v : Word) :
    Memory.wf (s.writeWord a v).mem = true := writeMem_wf h a v

/-- A write of the tap region keeps the canonical form of memory. -/
theorem writeTap_wf {s : State} (h : Memory.wf s.mem = true) (offset : Nat) (v : Word) :
    Memory.wf (s.writeTap offset v).mem = true := writeMem_wf h _ v

/-- The tap word written reads as the word written. -/
theorem tapWord_writeTap_self {s : State} (h : Memory.wf s.mem = true) (offset : Nat) (v : Word) :
    (s.writeTap offset v).tapWord offset = v := readMem_writeMem_self h _ v

/-- Every other tap word reads as before. -/
theorem tapWord_writeTap_other (s : State) {a b : Nat} (h : b ≠ a) (v : Word) :
    (s.writeTap a v).tapWord b = s.tapWord b := 
  readMem_writeMem_other s.mem (by show s.tapBase + b ≠ s.tapBase + a; omega) v

end Sys2Proof.Machine
end

