-- ==== Sys2Proof/WellFormed.lean ====
section
/-! DEFINITION. When a command's operands are ones its row of the table can carry. The meanings are total: on other operands they act on what the operands hold. -/

namespace Sys2Proof

/-- A unit address that the link's table can hold (R91). -/
def LinkId.holdsAddress (l : LinkId) (address : Nat) : Bool :=
  match l with
  | .a | .b => decide (1 ≤ address ∧ address ≤ 60)
  | .p => decide (1 ≤ address ∧ address ≤ 16)

/-- The operands fit the row. SOFT_RESET_HOLD carries HOLD and SOFT_RESET_RUN carries RUN (R163); a LINK_ENABLE
row turns a link on and a LINK_DISABLE row leaves one off (R97, R98); the words with rows of their own are no
CONFIGURATION_WORD_WRITE (R161); a journal commit carries the marker C5h (R57); a partial write lacks a lane
(R152); a check probe is answered OK, BUSY or FAULT (R99); a unit address lies within its link (R91). -/
def Instr.wellFormed : Instr → Bool
  | .pinResetAssert => true
  | .pinResetRelease _ => true
  | .softResetHold _ v => v.getLsbD 0
  | .softResetRun _ v => !v.getLsbD 0
  | .linkEnable _ v => (v &&& 7) != 0
  | .linkDisable _ v => (v &&& 7) != 7
  | .quietWrite _ _ => true
  | .berthDistanceWrite _ _ => true
  | .configurationWordWrite _ w _ => w != 1 && w != 8 && w != 18
  | .configRereadCycle => true
  | .activateRoute _ _ => true
  | .previewRoute _ _ => true
  | .cancelRoute _ _ => true
  | .seatConfirm _ _ => true
  | .clearSeats _ _ => true
  | .reenumerate _ _ => true
  | .refresh _ _ => true
  | .reportFieldWrite _ _ _ => true
  | .positionReportCommit _ _ => true
  | .consistFieldWrite _ _ _ => true
  | .consistCommit _ _ => true
  | .journalCommit _ _ v => v.extractLsb' 0 8 == 0xC5#8
  | .fetchComplete => true
  | .activationReadComplete => true
  | .previewReadComplete => true
  | .freshnessExpiry => true
  | .coastStep => true
  | .releaseExpiry => true
  | .probeDeadlineExpiry l a => l.holdsAddress a
  | .backoffExpiry l a => l.holdsAddress a
  | .ePaperHoldExpiry l a => l.holdsAddress a
  | .quietDelayExpiry _ => true
  | .wakeExpiry _ => true
  | .timebaseSecond => true
  | .nextFrameSelect _ => true
  | .openChainSent _ => true
  | .setLevelSent _ => true
  | .restSent _ => true
  | .rouseSent _ => true
  | .pageReply _ _ _ _ _ => true
  | .setAddressOk _ => true
  | .checkProbeReply _ code => code != 3
  | .showOk _ => true
  | .showBusy _ => true
  | .probeReply _ _ => true
  | .backoffProbeReply _ _ => true
  | .wakeProbeReply _ _ _ => true
  | .unassignedShowEnd _ _ => true
  | .malformedReply _ _ => true
  | .replyWindowExpiry _ => true
  | .noticeEntryWrite => true
  | .producerIndexWrite => true
  | .producerOnlyWrite => true
  | .consumerIndexWrite _ _ => true
  | .producerIndexOverwrite _ _ _ => true
  | .statusWriteBack => true
  | .counterClearingRead _ _ _ => true
  | .linkStatusClearingRead _ _ _ => true
  | .controllerWordOverwrite _ _ _ _ => true
  | .guardedWrite _ _ _ _ _ => true
  | .partialCapturedWrite _ _ lanes _ => lanes != 15
  | .passThroughAccess _ _ => true

end Sys2Proof
end

