-- ==== Sys2Proof/Tests/Slice0.lean ====
section
/-! SUPPORT. Tests: ill-formed commands, the worked examples of the chapters, and a state that meets the hypotheses of each statement. -/

set_option Elab.async false

namespace Sys2Proof.Tests

open Sys2Proof Sys2Proof.Machine

/-! ## Well-formedness -/

/-- SOFT_RESET_HOLD carries HOLD. -/
theorem test_softResetHold_illFormed : (Instr.softResetHold .single 0).wellFormed = false := by decide

/-- SOFT_RESET_RUN carries RUN. -/
theorem test_softResetRun_illFormed : (Instr.softResetRun .single 3).wellFormed = false := by decide

/-- LINK_ENABLE enables a link. -/
theorem test_linkEnable_illFormed : (Instr.linkEnable .single 0xFFFFFFF8).wellFormed = false := by decide

/-- LINK_DISABLE disables a link. -/
theorem test_linkDisable_illFormed : (Instr.linkDisable .single 7).wellFormed = false := by decide

/-- A configuration word with a row of its own is no CONFIGURATION_WORD_WRITE. -/
theorem test_configurationWord_illFormed :
    ∀ w ∈ [(1 : Fin 32), 8, 18], (Instr.configurationWordWrite .single w 0).wellFormed = false := by decide

/-- A journal commit carries its marker. -/
theorem test_journalCommit_illFormed : (Instr.journalCommit .single 0 0x00C5).wellFormed = true ∧
    (Instr.journalCommit .single 0 0x00C4).wellFormed = false := by decide

/-- Unit addresses begin at 1 and end at the link's capacity. -/
theorem test_addresses_illFormed :
    (Instr.probeDeadlineExpiry .a 0).wellFormed = false ∧ (Instr.probeDeadlineExpiry .a 60).wellFormed = true ∧
    (Instr.backoffExpiry .b 61).wellFormed = false ∧ (Instr.ePaperHoldExpiry .p 17).wellFormed = false := by decide

/-- PAGE_FOLLOWS answers no check probe. -/
theorem test_checkProbe_illFormed : (Instr.checkProbeReply .a 3).wellFormed = false := by decide

/-- A write of all four lanes is not partial. -/
theorem test_partial_illFormed : (Instr.partialCapturedWrite .single .consumer 15 0).wellFormed = false := by decide

/-- The table gives no row bits, so no word spells a command. -/
theorem test_decode_none : decodeTableWord 32 0 = none := by decide

/-! ## Helpers -/

/-- The state that a command leaves. -/
def after (c : Instr) (s : State) : State :=
  match exec c s with
  | .next t => t
  | .fault _ => s
  | .refused _ => s

/-- The state after commands one after the other. -/
def run (cs : List Instr) (s : State) : State := cs.foldl (fun s c => after c s) s

/-- The reset state once the reset writes of the controller have been made. -/
def idle : State :=
  { State.reset with
    port := ⟨none, 0, .closed, false, false⟩
    status := ⟨0, List.replicate 20 0, 0⟩ }

/-- The notices of the ring not yet shown by memory. -/
def notes (s : State) : List Notice := s.notices.awaiting.map NoticeEntry.notice

/-- The words of a report. -/
def report (distance speed doors time day : Nat) : List Instr :=
  [.reportFieldWrite .single 0 (BitVec.ofNat 32 distance), .reportFieldWrite .single 1 (BitVec.ofNat 32 speed),
    .reportFieldWrite .single 2 (BitVec.ofNat 32 (2 * doors)), .reportFieldWrite .single 3 (BitVec.ofNat 32 time),
    .reportFieldWrite .single 4 (BitVec.ofNat 32 day), .positionReportCommit .single 0xA7]

/-- The words of a consist of coach 7. -/
def consist (portion flags : Nat) : List Instr :=
  [.consistFieldWrite .single 0 7, .consistFieldWrite .single 1 (BitVec.ofNat 32 portion),
    .consistFieldWrite .single 2 (BitVec.ofNat 32 flags), .consistCommit .single 0x3C]

/-- A stop of the example image (Table 1-8). -/
def stop (code : Nat) (mask : BitVec 2) (side : PlatformSide) (mark scheduled : Nat) : Stop :=
  { Stop.blank with code := code, mask := mask, side := side, mark := mark, scheduled := scheduled }

/-- The example image B, service 5230 (Table 1-8). -/
def copyB : RouteCopy :=
  ⟨0x41465231, 5230, 8, [stop 3101 3 .left 0 420, stop 3102 3 .right 48200 452, stop 3103 3 .both 96700 487,
    stop 3104 1 .left 131000 512, stop 3105 2 .right 140800 518, stop 3106 1 .right 171500 538,
    stop 3107 2 .left 158300 531, stop 3108 1 .left 214900 566]⟩

/-- Image B served for portion 1 (Table 1-9). -/
def routeB : ActiveRoute := ⟨.b, copyB, [0, 1, 2, 3, 5, 7]⟩

/-- The train of a route, at an approach state and a distance in metres, LOCKED and TRACKING. -/
def train (r : ActiveRoute) (state : ApproachState) (current metres smoothed : Nat) : State :=
  { idle with
    route := { Route.reset with active := some r }
    tracker := { Tracker.reset with approach := some ⟨state, current⟩, heldEstimated := false }
    filter := { Filter.reset with
      lock := .locked, consistentRun := 9, progress := metres * 1000, smoothed := smoothed, lastSpeed := smoothed
      referencePending := false, previous := some ⟨metres, smoothed, 500000⟩
      sourcePresent := true, freshness := some 503000 }
    timebase := 500000 }

/-! ## Route images and the consist (chapter 1) -/

/-- The example image is valid for portion 1, and its served lists are those of Table 1-9. -/
theorem test_served_lists : copyB.invalid .one = none ∧ copyB.servedList .one = [0, 1, 2, 3, 5, 7] ∧
    copyB.servedList .two = [0, 1, 2, 4, 6] := by decide +kernel

/-- The switch of 1.9 under AUTO at 96,650 m stands at served position 2 with 96,700 m. -/
theorem test_switch_auto :
    let t := switchRoute .b .auto copyB { idle with filter := { Filter.reset with progress := 96650000 } }
    t.tracker.approach = some ⟨.standing, 2⟩ ∧ t.filter.progress = 96700000 := by decide +kernel

/-- ACTIVATE_ROUTE of image B under AUTO with tag 21h is accepted, and window B is guarded. -/
theorem test_activate_accepted :
    let t := after (.activateRoute .single 0x2100FF01) idle
    t.route.pendingSwitch = .reading .b .auto 0x21 ∧ guarded t .b = true ∧ guarded t .a = false ∧
      t.request.busy = some (.activateRoute, 0x21) := by decide +kernel

/-- A consist of portion 2 taken at 137,000 m leads to c = 2, CRUISING, on the list of portion 2 (Table 1-10). -/
theorem test_consist_rederives :
    let t := run (consist 2 2) (train routeB .cruising 3 137000 2000)
    t.route.active.map ActiveRoute.served = some [0, 1, 2, 4, 6] ∧ t.tracker.approach = some ⟨.cruising, 2⟩ ∧
      t.route.mismatch = false ∧ notes t = [] := by decide +kernel

/-- A consist commit that follows a reset carries portion 0 and is refused (R5). -/
theorem test_consist_refused :
    let t := after (.consistCommit .single 0x3C) idle
    t.count .mailboxBad = 1 ∧ t.route.consist = Route.reset.consist := by decide +kernel

/-- CANCEL_ROUTE with no switch pending is answered NOT_PENDING (R16). -/
theorem test_cancel_notPending :
    (after (.cancelRoute .single 0x44000000) idle).request.result = ⟨0x44, some .cancelRoute, .notPending, none⟩ := by
  decide +kernel

/-- PREVIEW_ROUTE of the active image is a BAD_ARGUMENT (R17). -/
theorem test_preview_active :
    (after (.previewRoute .single 0x11000001) (train routeB .standing 2 96700 0)).request.result.code = .badArgument := by
  decide +kernel

/-- The preview read of an image of zeros in memory ends in BAD_MAGIC (Table 1-3). -/
theorem test_preview_badMagic :
    let t := run [.previewRoute .single 0x11000001, .previewReadComplete] idle
    t.route.preview.outcome = .invalid .badMagic ∧ t.request.busy = none ∧ guarded t .b = false := by decide +kernel

/-- The activation read of an image of zeros is answered INVALID_IMAGE with BAD_MAGIC (R11). -/
theorem test_activation_badMagic :
    (run [.activateRoute .single 0x2100FF01, .activationReadComplete] idle).request.result =
      ⟨0x21, some .activateRoute, .invalidImage, some .badMagic⟩ := by decide +kernel

/-! ## Position reports (chapter 2) -/

/-- The route of 2.11: the next stop's mark is 61,000 m. -/
def route61 : ActiveRoute := ⟨.a, ⟨0x41465231, 1, 2, [stop 1 3 .none 0 4095, stop 2 3 .none 61000 4095]⟩, [0, 1]⟩

/-- The freshness expiry of 2.11: COASTING(STALE), the first coast step at 504,000 ms. -/
theorem test_stale :
    let t := after .freshnessExpiry (train route61 .cruising 0 60000 2500)
    t.filter.mode = .coasting .stale ∧ t.filter.coastStep = some 504000 ∧ t.timebase = 503000 ∧
      notes t = [.coastStarted (.coasting .stale)] := by decide +kernel

/-- A coast step of 2.11 advances 25,000 mm. -/
theorem test_coast_step :
    (run [.freshnessExpiry, .coastStep] (train route61 .cruising 0 60000 2500)).filter.progress = 60025000 := by
  decide +kernel

/-- The return of 2.11 after 9,500 ms: consistent, the smoothed speed 2,450 cm/s (Table 2-5). -/
theorem test_consistent_report :
    let t := run (report 60230 2300 0 509500 0) (train route61 .cruising 0 60000 2500)
    t.filter.consistentRun = 10 ∧ t.filter.smoothed = 2450 ∧ t.filter.progress = 60230000 := by decide +kernel

/-- The jump of 2.11, with the smoothed speed at 2,300 cm/s: inconsistent, COASTING(JUMP), progress kept. -/
theorem test_jump :
    let t := run (report 60900 2300 0 501000 0) (train route61 .cruising 0 60230 2300)
    t.filter.mode = .coasting .jump ∧ t.filter.inconsistentRun = 1 ∧ t.filter.consistentRun = 0 ∧
      t.filter.progress = 60230000 ∧ t.count .reportInconsistent = 1 := by decide +kernel

/-- A report with the time of the previous one is a duplicate (R23). -/
theorem test_duplicate :
    (run (report 60230 2300 0 500000 0) (train route61 .cruising 0 60000 2500)).count .reportDuplicate = 1 := by
  decide +kernel

/-- A mailbox commit with a wrong marker counts MAILBOX_BAD (R21). -/
theorem test_report_marker : (after (.positionReportCommit .single 0xA6) idle).count .mailboxBad = 1 := by
  decide +kernel

/-- A field word is staged (R21). -/
theorem test_field_staged : (after (.reportFieldWrite .single 3 77) idle).filter.staging = ⟨0, 0, 0, 77, 0⟩ := by
  decide +kernel

/-- A consist field word is staged (R4). -/
theorem test_consist_staged : (after (.consistFieldWrite .single 1 2) idle).route.staging = ⟨0, 2, 0⟩ := by
  decide +kernel

/-! ## Approach, arrival and departure (chapter 3) -/

/-- The report of 32,511 s of Table 3-5: APPROACHING with NEXT_STOP, 1,980 m and 103 s to go. -/
theorem test_approach :
    let t := run (report 169520 1880 0 501000 32511)
      { train routeB .cruising 3 169501 1880 with
        filter := { (train routeB .cruising 3 169501 1880).filter with smoothed := 1947 } }
    t.tracker.approach = some ⟨.approaching, 3⟩ ∧ t.tracker.distanceToGo = 1980 ∧ t.tracker.eta = 103 ∧
      t.tracker.rawDelay = some 6 := by decide +kernel

/-- The departure of Table 3-5: c unchanged, CRUISING toward 214,900 m, 21,702 s, R = +342. -/
theorem test_departure :
    let t := run (report 171497 160 0 501000 32778)
      { train routeB .standing 4 171496 80 with
        filter := { (train routeB .standing 4 171496 80).filter with smoothed := 41 } }
    t.tracker.approach = some ⟨.cruising, 4⟩ ∧ t.tracker.distanceToGo = 43403 ∧ t.tracker.eta = 21702 ∧
      t.tracker.rawDelay = some 342 := by decide +kernel

/-! ## Journal and seats (chapters 4 and 5) -/

/-- The commit of 4.8: slot 40, seat 34, version 254 joins the fetch queue. -/
theorem test_commit : (after (.journalCommit .single 40 0x00FE22C5) idle).res.fetchQueue = [⟨40, 34, 254⟩] := by
  decide +kernel

/-- The memory of slot 40 with seat 34, version 1, one segment of service 4711 from 3 to 9. -/
def slot40 : List Cell :=
  [(0x4140, 0x00010122), (0x4141, 0x02431267), (0x4145, 0x00010122 ^^^ 0x02431267)]

/-- A whole record is applied (R63): the version and the segment, DORMANT while no route is active. -/
theorem test_record_applied :
    let t := run [.journalCommit .single 40 0x000122C5, .fetchComplete] { idle with mem := slot40 }
    (t.seat 34).version = some 1 ∧ (t.seat 34).segments = [⟨4711, 3, 9, .standard, .dormant, false, false⟩] := by
  decide +kernel

/-- A record of another seat than its commit is torn (R60): JOURNAL_TORN and the unverified flag. -/
theorem test_record_torn :
    let t := run [.journalCommit .single 40 0x000123C5, .fetchComplete] { idle with mem := slot40 }
    t.count .journalTorn = 1 ∧ t.res.unverified = true ∧ notes t = [.journalLoss 35 40 .torn] := by decide +kernel

/-- Route A of 5.7: portion 1's served list is 0, 1, 3, 5, 6, 8, 9, 10. -/
def routeA : ActiveRoute :=
  ⟨.a, ⟨0x41465231, 4711, 11, (List.range 11).map fun i =>
    stop (2200 + i) (if i = 2 ∨ i = 4 ∨ i = 7 then 2 else 1) .none (10000 * i) 4095⟩, [0, 1, 3, 5, 6, 8, 9, 10]⟩

/-- Seat 34 of 5.7 at served position 2, its release entry standing at 8,100,000 ms. -/
def seat34 (released : Bool) : State :=
  let s := train routeA .cruising 2 30000 2000
  { s with
    timebase := 7200000
    res := { Reservations.reset with
      seats := Reservations.reset.seats.set 33
        { SeatEntry.empty with
          version := some 12, segments := [⟨4711, 3, 9, .standard, .live, false, released⟩] }
      releaseList := if released then [] else [⟨34, 8100000, 4711, 3⟩] } }

/-- The expiry of 5.7: the released flag, RELEASED, SEAT_RELEASED with stop code 2203. -/
theorem test_release_expiry :
    let t := after .releaseExpiry (seat34 false)
    (t.seat 34).resolved.status = .released ∧ t.timebase = 8100000 ∧ t.res.releaseList = [] ∧
      notes t = [.seatReleased 34 2203 3] := by decide +kernel

/-- SEAT_CONFIRM at minute 16 of 5.7 is LATE. -/
theorem test_confirm_late :
    let t := after (.seatConfirm .single 0x3A000022) (seat34 true)
    t.request.result = ⟨0x3A, some .seatConfirm, .late, none⟩ ∧ (t.seat 34).resolved.status = .reservedNow ∧
      t.isDirty (.status 9) = true := by decide +kernel

/-- SEAT_CONFIRM at minute 14 of 5.7 is DONE and removes the entry. -/
theorem test_confirm_done :
    let t := after (.seatConfirm .single 0x3A000022) (seat34 false)
    t.request.result.code = .done ∧ t.res.releaseList = [] := by decide +kernel

/-- CLEAR_SEATS empties the seat and marks SEAT_SUMMARY (R68). -/
theorem test_clear_seats :
    let t := after (.clearSeats .single 0) (seat34 false)
    (t.seat 34).version = none ∧ t.isDirty (.status 9) = true := by decide +kernel

/-! ## Links (chapters 6 to 8) -/

/-- LINK_ENABLE of link A broadcasts OPEN_CHAIN (Table 6-6). -/
theorem test_link_enable :
    let t := after (.linkEnable .single 0x80000001) idle
    t.linkA.state = .enumerating ∧ t.linkA.transaction.map Transaction.purpose = some .openChain ∧
      t.linkB.state = .off := by decide +kernel

/-- A unit entry of a SEAT_SINGLE with LED technology. -/
def led (address : Nat) (canRest : Bool) : UnitEntry :=
  { newEntry State.reset .a address ⟨0, 0, canRest, 0, 0, 0, none⟩ with state := .active }

/-- Link A with a transaction in flight. -/
def linked (state : LinkState) (units : List UnitEntry) (purpose : Option Purpose) : State :=
  { idle with linkA := { Link.reset with
      state := state, units := units, nextAddress := units.length + 1, chainIntact := true
      transaction := purpose.map fun p => ⟨p, 1, [], 600, 0⟩ } }

/-- Link A with REST in flight. -/
def inFlightRest : State := linked .running [] (some .rest)

/-- OPEN_CHAIN sent: READ_PAGE 0 to address 0 (R99). -/
theorem test_open_chain_sent :
    (after (.openChainSent .a) (linked .enumerating [] (some .openChain))).linkA.transaction.map
      Transaction.purpose = some (.basePage 1) := by decide +kernel

/-- The base page of the first unit of Table 6-5: SEAT_PAIR, labels 11 and 12. -/
theorem test_base_page :
    ((after (.pageReply .a 0x2000 0x0B0C 0 0) (linked .enumerating [] (some (.basePage 1)))).linkA.transaction.map
      Transaction.purpose) = some (.setAddress 1 ⟨1, 0, false, 0, 11, 12, none⟩) := by decide +kernel

/-- The unit of labels 11 and 12 takes address 1 (Table 6-6): both seats are bound. -/
theorem test_set_address :
    let t := after (.setAddressOk .a) (linked .enumerating [] (some (.setAddress 1 ⟨1, 0, false, 0, 11, 12, none⟩)))
    (t.seat 11).bound = some ⟨.a, 1, 1⟩ ∧ (t.seat 12).bound = some ⟨.a, 1, 2⟩ ∧ t.linkA.nextAddress = 2 := by
  decide +kernel

/-- A lost reply to SET_ADDRESS is followed by a check probe to the address given (Table 6-6, transaction 7). -/
theorem test_check_probe :
    let t := after (.replyWindowExpiry .a)
      (linked .enumerating [] (some (.setAddress 1 ⟨1, 0, false, 0, 11, 12, none⟩)))
    t.linkA.transaction.map Transaction.frame = some [0x0340#16] ∧ t.count .missA = 1 := by decide +kernel

/-- A check probe answered FAULT shows the address taken and counts in MISS_A (R99). -/
theorem test_check_probe_fault :
    let t := after (.checkProbeReply .a 2)
      (linked .enumerating [] (some (.checkProbe 1 ⟨1, 0, false, 0, 11, 12, none⟩)))
    t.linkA.units.length = 1 ∧ t.count .missA = 1 := by decide +kernel

/-- The third silent base page ends the chain with CHAIN_READY (Table 6-6, transaction 16). -/
theorem test_end_of_chain :
    let t := after (.replyWindowExpiry .a) (linked .enumerating [led 1 false] (some (.basePage 3)))
    t.linkA.state = .running ∧ t.linkA.chainIntact = true ∧ notes t = [.chainReady .a 1 .chainEnd] := by
  decide +kernel

/-- SET_LEVEL's last word makes its code the acknowledged one (R110). -/
theorem test_set_level :
    (after (.setLevelSent .a) (linked .running [] (some (.item ⟨127, .level 150⟩)))).linkA.ackLevel = some 150 := by
  decide +kernel

/-- REST rests the units that can rest (8.8, step 2). -/
theorem test_rest :
    (after (.restSent .a) (linked .running [led 1 true, led 2 false] (some .rest))).linkA.units.map
      UnitEntry.state = [.resting, .active] := by decide +kernel

/-- ROUSE starts the wake time of 250 ms (8.8, step 4). -/
theorem test_rouse :
    let t := after (.rouseSent .a)
      { linked .resting [{ led 1 true with state := .resting, rested := true }] (some .rouse) with timebase := 3600000 }
    t.linkA.state = .rousing ∧ t.linkA.wakeExpiry = some 3600250 ∧ t.linkA.wakePosition = some 1 := by decide +kernel

/-- Link A rousing with unit 1 still to be resolved. -/
def rousing : State :=
  let s := linked .rousing [{ led 1 true with state := .resting, rested := true }] (some (.wakeProbe 1))
  { s with linkA := { s.linkA with wakeExpiry := some 250, wakePosition := some 1 } }

/-- A wake probe answered in time (8.8, step 5). -/
theorem test_wake_probe :
    let t := after (.wakeProbeReply .a false 1) rousing
    t.linkA.units.map UnitEntry.state = [.active] ∧ t.linkA.state = .running := by decide +kernel

/-- A late OK ends the report episode, so REPORT gives UNIT_FAILED again; a late BUSY does not (R129, R133, log 42). -/
theorem test_wake_late :
    let u := { led 1 true with state := .resting, rested := true, episode := true }
    let s := { rousing with
      items := { Items.default with faultModeA := .report }, linkA := { rousing.linkA with units := [u] } }
    (after (.wakeProbeReply .a false 250) s).notices.awaiting.map NoticeEntry.notice = [.unitFailed .a 1 .report .wake] ∧
      (after (.wakeProbeReply .a true 250) s).notices.awaiting = [] := by decide +kernel

/-- A wake probe with no answer (8.8, step 6): MISS and WAKE_ERR count, and the unit is BACKOFF. -/
theorem test_wake_miss :
    let t := after (.replyWindowExpiry .a) rousing
    t.count .missA = 1 ∧ t.count .wakeErrA = 1 ∧ t.linkA.units.map UnitEntry.backoff = [some 10000] := by
  decide +kernel

/-- The wake expiry resolves a unit not yet probed (R133). -/
theorem test_wake_expiry :
    let t := after (.wakeExpiry .a) { rousing with linkA := { rousing.linkA with transaction := none } }
    t.timebase = 250 ∧ t.linkA.state = .running ∧ t.count .wakeErrA = 1 := by decide +kernel

/-- A back-off probe answered: UNIT_RECOVERED with the retry count (8.8, step 8). -/
theorem test_backoff_probe :
    let t := after (.backoffProbeReply .a false)
      (linked .running [{ led 1 true with state := .backoff, retryCount := 2 }] (some (.backoffProbe 1)))
    t.linkA.units.map UnitEntry.state = [.active] ∧ notes t = [.unitRecovered .a 1 2] := by decide +kernel

/-- A back-off expiry makes the probe due, and it goes next (8.8, step 8). -/
theorem test_backoff_expiry :
    let t := run [.backoffExpiry .a 1, .nextFrameSelect .a]
      (linked .running [{ led 1 true with state := .backoff, backoff := some 10000 }] none)
    t.timebase = 10000 ∧ t.linkA.transaction.map Transaction.purpose = some (.backoffProbe 1) := by decide +kernel

/-- The SEAT content of a free seat. -/
def freeSeat : Content := .seat [⟨.free, none, none, ⟨false, false, false, false⟩⟩]

/-- OK to a SHOW acknowledges its content (7.8, step 4). -/
theorem test_show_ok :
    (after (.showOk .a) (linked .running [led 1 false] (some (.item ⟨1, .content freeSeat⟩)))).linkA.units.map
      UnitEntry.ackSeat = [some freeSeat] := by decide +kernel

/-- BUSY to a SHOW with none newer queued re-appends it (R117). -/
theorem test_show_busy :
    (after (.showBusy .a) (linked .running [led 1 false] (some (.item ⟨1, .content freeSeat⟩)))).linkA.queue =
      [⟨1, .content freeSeat⟩] := by decide +kernel

/-- OK to a PROBE ends a suspicion (R117). -/
theorem test_probe_reply :
    (after (.probeReply .a false) (linked .running [{ led 1 false with state := .suspect, missCount := 2 }]
      (some (.item ⟨1, .probe⟩)))).linkA.units.map UnitEntry.state = [.active] := by decide +kernel

/-- The probe deadline of a unit offers a PROBE and is set again (R119). -/
theorem test_probe_deadline :
    let t := after (.probeDeadlineExpiry .a 1) (linked .running [{ led 1 false with probeDeadline := 5000 }] none)
    t.linkA.queue = [⟨1, .probe⟩] ∧ t.linkA.units.map UnitEntry.probeDeadline = [10000] := by decide +kernel

/-- The end of an e-paper hold (R118). -/
theorem test_epaper_hold :
    (after (.ePaperHoldExpiry .a 1) (linked .running [{ led 1 false with hold := some 10000 }] none)).linkA.units.map
      UnitEntry.hold = [none] := by decide +kernel

/-- The quiet delay makes REST due (8.8, step 2). -/
theorem test_quiet_delay :
    let s := linked .running [led 1 true] none
    (after (.quietDelayExpiry .a) { s with
      items := { Items.default with quietEnable := true }
      linkA := { s.linkA with quietDelay := some 600000 } }).linkA.restDue = true := by decide +kernel

/-- The end of an UNASSIGNED frame acts on nothing. -/
theorem test_unassigned :
    (after (.unassignedShowEnd .a .ok) (linked .running [{ led 1 false with state := .duplicate }]
      (some (.unassigned 1)))).linkA.units.map UnitEntry.state = [.duplicate] := by decide +kernel

/-- The removal of the head marks LINK_A, though the refill sweep brings the depth back (R113). -/
theorem test_depth_marked :
    let s := linked .running ((List.range' 1 9).map fun a => { led a false with owedSeat := decide (a = 1) }) none
    let t := after (.nextFrameSelect .a) { s with
      linkA := { s.linkA with queue := (List.range' 2 8).map (fun a => ⟨a, .probe⟩) ++ [⟨2, .content freeSeat⟩] } }
    t.linkA.queue.length = 9 ∧ t.isDirty (.status 10) = true := by decide +kernel

/-- The direction output is driven for the words of the frame and released at the last one (R90). -/
theorem test_direction :
    let s := linked .running [{ led 1 false with state := .backoff, probeDue := some 0 }] none
    let k := (after (.nextFrameSelect .a) s).linkA
    k.driving 0 = true ∧ k.driving 1 = false ∧ (inFlightRest.linkA.driving 9 = true) := by decide +kernel

/-- A malformed reply is a miss (R92): the unit is SUSPECT and the item returns (R124). -/
theorem test_malformed :
    let t := after (.malformedReply .a ⟨0, [], true⟩) (linked .running [led 1 false] (some (.item ⟨1, .probe⟩)))
    t.linkA.units.map UnitEntry.state = [.suspect] ∧ t.linkA.queue = [⟨1, .probe⟩] ∧ t.count .missA = 1 := by
  decide +kernel

/-- REFRESH of a link that is OFF is answered LINK_OFF (R120). -/
theorem test_refresh_off : (after (.refresh .single 0) idle).request.result.code = .linkOff := by decide +kernel

/-- REENUMERATE of a running link starts at once (R105). -/
theorem test_reenumerate :
    let t := after (.reenumerate .single 0) (linked .running [led 1 false] none)
    t.linkA.state = .enumerating ∧ t.linkA.units = [] ∧ t.request.result.code = .done := by decide +kernel

/-- LINK_DISABLE returns a link to its reset values (R98). -/
theorem test_link_disable :
    let s := linked .running [led 1 false] none
    (after (.linkDisable .single 0) { s with items := { Items.default with linkEnableA := true } }).linkA =
      Link.reset := by decide +kernel

/-! ## Notices, status words and the memory path (chapters 9 and 10) -/

/-- The state of 9.5: word 22 has count 5, memory 5, its mark clear, not dirty, and an inconsistent report is taken. -/
def clearing : State :=
  bump .reportInconsistent { idle with
    status := ⟨0, (List.replicate 20 0).set 6 5, 0⟩
    mem := [(0x116, 5)] }

/-- Steps 1 and 2 of Table 9-4: a clearing read returns 5 and leaves 1. -/
theorem test_clearing_read :
    let t := after (.counterClearingRead .last .reportInconsistent 15) clearing
    t.bus.readData = 5 ∧ t.count .reportInconsistent = 1 ∧ t.status.clearPending.getLsbD 22 = true := by
  decide +kernel

/-- Steps 3 to 5 of Table 9-4: a second read changes nothing, and the write-back after one more report writes 2. -/
theorem test_write_back :
    let read := Instr.counterClearingRead .last .reportInconsistent 15
    let t := after .statusWriteBack (bump .reportInconsistent (run [read, read] clearing))
    readMem t.mem 0x116 = 2 ∧ t.status.clearPending.getLsbD 22 = false ∧ t.count .reportInconsistent = 2 := by
  decide +kernel

/-- A clearing read of LINK_A re-arms a latch it returned at 0 (R146). -/
theorem test_link_clearing_read :
    let s := linked .running [] none
    (after (.linkStatusClearingRead .last .a 15) { s with linkA := { s.linkA with chainIntact := false } }).linkA.chainIntact
      = true := by decide +kernel

/-- The state of 10.9 after cycle 1: an ARRIVED notice waits. -/
def ringing : State := raise (.arrived 3106 (some 6) false) idle

/-- Cycles 2 to 17 of Table 10-3: sixteen bursts bring the count to 16, and the entry cycle waits. -/
theorem test_starvation :
    let t := (List.range 16).foldl (fun s _ => grantAccess .single s) ringing
    t.port.starvation = 16 ∧ t.port.inProgress = some .noticeEntry := by decide +kernel

/-- Cycle 18 of Table 10-3: the entry cycle goes before the seventeenth burst, and the producer cycle waits. -/
theorem test_starvation_forces :
    let t := (List.range 17).foldl (fun s _ => grantAccess .single s) ringing
    t.port.starvation = 1 ∧ t.port.inProgress = some .noticeProducer := by decide +kernel

/-- No own cycle goes between the words of a burst, and the waiting one goes after its last word (R158). -/
theorem test_burst_runs_through :
    let t := after .noticeEntryWrite (grantAccess .first ringing)
    t.port.inProgress = some .noticeEntry ∧ t.port.burst = .forwarded ∧
      (after .noticeEntryWrite (grantAccess .last t)).port.inProgress = some .noticeProducer := by decide +kernel

/-- A state with image B guarded, a notice waiting and a starvation count. -/
def guarding (n : Nat) : State :=
  let s := raise (.arrived 3106 (some 6) false) (train routeB .standing 2 96700 0)
  { s with port := { s.port with starvation := n } }

/-- A burst whose first word is held back is one cycle (R151): no own cycle goes before its last word, and it counts at
the word that is forwarded (log 53). -/
theorem test_burst_begins_held_back :
    let t := run [.guardedWrite .first .b 0 15 9, .noticeEntryWrite, .guardedWrite .middle .b 1 15 9] (guarding 5)
    let u := after (.passThroughAccess .last (.write 0x20000 15 7)) t
    t.port = ⟨some .noticeEntry, 5, .heldBack, false, false⟩ ∧ t.count .guardBlocked = 2 ∧
      u.port = ⟨some .noticeEntry, 6, .closed, false, false⟩ := by decide +kernel

/-- A burst wholly held back leaves the count (R158); at 16 the own cycle goes before its first word (log 53). -/
theorem test_burst_wholly_held_back :
    (∀ n ∈ [5, 15], (run [.guardedWrite .first .b 0 15 9, .guardedWrite .last .b 1 15 9] (guarding n)).port =
      ⟨some .noticeEntry, n, .closed, false, false⟩) ∧
    (after (.guardedWrite .first .b 0 15 9) (guarding 16)).port =
      ⟨some .noticeProducer, 0, .heldBack, false, false⟩ := by decide +kernel

/-- An image read placed on an idle port is begun before a notice that comes after it (R159). -/
theorem test_read_before_notice :
    let t := run [.previewRoute .single 0x11000001, .freshnessExpiry, .previewReadComplete]
      (train route61 .cruising 0 60000 2500)
    t.request.busy = none ∧ notes t = [.coastStarted (.coasting .stale)] := by decide +kernel

/-- The two cycles of a notice (R138): the producer index word shows 1 and ATTN is asserted. -/
theorem test_notice_cycles :
    let t := run [.noticeEntryWrite, .producerIndexWrite] ringing
    readMem t.mem 0x900 = 1 ∧ t.notices.visible = 1 ∧ attn t = true ∧ attn ringing = false := by decide +kernel

/-- The consumer index beyond what memory shows is an error (R139). -/
theorem test_consumer_error : (after (.consumerIndexWrite .single 1) idle).count .consumerError = 1 := by decide +kernel

/-- An overwrite of the producer index word places a producer-only access, which restores it (R156). -/
theorem test_producer_overwrite :
    let t := after (.producerIndexOverwrite .single 15 9) idle
    t.notices.accesses = [.producerOnly] ∧ readMem t.mem 0x900 = 9 ∧
      readMem (after .producerOnlyWrite t).mem 0x900 = 0 := by decide +kernel

/-- An overwritten view word is dirty (R156). -/
theorem test_overwrite_dirty :
    let t := after (.controllerWordOverwrite .single (.seat 67) 15 9) idle
    t.isDirty (.seat 67) = true ∧ readMem t.mem 0x643 = 9 := by decide +kernel

/-- A write into a guarded window is held back (R154). -/
theorem test_guarded :
    let t := after (.guardedWrite .single .b 0 15 9) (train routeB .standing 2 96700 0)
    t.mem = [] ∧ t.count .guardBlocked = 1 := by decide +kernel

/-- A partial write to a captured word passes and is not captured (R152). -/
theorem test_partial :
    let t := after (.partialCapturedWrite .single (.mailbox 0) 1 0x1234) idle
    readMem t.mem 0x208 = 0x34 ∧ t.filter.staging.w0 = 0 ∧ t.count .tapPartial = 1 := by decide +kernel

/-- An access outside the tap region passes (R150). -/
theorem test_pass_through :
    (run [.passThroughAccess .single (.write 0x20000 15 7), .passThroughAccess .single (.read 0x20000 15)]
      idle).bus.readData = 7 := by decide +kernel

/-- A second of the timebase (R143). -/
theorem test_second :
    let t := after .timebaseSecond { idle with timebase := 1999 }
    t.timebase = 2000 ∧ t.isDirty (.status 13) = true := by decide +kernel

/-! ## Configuration and resets (chapter 11) -/

/-- MISS_DEGLITCH takes 9 and is clamped to 15 (Table 11-1). -/
theorem test_configuration :
    (after (.configurationWordWrite .single 3 9) idle).items.missDeglitch = 9 ∧
    (after (.configurationWordWrite .single 3 0x81) idle).items.missDeglitch = 15 := by decide +kernel

/-- An odd count of ones is not taken (R161). -/
theorem test_configuration_parity :
    let t := after (.configurationWordWrite .single 3 8) idle
    t.count .configParity = 1 ∧ t.items = Items.default := by decide +kernel

/-- QUIET starts the delay of a coach out of service (R131). -/
theorem test_quiet :
    let s := linked .running [] none
    (after (.quietWrite .single 0x0A01) { s with
      route := { Route.reset with consist := ⟨7, .one, .forward, false⟩ } }).linkA.quietDelay = none ∧
    (after (.quietWrite .single 0x80000301) { s with
      route := { Route.reset with consist := ⟨7, .one, .forward, false⟩ } }).linkA.quietDelay = some 180000 := by
  decide +kernel

/-- BERTH_DISTANCE makes COASTING above the cap HOLDING (R32). -/
theorem test_berth_distance :
    let s := train route61 .cruising 0 60700 2500
    (after (.berthDistanceWrite .single 0x80000190) { s with
      filter := { s.filter with mode := .coasting .stale, coastStep := some 504000 } }).filter.mode = .holding .stale := by
  decide +kernel

/-- SOFT_RESET to HOLD resets the blocks and keeps memory and the timebase (R163, R164). -/
theorem test_hold :
    let t := after (.softResetHold .single 3) (train routeB .standing 2 96700 0)
    t.items.softReset = true ∧ t.route.active = none ∧ t.timebase = 500000 ∧ readMem t.mem 0 = 3 := by decide +kernel

/-- SOFT_RESET to RUN places the re-read (R163), whose first cycle takes word 1 from memory (R165). -/
theorem test_run :
    let s := { idle with items := { Items.default with softReset := true }, mem := [(1, 0x80000001)] }
    let t := after (.softResetRun .single 0) s
    t.port.configPlaced = true ∧ (after .configRereadCycle t).items.linkEnableA = true := by decide +kernel

/-- A pin reset (R160, R166): a write held while RESET is asserted is performed after the release. -/
theorem test_pin_reset :
    let t := run [.pinResetAssert, .passThroughAccess .single (.write 0x20000 15 7), .pinResetRelease 1]
      (train routeB .standing 2 96700 0)
    t.route.active = none ∧ t.timebase = 0 ∧ t.bus.straps = 1 ∧ readMem t.mem 0x20000 = 7 := by decide +kernel

/-- RESET within a burst (R160): the later word is performed, and the access after the burst is held. -/
theorem test_reset_in_burst :
    let write (b : Beat) (a : Nat) : Instr := .passThroughAccess b (.write a 15 7)
    let t := run [write .first 0x20000, .pinResetAssert, write .last 0x20001, write .single 0x20002] idle
    readMem t.mem 0x20001 = 7 ∧ readMem t.mem 0x20002 = 0 ∧ t.bus.held = [write .single 0x20002] := by decide +kernel

/-- RESET within a burst whose first word is held back (R151, R160): its last word is performed. -/
theorem test_reset_in_held_back_burst :
    readMem (run [.guardedWrite .first .b 4095 15 9, .pinResetAssert, .passThroughAccess .last (.write 0x20000 15 7)]
      (guarding 0)).mem 0x20000 = 7 := by decide +kernel

/-- A step takes the command in front (log 1). -/
theorem test_step :
    (match step { idle with pending := [.timebaseSecond, .pinResetAssert] } with
      | .next t => some (t.timebase, t.pending)
      | _ => none) = some (1000, [.pinResetAssert]) := by decide +kernel

/-! ## States that meet the hypotheses of the statements

Each theorem below names the statement it belongs to. A state meets the hypotheses of every clause of the statement, at
the bounds of its ranges where it has any. -/

/-- An outcome is a next state. -/
def answers (o : Host.Outcome State Fault Refusal) : Bool :=
  match o with
  | .next _ => true
  | .fault _ => false
  | .refused _ => false

/-- The state with commands waiting. -/
def waiting (cs : List Instr) (s : State) : State := { s with pending := cs }

/-- The state while RESET is asserted. -/
def asserted : State := after .pinResetAssert idle

/-- The state while SOFT_RESET holds HOLD. -/
def held : State := after (.softResetHold .single 3) idle

/-- The state with a starvation count and a notice waiting. -/
def starved (n : Nat) : State := { ringing with port := { ringing.port with starvation := n } }

theorem witness_StepTakesTheFrontCommand :
    (waiting [.timebaseSecond] idle).pending = [.timebaseSecond] ∧
    (asserted.pending = [] ∧ asserted.bus.resetAsserted = true) ∧
    (idle.pending = [] ∧ idle.bus.resetAsserted = false) := by decide +kernel

theorem witness_PinResetHoldsAccessesAndRestores :
    (idle.bus.resetAsserted = false ∧ asserted.bus.resetAsserted = true) ∧
    (∀ straps, Instr.timebaseSecond ≠ .pinResetRelease straps) ∧ busOpOf asserted .timebaseSecond = none ∧
    (∀ b : Beat, ∀ straps, Instr.softResetHold b 3 ≠ .pinResetRelease straps) ∧
    (∀ burst ∈ [Burst.closed, .heldBack, .forwarded],
      let s := { asserted with port := { asserted.port with burst := burst } };
      s.bus.resetAsserted = true ∧ s.port.burst = burst ∧
        (busOpOf s (.softResetHold .last 3)).map Prod.fst = some .last) := by
  refine ⟨by decide +kernel, nofun, by decide +kernel, nofun, by decide +kernel⟩

theorem witness_HoldTakesOnlyTheSoftResetWord :
    (held.items.softReset = true ∧ blockEvent .freshnessExpiry = true) ∧
    held.bus.resetAsserted = false ∧
    busOpOf held (.configurationWordWrite .single 31 5) = some (.single, .write (.captured (.config 31)) fullWord 5) ∧
    CapturedWord.config 31 ≠ .config 0 ∧
    (held.passed .single (capturedOffset (.config 31)) 5).items.softReset = true := by decide +kernel

theorem witness_SoftResetActsByTheValueHeld :
    idle.bus.resetAsserted = false ∧ held.bus.resetAsserted = false ∧ evenParity 1 = false ∧
    (evenParity 3 = true ∧ BitVec.getLsbD (3 : Word) 0 = true ∧ (idle.passed .single 0 3).items.softReset = false) ∧
    (evenParity 0 = true ∧ BitVec.getLsbD (0 : Word) 0 = false ∧ (held.passed .single 0 0).items.softReset = true) ∧
    BitVec.getLsbD (0 : Word) 0 = (idle.passed .single 0 0).items.softReset ∧
    BitVec.getLsbD (3 : Word) 0 = (held.passed .single 0 3).items.softReset := by decide +kernel

theorem witness_AdmissionCountsTowardStarvation :
    (grantAccess .first (starved 16)).port.burst = .forwarded ∧
    (∀ n ∈ [0, 15, 16], let s := skipWord .first (starved n);
      s.port.burst = .heldBack ∧ s.port.inProgress ≠ none) ∧
    ((skipWord .first idle).port.burst = .heldBack ∧ (skipWord .first idle).port.inProgress = none) ∧
    (idle.port.burst = .closed ∧ idle.bus.resetAsserted = false ∧ (beginOwn idle).port.inProgress = none) ∧
    (∀ n ∈ [0, 15, 16], (beginOwn (starved n)).port.inProgress = some .noticeEntry ∧
      (starved n).port.starvation = n ∧ (starved n).port.burst = .closed ∧
      (starved n).bus.resetAsserted = false) := by decide +kernel

/-- A state about to write the entry of a notice. -/
def writing : State :=
  waiting [.noticeEntryWrite] { ringing with port := ⟨some .noticeEntry, 16, .closed, false, false⟩, mem := slot40 }

theorem witness_StepKeepsTheNoticeRingSound : RingSound writing ∧ answers (step writing) = true := by
  refine ⟨⟨?_, by decide +kernel, by decide +kernel,
    fun _ => ⟨⟨0, .arrived 3106 (some 6) false, 0⟩, by decide +kernel⟩, by decide +kernel⟩, by decide +kernel⟩
  intro i e h
  have a : writing.notices.awaiting = [⟨0, .arrived 3106 (some 6) false, 0⟩] := by decide +kernel
  rw [a] at h
  match i with
  | 0 => cases h; decide +kernel
  | i + 1 => simp at h

theorem witness_StepKeepsTheReservationBounds :
    let s := waiting [.releaseExpiry] (seat34 false);
    ReservationsBounded s ∧ answers (step s) = true := by
  refine ⟨?_, by decide +kernel⟩
  constructor <;> decide +kernel

/-- A link reading its second unit, with an item queued. -/
def reading2 : State :=
  let s := linked .enumerating [led 1 false] (some (.setAddress 1 ⟨0, 0, false, 0, 12, 0, none⟩));
  waiting [.setAddressOk .a] { s with linkA := { s.linkA with queue := [⟨1, .probe⟩] } }

theorem witness_StepKeepsTheLinksSound : (∀ l, LinkSound l (reading2.link l)) ∧ answers (step reading2) = true := by
  refine ⟨fun l => ?_, by decide +kernel⟩
  cases l <;> constructor <;> decide +kernel

/-- A SHOW in flight to a unit that owes its content, and its OK. -/
def showing : State :=
  waiting [.showOk .a] (linked .running [{ led 1 false with owedSeat := true }] (some (.item ⟨1, .content freeSeat⟩)))

/-- Every target of a link that is OFF is on its way. -/
theorem targetsOnTheirWay_off (s : State) (l : LinkId) (h : s.link l = .reset) : TargetsOnTheirWay s l := by
  constructor <;> simp [h, Link.reset, LinkState.up]

theorem witness_StepKeepsEveryTargetOnItsWay :
    (∀ l, LinkSound l (showing.link l)) ∧ showing.res.seats.length = 128 ∧ ContentOnItsWay showing ∧
    answers (step showing) = true ∧ showing.bus.resetAsserted = false ∧ (showing.link .a).state = .running ∧
    (∀ u ∈ (showing.link .a).units, u.state = .active ∧ ContentKind.seat ∈ u.kinds ∧
      u.acknowledged .seat ≠ some (target showing .a u .seat)) := by
  have owed : ∀ u ∈ (showing.link .a).units, ∀ kind ∈ u.kinds, u.owed kind = true := by decide +kernel
  have flight : (showing.link .a).transaction = some ⟨.item ⟨1, .content freeSeat⟩, 1, [], 600, 0⟩ := by decide +kernel
  have running : (showing.link .a).state = .running := by decide +kernel
  have shown : ∀ u ∈ (showing.link .a).units, u.state ≠ .foreign ∧ u.state ≠ .duplicate ∧
      seatKind u.page.kind = true := by decide +kernel
  have shows : ∀ u ∈ (showing.link .a).units, u.shows := fun u m => ⟨(shown u m).1, (shown u m).2.1⟩
  have onA : TargetsOnTheirWay showing .a := {
    target := fun _ u m kind h _ => .inr (owed u m kind h)
    queued := fun _ u m c h _ => .inr (owed u m c.kind h)
    idle := fun h => absurd (running.symm.trans h) nofun
    steps := fun h => absurd (running.symm.trans h) nofun
    frames := fun _ x h => ⟨by rw [Option.some.inj (h.symm.trans flight)]; rfl, fun u m _ => shows u m⟩
    resting := fun u m _ => shows u m
    kinds := fun u m _ => (shown u m).2.2 }
  refine ⟨fun l => ?_, by decide +kernel, fun _ l => ?_, by decide +kernel, by decide +kernel, running, by decide +kernel⟩
  · cases l <;> constructor <;> decide +kernel
  · cases l
    · exact onA
    · exact targetsOnTheirWay_off _ _ (by decide +kernel)
    · exact targetsOnTheirWay_off _ _ (by decide +kernel)

/-- A train coasting on a silence, with a coast step waiting. -/
def silent : State := waiting [.coastStep] (after .freshnessExpiry (train route61 .cruising 0 60000 2500))

theorem witness_StepKeepsMemoryAndFigures :
    Memory.wf writing.mem = true ∧ answers (step writing) = true ∧
    FilterInRange silent ∧ MarksFit silent ∧ CountsInRange silent ∧ answers (step silent) = true := by
  have active : silent.route.active = some route61 := by decide +kernel
  have before : silent.filter.previous = some ⟨60000, 2500, 500000⟩ := by decide +kernel
  have pending : silent.route.pendingSwitch = .none := by decide +kernel
  refine ⟨by decide +kernel, by decide +kernel, ?_, ⟨fun r h => ?_, fun i st g copy h => ?_⟩, ?_, by decide +kernel⟩
  · constructor
    case previous => intro o h; rw [before] at h; cases h; decide
    all_goals decide +kernel
  · rw [active] at h; cases h; decide
  · rw [pending] at h; cases h
  · constructor <;> decide +kernel

/-- An event that arrives while SOFT_RESET holds HOLD. -/
def heldEvent : State := waiting [.freshnessExpiry] held

theorem witness_StepKeepsEveryBlockResetInHold :
    (heldEvent.items.softReset = true ∧ HoldsReset heldEvent) ∧ answers (step heldEvent) = true := by
  have blocks : (heldEvent.items, heldEvent.request, heldEvent.route, heldEvent.filter, heldEvent.tracker,
      heldEvent.res) = ({ Items.default with softReset := true }, .reset, .reset, .reset, .reset, .reset) := by
    decide +kernel
  have links : ∀ l, heldEvent.link l = .reset := fun l => by cases l <;> decide +kernel
  have ring : (heldEvent.notices.producer, heldEvent.notices.visible, heldEvent.notices.consumer,
      heldEvent.notices.awaiting) = (0, 0, 0, []) := by decide +kernel
  have port : heldEvent.port.configPlaced = false ∧ heldEvent.port.inProgress = none := by decide +kernel
  simp only [Prod.mk.injEq] at blocks ring
  obtain ⟨items, request, route, filter, tracker, res⟩ := blocks
  obtain ⟨producer, visible, consumer, awaiting⟩ := ring
  exact ⟨⟨items ▸ rfl, fun _ => ⟨items, request, route, filter, tracker, res, links .a, links .b, links .p, producer,
    visible, consumer, awaiting, port.1, by simp [port.2]⟩⟩, by decide +kernel⟩

theorem witness_NoWriteReachesAGuardedWindow :
    let s := train routeB .standing 2 96700 0;
    let c := Instr.passThroughAccess .single (.write 0x2FFF 15 9);
    Memory.wf s.mem = true ∧ guarded s .b = true ∧ (∀ straps, c ≠ .pinResetRelease straps) ∧
      answers (exec c s) = true :=
  ⟨by decide +kernel, by decide +kernel, nofun, by decide +kernel⟩

theorem witness_TakenWordClampsItsItems :
    idle.bus.resetAsserted = false ∧ ∀ w ∈ [(2 : Fin 32), 3, 7, 9, 17, 19, 31],
      (idle.passed .single w.val 0xFFFFFFFF).items.softReset = false ∧ evenParity 0xFFFFFFFF = true ∧
        w ≠ 0 ∧ w ≠ 1 ∧ w ≠ 8 ∧ w ≠ 18 := by decide +kernel

/-- A running link A whose setting is on. -/
def enabled : State :=
  let s := linked .running [led 1 false] none;
  { s with items := { Items.default with linkEnableA := true } }

/-- Link A running while the coach is out of service. -/
def unserved : State :=
  let s := linked .running [led 1 true] none;
  { s with route := { Route.reset with consist := ⟨7, .one, .forward, false⟩ } }

/-- COASTING at the coast cap of 60,700 m. -/
def coasting : State :=
  let s := train route61 .cruising 0 60700 2500;
  { s with filter := { s.filter with mode := .coasting .stale, coastStep := some 504000, sourcePresent := false } }

theorem witness_EnableQuietAndBerthActWhenTaken :
    (enabled.bus.resetAsserted = false ∧ evenParity 6 = true ∧
      (let a := enabled.passed .single 1 6;
        a.items.softReset = false ∧ (a.items.linkEnable .a = true ∧ BitVec.getLsbD (6 : Word) 0 = false) ∧
          (a.items.linkEnable .b = false ∧ BitVec.getLsbD (6 : Word) 1 = true ∧ (a.link .b).state = .off))) ∧
    (unserved.bus.resetAsserted = false ∧ (unserved.passed .single 8 0x80000301).items.softReset = false ∧
      evenParity 0x80000301 = true) ∧
    (coasting.bus.resetAsserted = false ∧ (coasting.passed .single 18 0x80000190).items.softReset = false ∧
      evenParity 0x80000190 = true ∧ coasting.filter.mode = .coasting .stale ∧
      (route61.mark 1 - 400) * 1000 < coasting.filter.progress) ∧
    (evenParity 0x0000012C = true ∧ ¬ (route61.mark 1 - 300) * 1000 < coasting.filter.progress) := by decide +kernel

/-- A re-read with cycle `n` next. -/
def rereading (n : Nat) : State := { idle with port := ⟨some (.config n), 0, .closed, false, false⟩ }

theorem witness_RereadTakesItsWordsInOrder :
    ((rereading 0).bus.resetAsserted = false ∧ (rereading 0).nextAccess = some (.config 0) ∧
      (rereading 3).nextAccess = some (.config 3)) ∧
    State.nextAccess { idle with port := ⟨none, 0, .closed, true, false⟩ } = some (.config 0) := by decide +kernel

/-- The request unit BUSY with an activation. -/
def busy : State := { idle with request := ⟨some (.activateRoute, 1), ⟨0, none, .none, none⟩⟩ }

theorem witness_BusyUnitAnswersBusy :
    busy.bus.resetAsserted = false ∧ (busy.passed .single 0x206 0).items.softReset = false ∧
      (busy.passed .single 0x206 0).request.busy.isSome = true := by decide +kernel

/-- A switch to image B waits for the train of image A. -/
def switching : State :=
  let s := train routeA .cruising 2 30000 2000;
  { s with route := { s.route with pendingSwitch := .waiting .b .auto 9 copyB } }

theorem witness_ActivationIsJudgedInOrder :
    (busy.bus.resetAsserted = false ∧ (busy.passed .single 0x200 0).items.softReset = false ∧
      (busy.passed .single 0x200 0).request.busy.isSome = true) ∧
    (∀ v ∈ [2, 0x4000, 0xFE00], (idle.passed .single 0x200 (BitVec.ofNat 32 v)).request.busy = none ∧
      (2 ≤ v % 4 ∨ (64 ≤ v / 256 % 256 ∧ v / 256 % 256 < 255))) ∧
    (∀ v ∈ [0xFF01, 0x3F01], let a := switching.passed .single 0x200 (BitVec.ofNat 32 v);
      switching.bus.resetAsserted = false ∧ a.items.softReset = false ∧ a.request.busy = none ∧
        a.route.pendingSwitch = .waiting .b .auto 9 copyB ∧ a.route.active.map ActiveRoute.image = some .a ∧
        imageOf (v % 4) = some .b) ∧
    (∀ v ∈ [0xFF01, 0x3F00], let a := idle.passed .single 0x200 (BitVec.ofNat 32 v);
      a.items.softReset = false ∧ a.request.busy = none ∧ a.route.active = none ∧ a.route.pendingSwitch = .none) := by
  decide +kernel

theorem witness_CancelEndsAWaitingSwitch :
    (busy.bus.resetAsserted = false ∧ (busy.passed .single 0x202 0).items.softReset = false ∧
      (busy.passed .single 0x202 0).request.busy.isSome = true) ∧
    (switching.bus.resetAsserted = false ∧ (switching.passed .single 0x202 0).request.busy = none ∧
      (switching.passed .single 0x202 0).route.pendingSwitch = .waiting .b .auto 9 copyB) ∧
    ((idle.passed .single 0x202 0).request.busy = none ∧
      (idle.passed .single 0x202 0).route.pendingSwitch = .none) := by decide +kernel

/-- An image of two stops, 1,000 m apart, in window B. -/
def image2 : List Cell :=
  [(0x2000, 0x41465231), (0x2001, 5230), (0x2002, 2), (0x2010, 0x00030C1D), (0x2020, 0x00030C1E), (0x2021, 1000)]

/-- A preview of window B is being read. -/
def previewing (mem : List Cell) : State := after (.previewRoute .single 0x11000001) { idle with mem := mem }

theorem witness_PreviewIsReadAndEvaluated :
    (let a := idle.passed .single 0x201 2;
      idle.bus.resetAsserted = false ∧ a.items.softReset = false ∧ a.request.busy = none ∧ imageOf (2 % 4) = none) ∧
    (let a := (train routeB .standing 2 96700 0).passed .single 0x201 1;
      a.request.busy = none ∧ a.route.active.map ActiveRoute.image = imageOf (1 % 4)) ∧
    (let a := switching.passed .single 0x201 1;
      a.request.busy = none ∧ imageOf (1 % 4) = some .b ∧ a.route.active.map ActiveRoute.image ≠ some .b) ∧
    (∀ m ∈ [[], image2], let s := previewing m;
      s.bus.resetAsserted = false ∧ s.route.pendingSwitch = .none ∧ s.route.previewRead = some .b ∧
        s.request.busy = some (.previewRoute, 0x11) ∧ s.nextAccess = some (.image 0)) ∧
    ((previewing []).copyOf .b).invalid .one = some .badMagic ∧
    ((previewing image2).copyOf .b).invalid .one = none := by decide +kernel

/-- An activation of window B is being read. -/
def activating (start : Start) (mem : List Cell) (s : State) : State :=
  { s with
    mem := mem
    route := { s.route with pendingSwitch := .reading .b start 0x21 }
    request := ⟨some (.activateRoute, 0x21), s.request.result⟩ }

theorem witness_ActivationReadEndsInASwitchOrAWait :
    (let s := activating .auto [] idle;
      s.bus.resetAsserted = false ∧ s.route.pendingSwitch = .reading .b .auto 0x21 ∧
        s.nextAccess = some (.image 0) ∧ (s.copyOf .b).invalid .one = some .badMagic) ∧
    (let s := activating .auto image2 (train routeA .cruising 2 30000 2000);
      s.nextAccess = some (.image 0) ∧ (s.copyOf .b).invalid s.route.consist.portion = none ∧
        s.route.active = some routeA ∧ s.tracker.approach = some ⟨.cruising, 2⟩) ∧
    (∀ start ∈ [Start.auto, .index 0, .index 1, .index 2], let s := activating start image2 idle;
      s.nextAccess = some (.image 0) ∧ (s.copyOf .b).invalid s.route.consist.portion = none ∧
        s.route.active = none ∧ (s.copyOf .b).servedList s.route.consist.portion = [0, 1]) := by decide +kernel

/-- A copy that stops only for portion 2. -/
def copyTwo : RouteCopy := ⟨0x41465231, 9, 2, [stop 1 2 .none 0 0, stop 2 2 .none 900 0]⟩

/-- A copy that stops only for portion 1. -/
def copyOne : RouteCopy := ⟨0x41465231, 8, 2, [stop 1 1 .none 0 0, stop 2 1 .none 900 0]⟩

/-- A switch waits for the train of image B, with a portion and an in-service flag staged. -/
def waitingFor (copy : RouteCopy) (s : State) : State :=
  { s with route := { s.route with pendingSwitch := .waiting .a .auto 9 copy, staging := ⟨7, 2, 2⟩ } }

theorem witness_EntryIntoAStopEndsTheWait :
    (∀ copy ∈ [route61.copy, copyTwo],
      (let s := waitingFor copy (train routeB .arriving 3 171200 0);
        s.route.active = some routeB ∧ s.tracker.approach = some ⟨.arriving, 3⟩ ∧
          s.route.pendingSwitch = .waiting .a .auto 9 copy ∧
          distanceTo (routeB.mark 4) (s.filter.progress / 1000) ≤ s.items.berthDistance) ∧
      (let s := waitingFor copy (train routeB .cruising 4 215201 0);
        s.tracker.approach = some ⟨.cruising, 4⟩ ∧
          routeB.mark 5 + s.items.berthDistance < s.filter.progress / 1000 ∧ routeB.served.length ≤ 4 + 1 + 1)) ∧
    (route61.copy.checkServed (route61.copy.servedList .one) = none ∧
      copyTwo.checkServed (copyTwo.servedList .one) = some .tooFewServed) ∧
    (∀ copy ∈ [route61.copy, copyOne], ∀ metres ∈ [157999, 158000],
      let s := waitingFor copy (train routeB .cruising 3 metres 2000);
      let a := s.passed .single 0x213 0x3C;
      s.bus.resetAsserted = false ∧ a.items.softReset = false ∧ a.route.staging.w1.toNat % 256 = 2 ∧
        a.route.consist.portion = .one ∧ a.route.active = some routeB ∧ a.tracker.approach = some ⟨.cruising, 3⟩ ∧
        a.route.pendingSwitch = .waiting .a .auto 9 copy ∧
        (158300 ≤ a.filter.progress / 1000 + a.items.berthDistance ↔ metres = 158000)) ∧
    (copyB.servedList .two = [0, 1, 2, 4, 6] ∧ copyB.checkServed [0, 1, 2, 4, 6] = none ∧ (copyB.stop 6).mark = 158300) ∧
    (route61.copy.checkServed (route61.copy.servedList .two) = none ∧
      copyOne.checkServed (copyOne.servedList .two) = some .tooFewServed) := by decide +kernel

theorem witness_ConfirmActsOnTheSegmentInForce :
    (∀ n ∈ [0, 129, 1, 128], let a := idle.passed .single 0x203 (BitVec.ofNat 32 n);
      idle.bus.resetAsserted = false ∧ a.items.softReset = false ∧ a.request.busy = none ∧ a.res.seats.length = 128 ∧
        confirmable a (a.seat n) = none) ∧
    (∀ released, let a := (seat34 released).passed .single 0x203 34;
      a.items.softReset = false ∧ a.request.busy = none ∧ a.res.seats.length = 128 ∧
        confirmable a (a.seat 34) = some ⟨4711, 3, 9, .standard, .live, false, released⟩) := by decide +kernel

theorem witness_ClearSeatsKeepsOnlyTheBindings :
    let a := (seat34 false).passed .single 0x204 0;
    (seat34 false).bus.resetAsserted = false ∧ a.items.softReset = false ∧ a.request.busy = none := by decide +kernel

/-- A segment of service 4711 from stop 3 to stop 9, with a tag. -/
def leg (tag : Tag) : Segment := ⟨4711, 3, 9, .staff, tag, false, false⟩

theorem witness_StatusFollowsTheDecidingSegment :
    (idle.route.active = none ∧ (train routeA .cruising 2 30000 2000).route.active = some routeA ∧
      (train routeA .cruising 2 30000 2000).tracker.approach = some ⟨.cruising, 2⟩) ∧
    ((leg .live).isNow routeA.served 2 ∧ (leg .live).isNow routeA.served 5 ∧
      FirstOf (fun g => g.isNow routeA.served 2) [leg .misrouted, leg .live] (leg .live)) ∧
    ((leg .live).isUpcoming routeA.served 0 2 ∧ (leg .live).isUpcoming routeA.served 1 2 ∧
      (∀ h ∈ [leg .live], ¬ h.isNow routeA.served 1) ∧
      NearestUpcoming routeA.served 1 [leg .misrouted, leg .live] (leg .live)) ∧
    ((leg .live).hasEnded routeA.served 6 ∧ (∀ h ∈ [leg .live], ¬ h.isNow routeA.served 6) ∧
      (∀ h ∈ [leg .live], ∀ fp, ¬ h.isUpcoming routeA.served 6 fp)) ∧
    ((∀ h ∈ [leg .dormant, leg .misrouted], ¬ h.isNow routeA.served 2) ∧
      FirstOf (fun h => h.tag = .misrouted) [leg .dormant, leg .misrouted] (leg .misrouted)) := by
  have from_ : routeA.served.idxOf? 3 = some 2 := by decide
  have to_ : routeA.served.idxOf? 9 = some 6 := by decide
  have now : ∀ c, 2 ≤ c → c < 6 → (leg .live).isNow routeA.served c := fun c a b => ⟨rfl, 2, 6, from_, to_, a, b⟩
  have untagged : ∀ tag, tag ≠ .live → ∀ c, ¬ (leg tag).isNow routeA.served c := fun _ h _ x => h x.1
  have bounds : ∀ c, (leg .live).isNow routeA.served c → 2 ≤ c ∧ c < 6 := by
    rintro c ⟨-, fp, tp, hf, ht, a, b⟩
    rw [show (leg .live).fromIndex = 3 from rfl, from_] at hf
    rw [show (leg .live).toIndex = 9 from rfl, to_] at ht
    cases hf; cases ht; exact ⟨a, b⟩
  have ahead : ∀ c, c < 2 → (leg .live).isUpcoming routeA.served c 2 := fun c h => ⟨rfl, ⟨6, to_⟩, from_, h⟩
  refine ⟨by decide +kernel, ⟨now 2 (by omega) (by omega), now 5 (by omega) (by omega), [leg .misrouted], [], rfl,
    now 2 (by omega) (by omega), ?_⟩, ⟨ahead 0 (by omega), ahead 1 (by omega), ?_, [leg .misrouted], [], 2, rfl,
    ahead 1 (by omega), ?_, nofun⟩, ⟨⟨rfl, 2, 6, from_, to_, by omega, by omega⟩, ?_, ?_⟩, ?_, [leg .dormant], [], rfl,
    rfl, ?_⟩
  · simpa using untagged .misrouted nofun 2
  · simpa using fun h => absurd (bounds 1 h).1 (by omega)
  · simp [Segment.isUpcoming, leg]
  · simpa using fun h => absurd (bounds 6 h).2 (by omega)
  · simp [Segment.isUpcoming, leg, from_]
  · simpa using ⟨untagged .dormant nofun 2, untagged .misrouted nofun 2⟩
  · simp [leg]

theorem witness_SegmentsAreTaggedAgain :
    ∀ s ∈ [train routeB .cruising 3 137000 2000, train routeB .terminated 5 214900 0],
      s.route.active = some routeB ∧ s.tracker.approach.isSome = true ∧ s.route.pendingSwitch = .none ∧
        (∀ portion ∈ [Portion.one, .two], routeB.copy.checkServed (routeB.copy.servedList portion) = none) := by
  decide +kernel

/-- Link A with a transaction in flight and running. -/
def inFlight (p : Purpose) : State := linked .running [led 1 false] (some p)

theorem witness_ReenumerateStartsAfreshOrWaits :
    (∀ v ∈ [3, 0], let a := idle.passed .single 0x205 (BitVec.ofNat 32 v);
      idle.bus.resetAsserted = false ∧ a.items.softReset = false ∧ a.request.busy = none ∧
        (linkOf (v % 4) = none ∨ (linkOf (v % 4) = some .a ∧ (a.link .a).state = .off))) ∧
    (let a := enabled.passed .single 0x205 0;
      a.items.softReset = false ∧ a.request.busy = none ∧ (a.link .a).state ≠ .off ∧
        (a.link .a).transaction = none) ∧
    (let a := (inFlight .rest).passed .single 0x205 0;
      a.request.busy = none ∧ (a.link .a).state ≠ .off ∧ (a.link .a).transaction = some ⟨.rest, 1, [], 600, 0⟩) ∧
    (let a := idle.passed .single 0x206 3;
      a.items.softReset = false ∧ a.request.busy = none ∧ linkOf 3 = none ∧ (a.link .a).state = .off) := by
  decide +kernel

theorem witness_RefreshOwesEveryKind :
    let a := enabled.passed .single 0x206 0;
    enabled.bus.resetAsserted = false ∧ a.items.softReset = false ∧ a.request.busy = none ∧
      linkOf ((0 : Word).toNat % 4) = some .a ∧ (a.link .a).state ≠ .off := by decide +kernel

theorem witness_FieldWordsAreStagedAndBadWordsAreNotTaken :
    idle.bus.resetAsserted = false ∧
    (∀ w ∈ [0x208, 0x20C, 0x210, 0x212], (idle.passed .single w 7).items.softReset = false) ∧
    (∀ w ∈ [(0 : Fin 32), 1, 8, 18, 31], (idle.passed .single w.val 1).items.softReset = false ∧ evenParity 1 = false) ∧
    ((idle.passed .single 0x20D 0xA6).items.softReset = false ∧ (0xA6 : Word).toNat % 256 ≠ 0xA7) ∧
    ((idle.passed .single 0x213 0x3B).items.softReset = false ∧ (0x3B : Word).toNat % 256 ≠ 0x3C) ∧
    ((idle.passed .single 0x213 0x3C).items.softReset = false ∧
      (idle.passed .single 0x213 0x3C).route.staging.w1.toNat % 256 = 0) ∧
    ((idle.passed .single (0x4007 + 8 * 511) 0).items.softReset = false ∧ (0 : Word).toNat % 256 ≠ 0xC5) := by
  decide +kernel

/-- A report staged with a time, on the train of 2.11. -/
def staged (distance time : Nat) (reference : Bool) : State :=
  let s := train route61 .cruising 0 60000 2500;
  { s with filter := { s.filter with
      staging := ⟨BitVec.ofNat 32 distance, 2300, 0, BitVec.ofNat 32 time, 0⟩, referencePending := reference } }

theorem witness_ReportIsTakenUnlessDuplicate :
    (∀ x ∈ [staged 60230 500000 false, staged 60230 500001 false, staged 60230 530001 false, staged 60230 530000 true],
      x.bus.resetAsserted = false ∧ (x.passed .single 0x20D 0xA7).items.softReset = false ∧
        (x.passed .single 0x20D 0xA7).status.counts.length = 20 ∧
        (x.passed .single 0x20D 0xA7).filter.previous = some ⟨60000, 2500, 500000⟩) ∧
    ((staged 60230 500000 false).filter.staging.w3 = 500000 ∧ (staged 60230 500001 false).filter.staging.w3 ≠ 500000) ∧
    (30000 < ((staged 60230 530001 false).filter.staging.w3 - 500000).toNat ∧
      ((staged 60230 530000 true).filter.staging.w3 - 500000).toNat ≤ 30000 ∧
      (staged 60230 530000 true).filter.referencePending = true) ∧
    (idle.passed .single 0x20D 0xA7).filter.previous = none := by decide +kernel

theorem witness_JudgedReportIsTestedAgainstThePrediction :
    (∀ x ∈ [staged 60230 509500 false, staged 60900 501000 false, staged 60230 530000 false],
      let a := x.passed .single 0x20D 0xA7;
      x.bus.resetAsserted = false ∧ a.items.softReset = false ∧ a.status.counts.length = 20 ∧
        a.filter.previous = some ⟨60000, 2500, 500000⟩ ∧ (a.filter.staging.w3 - 500000).toNat ≠ 0 ∧
        (a.filter.staging.w3 - 500000).toNat ≤ a.items.maxGap ∧ a.filter.referencePending = false) ∧
    (60230 * 1000 - (60000 * 1000 + (2500 + 2300) * 9500 / 200) ≤ 25 * 1000 + (2500 + 2300) * 9500 / 200 / 16 ∧
      ¬ (60900 * 1000 - (60000 * 1000 + (2500 + 2300) * 1000 / 200) ≤ 25 * 1000 + (2500 + 2300) * 1000 / 200 / 16)) := by
  decide +kernel

theorem witness_ReportPassReachesItsEnd :
    let r : ActiveRoute := ⟨.a, copyB, List.range 64⟩;
    (train r .cruising 0 0 0).route.active = some r ∧ r.served.length ≤ 64 := by decide +kernel

theorem witness_RoundPassesArrivesOrDeparts :
    (∀ st ∈ [ApproachState.cruising, .approaching, .arriving], let s := train routeB st 4 215201 0;
      s.route.active = some routeB ∧ s.tracker.approach = some ⟨st, 4⟩ ∧ s.route.pendingSwitch = .none ∧
        routeB.mark 5 + s.items.berthDistance < s.filter.progress / 1000) ∧
    (let s := { train routeB .arriving 4 215200 0 with
        tracker := { (train routeB .arriving 4 215200 0).tracker with stillRun := 3 } };
      s.route.active = some routeB ∧ s.tracker.approach = some ⟨.arriving, 4⟩ ∧
        distanceTo (routeB.mark 5) (s.filter.progress / 1000) ≤ s.items.berthDistance ∧
        s.items.stillCount ≤ s.tracker.stillRun) ∧
    (let s := train routeB .standing 3 131000 101;
      s.route.active = some routeB ∧ s.tracker.approach = some ⟨.standing, 3⟩ ∧
        s.filter.door.taken = .closed ∧ s.items.departSpeed < s.filter.lastSpeed) ∧
    (let s := train routeB .standing 3 131301 0;
      routeB.mark 3 + s.items.berthDistance < s.filter.progress / 1000) := by decide +kernel

/-- A train of image B toward its stop at 171,500 m, its notice marks set or clear. -/
def toward (state : ApproachState) (metres : Nat) (marked : Bool) : State :=
  let s := train routeB state 3 metres 2000
  let marks : BitVec 64 := if marked then 1#64 <<< routeB.index 4 else 0
  { s with tracker := { s.tracker with nextStopMarks := marks, arrivingMarks := marks } }

theorem witness_RoundApproachesAndNearsTheNextStop :
    (∀ marked : Bool,
      (∀ metres ∈ [169499, 169500, 171800], let s := toward .cruising metres marked;
        s.route.active = some routeB ∧ s.tracker.approach = some ⟨.cruising, 3⟩ ∧
          ¬ routeB.mark 4 + s.items.berthDistance < s.filter.progress / 1000 ∧
          (routeB.mark 4 ≤ s.filter.progress / 1000 + max s.items.approachDistance (s.items.berthDistance + 1) ↔
            metres ≠ 169499) ∧ (s.tracker.nextStopMarks.getLsbD (routeB.index 4) = marked)) ∧
      (∀ metres ∈ [171199, 171200, 171800], let s := toward .approaching metres marked;
        s.tracker.approach = some ⟨.approaching, 3⟩ ∧
          ¬ routeB.mark 4 + s.items.berthDistance < s.filter.progress / 1000 ∧
          (distanceTo (routeB.mark 4) (s.filter.progress / 1000) ≤ s.items.berthDistance ↔ metres ≠ 171199) ∧
          (s.tracker.arrivingMarks.getLsbD (routeB.index 4) = marked))) ∧
    (let s := toward .arriving 171200 false; s.tracker.stillRun = 0 ∧ s.items.stillCount = 3) ∧
    (let s := train routeB .standing 3 131300 100;
      ¬ s.items.departSpeed < s.filter.lastSpeed ∧ ¬ routeB.mark 3 + s.items.berthDistance < s.filter.progress / 1000) := by
  decide +kernel

theorem witness_ArithmeticTowardTheNextStop :
    (∀ d ∈ [0, 5], let s := { train routeB .cruising 3 169300 2040 with
        tracker := { (train routeB .cruising 3 169300 2040).tracker with delay := d } };
      s.route.active = some routeB ∧ s.tracker.approach = some ⟨.cruising, 3⟩ ∧ 0 < s.items.speedFloor ∧
        2 ≤ s.items.delayShow ∧ (routeB.stop 4).scheduled ≤ 2879) ∧
    (let s := train route61 .arriving 0 60800 500;
      s.route.active = some route61 ∧ s.tracker.approach = some ⟨.arriving, 0⟩ ∧
        2879 < (route61.stop 1).scheduled) := by decide +kernel

/-- A consist of a portion staged on a train of image B. -/
def consisting (s : State) (portion : Nat) : State :=
  { s with route := { s.route with staging := ⟨7, BitVec.ofNat 32 portion, 2⟩ } }

theorem witness_ConsistIsTakenAndReservesTheRoute :
    (∀ portion ∈ [1, 2], ∀ s ∈ [idle, train routeB .cruising 3 137000 2000, train routeB .standing 2 96700 0,
        train routeB .standing 3 131000 0, train routeB .terminated 5 214900 0],
      let x := consisting s portion;
      x.bus.resetAsserted = false ∧ (x.passed .single 0x213 0x3C).items.softReset = false ∧
        (x.route.staging.w1.toNat % 256 = 1 ∨ x.route.staging.w1.toNat % 256 = 2)) ∧
    (routeB.copy.checkServed (routeB.copy.servedList .two) = none ∧ routeB.copy.servedList .two ≠ routeB.served ∧
      routeB.index 2 ∈ routeB.copy.servedList .two ∧ routeB.index 3 ∉ routeB.copy.servedList .two) ∧
    (routeA.copy.checkServed (routeA.copy.servedList .two) = none) ∧
    (let c : RouteCopy := ⟨0x41465231, 1, 2, [stop 1 1 .none 0 0, stop 2 1 .none 9 0]⟩;
      c.checkServed (c.servedList .two) = some .tooFewServed ∧ route61.copy.servedList .two = route61.served) := by
  decide +kernel

theorem witness_CommitJoinsTheQueueOrIsLost :
    ∀ n ∈ [15, 16], let s := { idle with
        res := { Reservations.reset with fetchQueue := List.replicate n ⟨0, 34, 1⟩ } };
      let a := s.passed .single (0x4007 + 8 * 511) 0x00FE22C5;
      s.bus.resetAsserted = false ∧ a.items.softReset = false ∧ (0x00FE22C5 : Word).toNat % 256 = 0xC5 ∧
        a.status.counts.length = 20 ∧ a.res.fetchQueue.length = n := by decide +kernel

/-- A commit of slot 40 waits, with words of the slot in memory and a version held for seat 34. -/
def fetching (e : CommitEntry) (version : Option Byte) (mem : List Cell) : State :=
  { idle with
    mem := mem
    res := { Reservations.reset with
      fetchQueue := [e]
      seats := Reservations.reset.seats.set 33 { SeatEntry.empty with version := version } } }

/-- Slot 40 with two overlapping segments of one service (4.8, event 5). -/
def overlapping : List Cell :=
  [(0x4140, 0x00020122), (0x4141, 0x01411267), (0x4142, 0x02431267),
    (0x4145, 0x00020122 ^^^ 0x01411267 ^^^ 0x02431267)]

theorem witness_FetchedRecordIsRefusedForItsContent :
    (let s := fetching ⟨40, 35, 1⟩ none slot40;
      s.bus.resetAsserted = false ∧ s.nextAccess = some .fetch ∧ s.res.fetchQueue = [⟨40, 35, 1⟩] ∧
        s.status.counts.length = 20 ∧ (s.recordOf 40).seat ≠ 35) ∧
    (let s := fetching ⟨40, 34, 1⟩ none overlapping;
      s.nextAccess = some .fetch ∧ (s.recordOf 40).torn ⟨40, 34, 1⟩ = false ∧ (s.recordOf 40).malformed = true) ∧
    (∀ held ∈ [(1 : Byte), 129], let s := fetching ⟨40, 34, 1⟩ (some held) slot40;
      s.nextAccess = some .fetch ∧ (s.recordOf 40).torn ⟨40, 34, 1⟩ = false ∧ (s.recordOf 40).malformed = false ∧
        (s.seat 34).version = some held ∧ ¬ (1 ≤ ((1 : Byte) - held).toNat ∧ ((1 : Byte) - held).toNat ≤ 127)) := by
  decide +kernel

theorem witness_NewerRecordReplacesTheSeatEntry :
    ∀ held ∈ [none, some (0 : Byte), some 130], let s := fetching ⟨40, 34, 1⟩ held slot40;
      s.bus.resetAsserted = false ∧ s.nextAccess = some .fetch ∧ s.res.fetchQueue = [⟨40, 34, 1⟩] ∧
        s.res.seats.length = 128 ∧ (s.recordOf 40).torn ⟨40, 34, 1⟩ = false ∧ (s.recordOf 40).malformed = false ∧
        newer (s.recordOf 40).version (s.seat (s.recordOf 40).seat).version = true := by decide +kernel

theorem witness_ConsumerIndexIsTakenWithinWhatMemoryShows :
    ∀ v ∈ [0, 1, 2], let s := run [.noticeEntryWrite, .producerIndexWrite] ringing;
      let a := s.passed .single 0x901 (BitVec.ofNat 32 v);
      s.bus.resetAsserted = false ∧ a.items.softReset = false ∧ a.notices.visible = 1 ∧ a.notices.consumer = 0 := by
  decide +kernel

theorem witness_RaisedNoticeIsShedLostOrReserved :
    ∀ n ∈ [(55 : BitVec 7), 56, 63, 64], let s := { idle with notices := ⟨n, n, 0, []⟩ };
      s.status.counts.length = 20 ∧ (s.notices.producer - s.notices.consumer).toNat = n.toNat ∧
        s.items.noticeHigh = 56 := by decide +kernel

theorem witness_NoticeCyclesWriteTheRing :
    (ringing.bus.resetAsserted = false ∧ Memory.wf ringing.mem = true) ∧
    (ringing.nextAccess = some .noticeEntry ∧
      ringing.notices.accesses = [.entry ⟨0, .arrived 3106 (some 6) false, 0⟩]) ∧
    ((after .noticeEntryWrite ringing).port.inProgress = some .noticeProducer ∧
      Memory.wf (after .noticeEntryWrite ringing).mem = true) ∧
    (let s := after (.producerIndexOverwrite .single 15 9) idle;
      s.nextAccess = some .producerOnly ∧ s.notices.accesses = [.producerOnly] ∧ Memory.wf s.mem = true) ∧
    State.reset.nextAccess = some .producerReset := by decide +kernel

theorem witness_WriteBackCarriesTheCurrentValue :
    ∀ w ∈ [ViewWord.status 0, .status 255, .unit .a 0, .unit .p 63, .seat 0, .seat 255],
      let s := markDirty w idle;
      s.bus.resetAsserted = false ∧ Memory.wf s.mem = true ∧ s.port.inProgress = none ∧
        s.nextAccess = some (.status w) := by decide +kernel

theorem witness_FreshnessAndCoastStepsActOnTheMotion :
    (∀ mode ∈ [Mode.tracking, .following, .coasting .jump, .holding .unlock],
      let s := { train route61 .cruising 0 60000 2500 with
        filter := { (train route61 .cruising 0 60000 2500).filter with mode := mode } };
      s.bus.resetAsserted = false ∧ s.items.softReset = false ∧ s.filter.freshness = some 503000 ∧
        s.filter.sourcePresent = true) ∧
    (coasting.bus.resetAsserted = false ∧ coasting.items.softReset = false ∧
      coasting.filter.mode = .coasting .stale ∧ coasting.filter.coastStep = some 504000 ∧ aboveCap coasting = false) ∧
    aboveCap { coasting with filter := { coasting.filter with progress := 60700001 } } = true := by decide +kernel

theorem witness_ReleaseExpiryReleasesTheSegment :
    let s := seat34 false;
    s.bus.resetAsserted = false ∧ s.items.softReset = false ∧ s.res.seats.length = 128 ∧
      s.res.releaseList = [⟨34, 8100000, 4711, 3⟩] ∧ position s = some (routeA, 2) ∧
      nowSegment routeA.served 2 (s.seat 34).segments = some ⟨4711, 3, 9, .standard, .live, false, false⟩ := by
  decide +kernel

theorem witness_DeadlinesAndDelaysAct :
    (∀ depth ∈ [0, 23, 24], ∀ st ∈ [LinkState.running, .resting, .rousing],
      let s := linked st [{ led 1 false with backoff := some 10000, hold := some 10000, owedSeat := true }] none;
      let x := { s with linkA := { s.linkA with queue := List.replicate depth ⟨2, .probe⟩ } };
      x.bus.resetAsserted = false ∧ x.items.softReset = false ∧ (x.link .a).state = st ∧
        (((x.link .a).unit 1).bind UnitEntry.backoff) = some 10000 ∧
        (((x.link .a).unit 1).bind UnitEntry.hold) = some 10000 ∧
        ((x.link .a).unit 1).map (fun u => (u.state, u.owed .seat)) = some (.active, true) ∧
        ((x.link .a).queue.length < x.items.queueNearFull ↔ depth ≠ 24)) ∧
    (let s := { unserved with linkA := { unserved.linkA with quietDelay := some 600000 } };
      s.bus.resetAsserted = false ∧ s.items.softReset = false ∧ (s.link .a).quietDelay = some 600000) := by
  decide +kernel

theorem witness_WakeExpiryResolvesTheUnprobed :
    ∀ x ∈ [rousing, { rousing with linkA := { rousing.linkA with transaction := none } }],
      x.bus.resetAsserted = false ∧ x.items.softReset = false ∧ (x.link .a).state = .rousing ∧
        (x.link .a).wakeExpiry = some 250 ∧ x.status.counts.length = 20 ∧ x.count (LinkId.a).wakeCounter ≤ 65535 := by
  decide +kernel

/-- A link with no transaction, changed. -/
def free (state : LinkState) (f : Link → Link) : State :=
  let s := linked state [{ led 1 true with probeDue := some 0 }] none;
  { s with linkA := f s.linkA }

theorem witness_NextFrameFollowsTheOrder :
    (let s := free .running fun k => { k with unassignedDue := [1], units := [{ led 1 true with state := .foreign }] };
      s.bus.resetAsserted = false ∧ s.items.softReset = false ∧ (s.link .a).transaction = none ∧
        (s.link .a).state = .running ∧ ((s.link .a).unit 1).isSome = true) ∧
    ((free .resting fun k => { k with rouseDue := true }).linkA.unassignedDue = []) ∧
    ((free .running fun k => { k with restDue := true }).linkA.rouseDue = false) ∧
    (let k := (free .rousing fun k => { k with wakePosition := some 1 }).linkA;
      k.transaction = none ∧ k.unassignedDue = [] ∧ k.restDue = false ∧ k.wakePosition = some 1) ∧
    (let k := (free .running fun k => { k with units := [{ led 1 true with state := .backoff, probeDue := some 0 }] }).linkA;
      k.dueProbe 0 = some 1) ∧
    (let k := (free .running fun k => { k with units := [led 1 true], queue := [⟨1, .probe⟩] }).linkA;
      k.dueProbe 0 = none ∧ k.queue = [⟨1, .probe⟩] ∧ k.sendable ⟨1, .probe⟩ = true ∧
        ¬ (8 < k.queue.length ∧ ([] : List Item).length ≤ 8)) := by decide +kernel

/-- Link A enumerating at a step. -/
def stepping (units : List UnitEntry) (p : Purpose) : State := linked .enumerating units (some p)

theorem witness_EnumerationStepsInOrder :
    (let s := stepping [] .openChain;
      s.bus.resetAsserted = false ∧ s.items.softReset = false ∧
        (s.link .a).transaction = some ⟨.openChain, 1, [], 600, 0⟩ ∧ (s.link .a).reenumerate = false ∧
        s.res.seats.length = 128) ∧
    (let s := stepping ((List.range' 1 60).map fun a => led a false) (.basePage 1);
      (s.link .a).transaction = some ⟨.basePage 1, 1, [], 600, 0⟩ ∧ (s.link .a).reenumerate = false ∧
        LinkId.capacity .a ≤ (s.link .a).units.length) ∧
    (let s := stepping ((List.range' 1 59).map fun a => led a false) (.basePage 3);
      (s.link .a).units.length < LinkId.capacity .a ∧ (basePageOf 0x2000 0x0B0C).extended = 0 ∧
        0 < (basePageOf 0x8001 0).extended) ∧
    (let s := stepping [] (.extendedPage 1 3 (basePageOf 0x8001 0));
      (s.link .a).reenumerate = false ∧ ¬ 1 < (takePage (basePageOf 0x8001 0) 1 0x0818).extended) ∧
    (let s := stepping [] (.setAddress 3 (basePageOf 0x2000 0x0B0C));
      (s.link .a).reenumerate = false ∧ entersForeign .a (basePageOf 0x2000 0x0B0C) = false ∧
        boundLabel s .a (basePageOf 0x2000 0x0B0C) = none) ∧
    (let s := stepping [] (.checkProbe 1 (basePageOf 0x2000 0x0B0C));
      let t := { s with res := { Reservations.reset with
        seats := Reservations.reset.seats.set 11 { SeatEntry.empty with bound := some ⟨.b, 7, 1⟩ } } };
      (t.link .a).reenumerate = false ∧ t.res.seats.length = 128 ∧
        boundLabel t .a (basePageOf 0x2000 0x0B0C) = some 12 ∧ entersForeign .a (basePageOf 0x8001 0) = true) := by
  decide +kernel

theorem witness_EnumerationMissesAreRetried :
    ∀ n ∈ [1, 2, 3], ∀ p ∈ [Purpose.basePage n, .extendedPage 1 n (basePageOf 0x8001 0), .setAddress n (basePageOf 0 0),
        .checkProbe n (basePageOf 0 0)],
      let s := stepping [led 1 false] p;
      s.bus.resetAsserted = false ∧ s.items.softReset = false ∧ (s.link .a).transaction = some ⟨p, 1, [], 600, 0⟩ ∧
        (s.link .a).reenumerate = false ∧ (s.link .a).state = .enumerating ∧ s.status.counts.length = 20 ∧
        p.enumerates = true ∧ p ≠ .openChain ∧ wellFormedReply ⟨p, 1, [], 600, 0⟩ ⟨0, [], true⟩ = false ∧
        replyCode ⟨0, [], true⟩ ≠ 2 := by decide +kernel

theorem witness_BroadcastsActAtTheirLastWord :
    ∀ p ∈ [Purpose.item ⟨127, .level 150⟩, .rest, .rouse],
      ∀ u ∈ [led 1 true, { led 1 true with state := .resting, rested := true }],
      let s := linked .running [u] (some p);
      s.bus.resetAsserted = false ∧ s.items.softReset = false ∧ (s.link .a).transaction = some ⟨p, 1, [], 600, 0⟩ ∧
        (s.link .a).reenumerate = false := by decide +kernel

theorem witness_RepliesToItemsAct :
    ∀ p ∈ [Purpose.item ⟨1, .content freeSeat⟩, .item ⟨1, .probe⟩],
      ∀ q ∈ [[], [⟨1, .content freeSeat⟩], List.replicate 32 ⟨2, .probe⟩],
      let s := { inFlight p with linkA := { (inFlight p).linkA with queue := q } };
      s.bus.resetAsserted = false ∧ s.items.softReset = false ∧ (s.link .a).transaction = some ⟨p, 1, [], 600, 0⟩ ∧
        (s.link .a).reenumerate = false ∧ (s.link .a).queue = q := by decide +kernel

theorem witness_RepliesAheadOfTheQueueAct :
    ∀ p ∈ [Purpose.backoffProbe 1, .wakeProbe 1, .unassigned 1], ∀ st ∈ [LinkState.running, .resting, .rousing],
      ∀ mode ∈ [FaultMode.latch, .retry, .report],
      let s := { linked st [led 1 true] (some p) with
        items := { Items.default with faultModeA := mode }
        linkA := { (linked st [led 1 true] (some p)).linkA with wakeExpiry := some 250 } };
      s.bus.resetAsserted = false ∧ s.items.softReset = false ∧ (s.link .a).transaction = some ⟨p, 1, [], 600, 0⟩ ∧
        (s.link .a).reenumerate = false ∧ s.status.counts.length = 20 ∧ ((s.link .a).unit 1).isSome = true ∧
        (s.link .a).wakeExpiry = some 250 ∧ s.items.faultMode .a = mode ∧
        (0 < ((250 : Time) - 249).toNat ∧ ((250 : Time) - 249).toNat < 2 ^ 31) ∧
        ((250 : Time) - 250).toNat = 0 := by decide +kernel

theorem witness_MissLeadsToFaultHandling :
    ∀ mode ∈ [FaultMode.latch, .retry, .report], ∀ misses ∈ [1, 2, 15],
      let s := { linked .running [{ led 1 true with missCount := misses }] (some (.item ⟨1, .probe⟩)) with
        items := { Items.default with faultModeA := mode } };
      s.bus.resetAsserted = false ∧ s.items.softReset = false ∧
        (s.link .a).transaction = some ⟨.item ⟨1, .probe⟩, 1, [], 600, 0⟩ ∧ (s.link .a).reenumerate = false ∧
        s.status.counts.length = 20 ∧ ((s.link .a).unit 1).map UnitEntry.missCount = some misses ∧
        s.items.faultMode .a = mode ∧ s.items.missDeglitch = 3 ∧
        wellFormedReply ⟨.item ⟨1, .probe⟩, 1, [], 600, 0⟩ ⟨0, [], true⟩ = false := by decide +kernel

theorem witness_MissesAheadOfTheQueueAct :
    ∀ p ∈ [Purpose.backoffProbe 1, .wakeProbe 1], ∀ mode ∈ [FaultMode.latch, .retry, .report],
      ∀ retries ∈ [0, 3, 4, 255],
      let s := { linked .rousing [{ led 1 true with retryCount := retries, rested := true }] (some p) with
        items := { Items.default with faultModeA := mode } };
      s.bus.resetAsserted = false ∧ s.items.softReset = false ∧ (s.link .a).transaction = some ⟨p, 1, [], 600, 0⟩ ∧
        (s.link .a).reenumerate = false ∧ s.status.counts.length = 20 ∧
        ((s.link .a).unit 1).map UnitEntry.retryCount = some retries ∧ (s.link .a).state = .rousing ∧
        s.items.faultMode .a = mode ∧ s.items.retryLimit = 4 ∧
        wellFormedReply ⟨p, 1, [], 600, 0⟩ ⟨0, [], true⟩ = false ∧
        (∀ v ∈ (s.link .a).units, v.rested = true → v.address = 1) := by decide +kernel

theorem witness_WaitingReenumerationStartsAtTheEnding :
    ∀ p ∈ [Purpose.item ⟨1, .content freeSeat⟩, .item ⟨1, .probe⟩, .item ⟨127, .level 150⟩, .backoffProbe 1, .wakeProbe 1,
        .basePage 3, .extendedPage 1 3 (basePageOf 0x8001 0), .setAddress 1 (basePageOf 0 0),
        .checkProbe 3 (basePageOf 0 0), .unassigned 1, .openChain, .rest, .rouse],
      let s := { inFlight p with linkA := { (inFlight p).linkA with state := .enumerating, reenumerate := true } };
      s.bus.resetAsserted = false ∧ s.items.softReset = false ∧ (s.link .a).transaction = some ⟨p, 1, [], 600, 0⟩ ∧
        (s.link .a).reenumerate = true ∧ s.status.counts.length = 20 ∧
        wellFormedReply ⟨p, 1, [], 600, 0⟩ ⟨0, [], true⟩ = false ∧ Purpose.awaits (.item ⟨1, .probe⟩) = true := by
  decide +kernel

theorem witness_OverwrittenWordsAreToBeRestored :
    idle.bus.resetAsserted = false ∧ Memory.wf (grantAccess .single idle).mem = true ∧
      producerWaits (grantAccess .single idle) = false ∧
      producerWaits (grantAccess .single (after (.producerIndexOverwrite .single 15 9) idle)) = false ∧
      producerWaits (grantAccess .last (after (.producerIndexOverwrite .first 15 9) idle)) = true := by
  decide +kernel

theorem witness_ClearingReadTakesWhatItReturns :
    idle.bus.resetAsserted = false ∧ (grantAccess .single idle).status.counts.length = 20 ∧
      (∀ w ∈ [10, 12, 16, 35], (grantAccess .single idle).status.clearPending.getLsbD w = false ∧
        State.reset.status.clearPending.getLsbD w = true) ∧
      (grantAccess .single idle).items.softReset = false ∧ held.items.softReset = true := by decide +kernel

theorem witness_GuardedWindowHoldsWritesBack :
    let s := train routeB .standing 2 96700 0;
    s.bus.resetAsserted = false ∧ guarded s .b = true ∧ guarded s .a = false ∧
      Memory.wf (grantAccess .single s).mem = true ∧
      ((skipWord .first s).port.burst = .heldBack ∧ (grantAccess .first s).port.burst = .forwarded) ∧
      ∀ n ∈ [0, 15, 16], (guarding n).bus.resetAsserted = false ∧ guarded (guarding n) .b = true ∧
        (guarding n).port.burst = .closed ∧ (guarding n).port.starvation = n ∧
        (beginOwn (guarding n)).port.inProgress = some .noticeEntry ∧
        (skipWord .first (guarding n)).bus.resetAsserted = false ∧
        guarded (skipWord .first (guarding n)) .b = true := by decide +kernel

theorem witness_PartialAndOrdinaryAccessesPass :
    (∀ s ∈ [idle, held], s.bus.resetAsserted = false ∧ (14 : Lanes) ≠ 15 ∧
      Memory.wf (grantAccess .single s).mem = true ∧ (grantAccess .single s).status.counts.length = 20) ∧
    (let s := { idle with bus := { idle.bus with straps := 1 } };
      s.bus.resetAsserted = false ∧ 1048575 < s.tapBase ∧ s.tapBase + 65536 ≤ 1114112 ∧
        (∀ offset ∈ [0x20, 0x207, 0x20E, 0x902, 0x4006, 0xFFFF], classifyOffset offset = .plain offset) ∧
        Memory.wf (grantAccess .single s).mem = true) := by decide +kernel

end Sys2Proof.Tests
end

section
/-! PROOFS. The words of the coach computer captured, and the marks that every operation leaves standing. -/

namespace Sys2Proof.Machine

/-! ## Words captured -/

/-- A write on all four byte lanes is the word written. -/
theorem mergeLanes_fullWord (old new : Word) : mergeLanes old new fullWord = new := by
  have h : laneMask fullWord = BitVec.allOnes 32 := by decide
  rw [mergeLanes, h, BitVec.and_allOnes, BitVec.not_allOnes, BitVec.and_zero, BitVec.zero_or]

/-- A full-word write of a captured word passes to memory and is captured (R150, R153). -/
theorem performBus_captured (b : Beat) (w : CapturedWord) (v : Word) (s : State) :
    performBus b (.write (.captured w) fullWord v) s = capture w v (s.passed b (capturedOffset w) v) := by
  simp [performBus, heldBack, writeTapWord, writeCaptured, mergeLanes_fullWord, State.passed]

/-- A command that is a full-word write of a captured word hands its value to the block once it has passed, while
neither reset holds (R153). -/
theorem onBus_captured {i : Instr} {b : Beat} {w : CapturedWord} {v : Word} {s : State}
    (h : busOpOf s i = some (b, .write (.captured w) fullWord v)) (r : s.bus.resetAsserted = false)
    (k : (s.passed b (capturedOffset w) v).items.softReset = false) :
    onBus i s = handCaptured w v (s.passed b (capturedOffset w) v) := by
  rw [onBus_run i r, performAccess, h]
  simp [performBus_captured, capture, capturing, k]

/-- A request word written is the request issued once the word has passed (R167). -/
theorem exec_request (w : Fin 7) (b : Beat) (v : Word) {s : State} (r : s.bus.resetAsserted = false)
    (k : (s.passed b (0x200 + w.val) v).items.softReset = false) :
    exec (requestCommand w b v) s = .next (issueRequest (requestOf w) v (s.passed b (0x200 + w.val) v)) := by
  have h : busOpOf s (requestCommand w b v) = some (b, .write (.captured (.request w)) fullWord v) := by
    fin_cases w <;> rfl
  have e : exec (requestCommand w b v) s = .next (onBus (requestCommand w b v) s) := by fin_cases w <;> rfl
  rw [e, onBus_captured h r k]
  rfl

/-- Consist word 3 written is the staged record committed once the word has passed (R4). -/
theorem exec_consistCommit (b : Beat) (v : Word) {s : State} (r : s.bus.resetAsserted = false)
    (k : (s.passed b 0x213 v).items.softReset = false) :
    exec (.consistCommit b v) s = .next (commitConsist v (s.passed b 0x213 v)) :=
  congrArg Host.Outcome.next (onBus_captured (w := .consist 3) rfl r k)

/-- A field of a word as a quotient and a remainder. -/
theorem field_eq (v : Word) (lo width : Nat) : field v lo width = v.toNat / 2 ^ lo % 2 ^ width := by
  rw [field, Nat.shiftRight_eq_div_pow]

/-! ## Marks that stay -/

theorem dirtyRises_of_dirty_eq {s t : State} (h : t.status.dirty = s.status.dirty) : DirtyRises s t := by
  intro w hw
  simpa [State.isDirty, h] using hw

theorem dirtyRises_foldl {α : Type} {f : State → α → State} (h : ∀ s x, DirtyRises s (f s x)) (xs : List α)
    (s : State) : DirtyRises s (xs.foldl f s) := by
  induction xs generalizing s with
  | nil => exact dirtyRises_refl s
  | cons x xs ih => exact dirtyRises_trans (h s x) (ih (f s x))

theorem dirtyRises_markStatus (w : Fin 256) (s : State) : DirtyRises s (markStatus w s) :=
  dirtyRises_markMany (dirtyBit (.status w)) s

theorem dirtyRises_markStatusIf (b : Bool) (w : Fin 256) (s : State) : DirtyRises s (markStatusIf b w s) := by
  unfold markStatusIf
  split
  · exact dirtyRises_markStatus w s
  · exact dirtyRises_refl s

theorem dirtyRises_bump (c : Counter) (s : State) : DirtyRises s (bump c s) := by
  unfold bump
  split
  · exact dirtyRises_trans (dirtyRises_of_dirty_eq (by simp)) (dirtyRises_markStatus c.word _)
  · exact dirtyRises_refl s

theorem dirtyRises_raise (n : Notice) (s : State) : DirtyRises s (raise n s) := by
  unfold raise
  split
  · exact dirtyRises_bump .noticeShed s
  · split
    · exact dirtyRises_bump .noticeLost s
    · exact dirtyRises_refl s

theorem dirtyRises_raiseSome (n : Option Notice) (s : State) : DirtyRises s (raiseSome n s) := by
  cases n with
  | none => exact dirtyRises_refl s
  | some n => exact dirtyRises_raise n s

theorem dirtyRises_onLink (l : LinkId) (f : Link → Link) (s : State) : DirtyRises s (onLink l f s) :=
  dirtyRises_trans (dirtyRises_of_dirty_eq (by simp)) (dirtyRises_markStatusIf _ _ _)

theorem dirtyRises_answer (tag : Byte) (kind : RequestKind) (code : ResultCode) (reason : Option InvalidReason)
    (s : State) : DirtyRises s (answer tag kind code reason s) :=
  dirtyRises_markMany (dirtyBit (.status 0)) _

theorem dirtyRises_setRoute (r : Route) (s : State) : DirtyRises s (setRoute r s) := by
  unfold setRoute
  refine dirtyRises_trans ?_ (dirtyRises_markStatusIf _ 1 _)
  refine dirtyRises_trans ?_ (dirtyRises_markStatusIf _ 6 _)
  refine dirtyRises_trans ?_ (dirtyRises_markStatusIf _ 7 _)
  refine dirtyRises_trans ?_ (dirtyRises_markStatusIf _ 8 _)
  exact dirtyRises_of_dirty_eq rfl

theorem dirtyRises_setFilter (f : Filter) (s : State) : DirtyRises s (setFilter f s) := by
  unfold setFilter
  refine dirtyRises_trans ?_ (dirtyRises_markStatusIf _ 2 _)
  refine dirtyRises_trans ?_ (dirtyRises_markStatusIf _ 3 _)
  refine dirtyRises_trans ?_ (dirtyRises_markStatusIf _ 4 _)
  exact dirtyRises_of_dirty_eq rfl

theorem dirtyRises_setTracker (k : Tracker) (s : State) : DirtyRises s (setTracker k s) := by
  unfold setTracker
  refine dirtyRises_trans ?_ (dirtyRises_markStatusIf _ 2 _)
  refine dirtyRises_trans ?_ (dirtyRises_markStatusIf _ 5 _)
  exact dirtyRises_of_dirty_eq rfl

theorem dirtyRises_sweepAfterRemoval (l : LinkId) (n : Nat) (s : State) : DirtyRises s (sweepAfterRemoval l n s) := by
  unfold sweepAfterRemoval
  split
  · exact dirtyRises_onLink l _ s
  · exact dirtyRises_refl s

theorem dirtyRises_withdrawItem (l : LinkId) (x : Item) (s : State) : DirtyRises s (withdrawItem l x s) :=
  dirtyRises_trans (dirtyRises_onLink l _ s) (dirtyRises_sweepAfterRemoval l _ _)

theorem dirtyRises_judgeTarget (l : LinkId) (s : State) (x : Nat × ContentKind) : DirtyRises s (judgeTarget l s x) := by
  unfold judgeTarget
  split
  · exact dirtyRises_refl s
  · dsimp only
    split
    · split
      · exact dirtyRises_withdrawItem l _ s
      · exact dirtyRises_onLink l _ s
    · exact dirtyRises_refl s

theorem dirtyRises_composePanels (s : State) : DirtyRises s (composePanels s) :=
  dirtyRises_foldl (dirtyRises_judgeTarget .p) _ s

theorem dirtyRises_composePanelsIf (b : Bool) (s : State) : DirtyRises s (composePanelsIf b s) := by
  unfold composePanelsIf
  split
  · exact dirtyRises_composePanels s
  · exact dirtyRises_refl s

theorem dirtyRises_composeSeat (s : State) (n : Nat) : DirtyRises s (composeSeat s n) := by
  unfold composeSeat
  split
  · exact dirtyRises_refl s
  · exact dirtyRises_judgeTarget _ s _

theorem dirtyRises_composeSeats (ns : List Nat) (s : State) : DirtyRises s (composeSeats ns s) :=
  dirtyRises_foldl dirtyRises_composeSeat ns s

theorem dirtyRises_setSeats (es : List SeatEntry) (s : State) : DirtyRises s (setSeats es s) := by
  unfold setSeats markSummary
  refine dirtyRises_trans ?_ (dirtyRises_markStatusIf _ 9 _)
  refine dirtyRises_trans ?_ (dirtyRises_markMany _ _)
  exact dirtyRises_of_dirty_eq rfl

theorem dirtyRises_pruneReleases (s : State) : DirtyRises s (pruneReleases s) :=
  dirtyRises_trans (dirtyRises_of_dirty_eq rfl) (dirtyRises_markMany _ _)

theorem dirtyRises_rejudge (s : State) : DirtyRises s (rejudge s) :=
  dirtyRises_trans (dirtyRises_trans (dirtyRises_pruneReleases s) (dirtyRises_setSeats _ _))
    (dirtyRises_composeSeats _ _)

theorem dirtyRises_raiseMisrouted (p : Segment → Bool) (r : ActiveRoute) (es : List SeatEntry) (s : State) :
    DirtyRises s (raiseMisrouted p r es s) :=
  dirtyRises_foldl (fun s _ => dirtyRises_foldl (fun s _ => dirtyRises_raise _ s) _ s) _ s

theorem dirtyRises_retag (p : Segment → Bool) (r : ActiveRoute) (removed : Option Nat) (s : State) :
    DirtyRises s (retag p r removed s) :=
  dirtyRises_trans (dirtyRises_trans (dirtyRises_trans (dirtyRises_trans (dirtyRises_setSeats _ s)
    (dirtyRises_raiseMisrouted _ _ _ _)) (dirtyRises_pruneReleases _)) (dirtyRises_setSeats _ _))
    (dirtyRises_composeSeats _ _)

theorem dirtyRises_setMode (m : Mode) (s : State) : DirtyRises s (setMode m s) := by
  unfold setMode
  split
  · exact dirtyRises_refl s
  · exact dirtyRises_trans (dirtyRises_trans (dirtyRises_setFilter _ s) (dirtyRises_raiseSome _ _))
      (dirtyRises_composePanelsIf _ _)

theorem dirtyRises_readCap (s : State) : DirtyRises s (readCap s) := by
  unfold readCap
  split
  · split
    · exact dirtyRises_setMode _ s
    · exact dirtyRises_refl s
  · exact dirtyRises_refl s

/-- What a switch does once the route engine has changed only adds marks. -/
theorem dirtyRises_setRoute_switchRoute (image : ImageId) (start : Start) (copy : RouteCopy) (s : State) :
    DirtyRises (setRoute { s.route with
      active := some ⟨image, copy, copy.servedList s.route.consist.portion⟩, pendingSwitch := .none,
      mismatch := false } s) (switchRoute image start copy s) := by
  unfold switchRoute
  refine dirtyRises_trans ?_ (dirtyRises_raise _ _)
  refine dirtyRises_trans ?_ (dirtyRises_composePanels _)
  refine dirtyRises_trans ?_ (dirtyRises_rejudge _)
  refine dirtyRises_trans ?_ (dirtyRises_retag _ _ _ _)
  refine dirtyRises_trans ?_ (dirtyRises_readCap _)
  refine dirtyRises_trans ?_ (dirtyRises_setFilter _ _)
  exact dirtyRises_setTracker _ _

theorem dirtyRises_switchRoute (image : ImageId) (start : Start) (copy : RouteCopy) (s : State) :
    DirtyRises s (switchRoute image start copy s) :=
  dirtyRises_trans (dirtyRises_setRoute _ s) (dirtyRises_setRoute_switchRoute image start copy s)

theorem dirtyRises_abandonSwitch (tag : Byte) (reason : InvalidReason) (s : State) :
    DirtyRises s (abandonSwitch tag reason s) :=
  dirtyRises_trans (dirtyRises_setRoute _ s) (dirtyRises_answer _ _ _ _ _)

theorem dirtyRises_enterStop (s : State) : DirtyRises s (enterStop s) := by
  unfold enterStop
  split
  · split
    · exact dirtyRises_switchRoute _ _ _ s
    · exact dirtyRises_abandonSwitch _ _ s
  · exact dirtyRises_refl s

theorem dirtyRises_handService (s : State) (l : LinkId) : DirtyRises s (handService s l) := by
  unfold handService
  split
  · exact dirtyRises_onLink l _ s
  · exact dirtyRises_of_dirty_eq (by simp)

end Sys2Proof.Machine
end

section
/-! PROOFS. The reset state and its invariants (O2). -/

namespace Sys2Proof.Machine

/-! ## The reset state -/

theorem isDirty_reset (w : ViewWord) : State.reset.isDirty w = true := by
  show (BitVec.allOnes 704).getLsbD w.index = true
  rw [BitVec.getLsbD_allOnes, decide_eq_true (index_lt w)]

theorem link_reset (l : LinkId) : State.reset.link l = .reset := by cases l <;> rfl

theorem seat_of_reset {e : SeatEntry} (h : e ∈ State.reset.res.seats) : e = .empty := (List.mem_replicate.mp h).2

/-- The word numbers whose clear-pending mark the reset sets are those of the clear-on-read words (R143, R144). -/
theorem allClearPending_iff : ∀ w : Fin 256, allClearPending.getLsbD w.val = clearOnRead w.val := by decide +kernel

theorem ringSound_reset : RingSound State.reset where
  numbered := by intro i e h; simp [NoticeWriter.awaiting, State.reset, NoticeWriter.reset] at h
  producer := rfl
  bounded := by decide
  entry := by intro h; simp [State.reset, Port.reset] at h
  only := by intro h; simp [State.reset, Port.reset] at h

theorem reservationsBounded_reset : ReservationsBounded State.reset where
  seats := List.length_replicate
  segments := by intro e he; rw [seat_of_reset he]; decide
  fetches := by decide
  releases := List.Pairwise.nil
  named := by intro x hx; cases hx

theorem linkSound_reset (l : LinkId) : LinkSound l .reset where
  addresses := rfl
  next := rfl
  capacity := Nat.zero_le _
  room := by intro h; cases h
  depth := Nat.zero_le _
  single := List.Pairwise.nil

theorem targetsOnTheirWay_of_reset {s : State} {l : LinkId} (h : s.link l = .reset) : TargetsOnTheirWay s l := by
  constructor <;> simp [h, Link.reset, LinkState.up]

theorem filterInRange_reset : FilterInRange State.reset := by
  constructor <;> simp [State.reset, Filter.reset, Tracker.reset]

theorem countsInRange_reset : CountsInRange State.reset := by
  constructor <;> simp [State.reset, StatusWriter.reset, Port.reset]

/-- Settles O2, conjunct by conjunct: the fields by evaluation, the invariants by the lemmas above. -/
theorem resetHoldsTheStatedValues : Obligations.ResetHoldsTheStatedValues := by
  unfold Obligations.ResetHoldsTheStatedValues
  have hcounts : ∀ c, State.reset.count c = 0 := by intro c; cases c <;> rfl
  have hguard : ∀ i, guarded State.reset i = false := by intro i; cases i <;> rfl
  have hsound : ∀ l, LinkSound l (State.reset.link l) := fun l => link_reset l ▸ linkSound_reset l
  have hway : ContentOnItsWay State.reset := fun _ l => targetsOnTheirWay_of_reset (link_reset l)
  have hmarks : MarksFit State.reset := by
    constructor <;> simp [State.reset, Route.reset]
  have hholds : HoldsReset State.reset := by intro h; cases h
  refine ⟨rfl, rfl, rfl, rfl, rfl, rfl, ⟨.a, rfl⟩, rfl, rfl, rfl, rfl, rfl, rfl, rfl, rfl, rfl, rfl, rfl, rfl, rfl, rfl,
    rfl, rfl, rfl, rfl, rfl, rfl, fun l => by cases l <;> and_intros <;> rfl, rfl, rfl, rfl, rfl, rfl,
    isDirty_reset, hcounts, allClearPending_iff, hguard,
    rfl, rfl, rfl, ringSound_reset, reservationsBounded_reset, hsound, hway, hmarks, filterInRange_reset,
    countsInRange_reset, hholds⟩

end Sys2Proof.Machine
end

section
/-! PROOFS. The requests on the route engine, judged in the order of their rules (O18, O19). -/

namespace Sys2Proof.Machine

/-! ## Answers and marks of the route engine -/

@[simp] theorem answer_request (tag : Byte) (kind : RequestKind) (code : ResultCode) (reason : Option InvalidReason)
    (s : State) :
    (answer tag kind code reason s).request = ⟨s.request.busy, ⟨tag, some kind, code, reason⟩⟩ := by
  simp [answer]

theorem isDirty_answer (tag : Byte) (kind : RequestKind) (code : ResultCode) (reason : Option InvalidReason)
    (s : State) : (answer tag kind code reason s).isDirty (.status 0) = true := isDirty_markDirty _ _

theorem isDirty_markStatusIf {b : Bool} (h : b = true) (w : Fin 256) (s : State) :
    (markStatusIf b w s).isDirty (.status w) = true := by
  rw [markStatusIf, if_pos h]
  exact isDirty_markDirty _ _

/-- A change of the pending switch marks ROUTE_STATE (R8). -/
theorem isDirty_setRoute_pendingSwitch {r : Route} {s : State} (h : s.route.pendingSwitch ≠ r.pendingSwitch) :
    (setRoute r s).isDirty (.status 1) = true :=
  isDirty_markStatusIf (by simp [h]) 1 _

theorem changesOnly_setRoute (r : Route) (s : State) : ChangesOnly [.route, .dirty] s (setRoute r s) := by
  intro p hp; cases p <;> simp_all [Part.same]

theorem changesOnly_request (q : RequestUnit) (s : State) : ChangesOnly [.request] s { s with request := q } := by
  intro p hp
  cases p with
  | request => simp at hp
  | link l => cases l <;> rfl
  | _ => rfl

/-- The route engine replaced and the request unit made BUSY: what an accepted request does (R10, R17). -/
theorem changesOnly_accepted (r : Route) (q : RequestUnit) (s : State) :
    ChangesOnly [.route, .request, .dirty] s { setRoute r s with request := q } :=
  changesOnly_trans (changesOnly_mono (by simp) (changesOnly_setRoute r s))
    (changesOnly_mono (by simp) (changesOnly_request q _))

/-- The route engine replaced and a request answered. -/
theorem changesOnly_answer_setRoute (tag : Byte) (kind : RequestKind) (code : ResultCode)
    (reason : Option InvalidReason) (r : Route) (s : State) :
    ChangesOnly [.route, .request, .dirty] s (answer tag kind code reason (setRoute r s)) :=
  changesOnly_trans (changesOnly_mono (by simp) (changesOnly_setRoute r s))
    (changesOnly_mono (by simp) (changesOnly_answer tag kind code reason _))

theorem dirtyRises_request (q : RequestUnit) (s : State) : DirtyRises s { s with request := q } :=
  dirtyRises_of_dirty_eq rfl

/-! ## Requests judged -/

theorem issueRequest_busy (kind : RequestKind) (v : Word) {s : State} (h : s.request.busy.isSome = true) :
    issueRequest kind v s = answer (tagOf v) kind .busy none s := by
  simp [issueRequest, h]

theorem issueRequest_activate (v : Word) {s : State} (h : s.request.busy = none) :
    issueRequest .activateRoute v s = judgeActivate v s := by
  simp [issueRequest, h]

theorem issueRequest_preview (v : Word) {s : State} (h : s.request.busy = none) :
    issueRequest .previewRoute v s = judgePreview v s := by
  simp [issueRequest, h]

theorem issueRequest_cancel (v : Word) {s : State} (h : s.request.busy = none) :
    issueRequest .cancelRoute v s = judgeCancel v s := by
  simp [issueRequest, h]

theorem imageOf_eq_none {n : Nat} : imageOf n = none ↔ 2 ≤ n := by
  unfold imageOf
  split <;> simp_all
  omega

theorem imageOf_eq_some {n : Nat} (h : n < 2) : ∃ i, imageOf n = some i :=
  Option.ne_none_iff_exists'.mp fun k => absurd (imageOf_eq_none.mp k) (by omega)

theorem judgeActivate_badArgument {v : Word} {s : State} (h : imageOf (field v 0 2) = none ∨
    startOf (field v 8 8) = none ∨ s.route.active.map ActiveRoute.image = imageOf (field v 0 2)) :
    judgeActivate v s = answer (tagOf v) .activateRoute .badArgument none s := by
  unfold judgeActivate
  split
  · rename_i image start himage hstart
    have hactive : s.route.active.map ActiveRoute.image = some image := by simpa [himage, hstart] using h
    rw [if_pos hactive]
  · rfl

theorem judgeActivate_waiting {v : Word} {s : State} {image : ImageId} {start : Start}
    (himage : imageOf (field v 0 2) = some image) (hstart : startOf (field v 8 8) = some start)
    (hactive : s.route.active.map ActiveRoute.image ≠ some image)
    (hw : ∃ i st g copy, s.route.pendingSwitch = .waiting i st g copy) :
    judgeActivate v s = answer (tagOf v) .activateRoute .busy none s := by
  obtain ⟨i, st, g, copy, hw⟩ := hw
  simp only [judgeActivate, himage, hstart, if_neg hactive, hw]

theorem judgeActivate_accepted {v : Word} {s : State} {image : ImageId} {start : Start}
    (himage : imageOf (field v 0 2) = some image) (hstart : startOf (field v 8 8) = some start)
    (hactive : s.route.active.map ActiveRoute.image ≠ some image) (hn : s.route.pendingSwitch = .none) :
    judgeActivate v s =
      { setRoute { s.route with pendingSwitch := .reading image start (tagOf v) } s with
        request := ⟨some (.activateRoute, tagOf v), s.request.result⟩ } := by
  simp only [judgeActivate, himage, hstart, if_neg hactive, hn]
  simp

theorem judgePreview_badArgument {v : Word} {s : State} (h : imageOf (field v 0 2) = none ∨
    s.route.active.map ActiveRoute.image = imageOf (field v 0 2)) :
    judgePreview v s = answer (tagOf v) .previewRoute .badArgument none s := by
  unfold judgePreview
  split
  · rename_i image himage
    have hactive : s.route.active.map ActiveRoute.image = some image := by simpa [himage] using h
    rw [if_pos hactive]
  · rfl

theorem judgePreview_accepted {v : Word} {s : State} {image : ImageId} (himage : imageOf (field v 0 2) = some image)
    (hactive : s.route.active.map ActiveRoute.image ≠ some image) :
    judgePreview v s =
      { setRoute { s.route with previewRead := some image } s with
        request := ⟨some (.previewRoute, tagOf v), s.request.result⟩ } := by
  simp only [judgePreview, himage, if_neg hactive]
  simp

theorem judgeCancel_waiting {v : Word} {s : State} (hw : ∃ i st g copy, s.route.pendingSwitch = .waiting i st g copy) :
    judgeCancel v s =
      answer (tagOf v) .cancelRoute .done none (setRoute { s.route with pendingSwitch := .none } s) := by
  obtain ⟨i, st, g, copy, hw⟩ := hw
  simp only [judgeCancel, hw]

theorem judgeCancel_notPending {v : Word} {s : State}
    (hw : ¬ ∃ i st g copy, s.route.pendingSwitch = .waiting i st g copy) :
    judgeCancel v s = answer (tagOf v) .cancelRoute .notPending none s := by
  unfold judgeCancel
  split
  · rename_i i st g copy hp
    exact absurd ⟨i, st, g, copy, hp⟩ hw
  · rfl

/-- The start argument of a word whose argument is in range (R10). -/
theorem startOf_inRange {n : Nat} (h : n < 256) (k : ¬ (64 ≤ n ∧ n < 255)) :
    startOf n = some (if n = 255 then .auto else .index n) := by
  by_cases hn : n = 255
  · simp [startOf, hn]
  · have : n < 64 := by omega
    simp [startOf, hn, this]

/-- Settles O18: each clause of the rule is one branch of `judgeActivate`. -/
theorem activationIsJudgedInOrder : Obligations.ActivationIsJudgedInOrder := by
  unfold Obligations.ActivationIsJudgedInOrder
  intro b v s r a tag said bad waiting k
  have hexec : exec (.activateRoute b v) s = .next (issueRequest .activateRoute v a) := exec_request 0 b v r k
  have hsel : field v 0 2 = v.toNat % 4 := by simp [field_eq]
  have harg : field v 8 8 = v.toNat / 256 % 256 := field_eq v 8 8
  rw [hexec]
  refine ⟨fun hb => ?_, fun hi hbad => ?_, fun hi hgood hwait => ?_, fun hi hgood hnone => ?_⟩
  · rw [issueRequest_busy _ _ hb]; rfl
  · rw [issueRequest_activate v hi, judgeActivate_badArgument]
    · rfl
    · rw [hsel, harg]
      rcases hbad with h | ⟨h1, h2⟩ | ⟨x, hx, hix⟩
      · exact .inl (imageOf_eq_none.mpr h)
      · exact .inr (.inl (by unfold startOf; rw [if_neg (by omega), if_neg (by omega)]))
      · exact .inr (.inr (by rw [hx, hix]; rfl))
  all_goals
    obtain ⟨hsel2, hrange, hactive⟩ := not_or.mp hgood |>.imp_right not_or.mp
    obtain ⟨image, himage⟩ := imageOf_eq_some (Nat.lt_of_not_le hsel2)
    have hne : a.route.active.map ActiveRoute.image ≠ some image := by
      intro h
      obtain ⟨x, hx, hix⟩ := Option.map_eq_some_iff.mp h
      exact hactive ⟨x, hx, himage.trans (congrArg some hix.symm)⟩
    have hstart : startOf (field v 8 8) =
        some (if v.toNat / 256 % 256 = 255 then .auto else .index (v.toNat / 256 % 256)) := by
      rw [harg]
      exact startOf_inRange (Nat.mod_lt (v.toNat / 256) (by decide)) hrange
    rw [issueRequest_activate v hi]
  · rw [judgeActivate_waiting (hsel ▸ himage) hstart hne hwait]; rfl
  · rw [judgeActivate_accepted (hsel ▸ himage) hstart hne hnone]
    refine ⟨_, image, _, rfl, himage, rfl, setRoute_route _ _, rfl, ?_, ?_, ?_, ?_, changesOnly_accepted _ _ a⟩
    · simp [guarded, k, PendingSwitch.image]
    · simp [imageReading]
    · exact isDirty_setRoute_pendingSwitch (by simp [hnone])
    · exact dirtyRises_trans (dirtyRises_setRoute _ a) (dirtyRises_request _ _)

/-- Settles O19: each clause of the rule is one branch of `judgeCancel`. -/
theorem cancelEndsAWaitingSwitch : Obligations.CancelEndsAWaitingSwitch := by
  unfold Obligations.CancelEndsAWaitingSwitch
  intro b v s r a said k
  have hexec : exec (.cancelRoute b v) s = .next (issueRequest .cancelRoute v a) := exec_request 2 b v r k
  rw [hexec]
  refine ⟨_, rfl, ?_⟩
  rcases hb : a.request.busy with _ | busy
  · rw [issueRequest_cancel v hb]
    by_cases hw : ∃ i st g copy, a.route.pendingSwitch = .waiting i st g copy
    · rw [judgeCancel_waiting hw]
      obtain ⟨i, st, g, copy, hp⟩ := hw
      have hmark := isDirty_setRoute_pendingSwitch (r := { a.route with pendingSwitch := .none }) (s := a)
        (by simp [hp])
      refine ⟨isDirty_answer _ _ _ _ _, dirtyRises_trans (dirtyRises_setRoute _ a) (dirtyRises_answer _ _ _ _ _),
        changesOnly_answer_setRoute _ _ _ _ _ a, by simp, fun _ _ => ⟨?_, by simp, ?_, ?_⟩, by simp [hp]⟩
      · simp [said, hb, tagOf]
      · exact dirtyRises_answer _ _ _ _ _ _ hmark
      · intro j hj
        simpa [guarded, PendingSwitch.image, k] using hj
    · rw [judgeCancel_notPending hw]
      exact ⟨isDirty_answer _ _ _ _ _, dirtyRises_answer _ _ _ _ _,
        changesOnly_mono (by simp) (changesOnly_answer _ _ _ _ a), by simp, fun _ h => absurd h hw,
        fun _ _ => ⟨by simp [said, hb, tagOf], by simp⟩⟩
  · rw [issueRequest_busy _ _ (by simp [hb])]
    exact ⟨isDirty_answer _ _ _ _ _, dirtyRises_answer _ _ _ _ _,
      changesOnly_mono (by simp) (changesOnly_answer _ _ _ _ a), fun _ => ⟨by simp [said, hb, tagOf], by simp⟩, by simp,
      by simp⟩

end Sys2Proof.Machine
end

section
/-! PROOFS. Places along a list of marks, the image read performed, and the preview (O20). -/

namespace Sys2Proof.Machine

/-! ## Places along a list of marks -/

/-- A fold over the numbered elements of a list ends in what each step carries on. -/
theorem foldl_zipIdx_induction {α β : Type} (f : β → α × Nat → β) (P : Nat → β → Prop) (xs : List α) (b : β)
    (h0 : P 0 b) (hs : ∀ i b (h : i < xs.length), P i b → P (i + 1) (f b (xs[i], i))) :
    P xs.length (xs.zipIdx.foldl f b) := by
  suffices h : ∀ (rest pre : List α) (b : β), xs = pre ++ rest → P pre.length b →
      P xs.length ((rest.zipIdx pre.length).foldl f b) from h xs [] b rfl h0
  intro rest
  induction rest with
  | nil =>
    intro pre b hx hp
    simpa [hx] using hp
  | cons x rest ih =>
    intro pre b hx hp
    have hlt : pre.length < xs.length := by simp [hx]
    have hget : xs[pre.length] = x := by simp [hx]
    have hstep := hs pre.length b hlt hp
    rw [hget] at hstep
    simpa using ih (pre ++ [x]) (f b (x, pre.length)) (by simp [hx]) (by simpa using hstep)

/-- A position among the first `n` of a list whose mark is nearest `p`, and the first such. -/
structure NearestAmong (marks : List Nat) (p n k : Nat) : Prop where
  within : k < n ∨ k = 0
  least : ∀ j, j < n → distanceTo (marks.getD k 0) p ≤ distanceTo (marks.getD j 0) p
  first : ∀ j, j < n → j < k → distanceTo (marks.getD k 0) p < distanceTo (marks.getD j 0) p

/-- The position chosen by nearness is the first one nearest (R14, R18). -/
theorem nearestPosition_nearest (marks : List Nat) (p : Nat) :
    NearestAmong marks p marks.length (nearestPosition marks p) := by
  refine foldl_zipIdx_induction _ (NearestAmong marks p) marks 0 ⟨.inr rfl, by simp, by simp⟩ ?_
  intro i k hi ⟨hwithin, hleast, hfirst⟩
  have hget : marks.getD i 0 = marks[i] := List.getD_eq_getElem _ _ hi
  dsimp only
  split
  · rename_i hnear
    rw [← hget] at hnear
    refine ⟨.inl (Nat.lt_succ_self i), fun j hj => ?_, fun j hj hji => Nat.lt_of_lt_of_le hnear (hleast j hji)⟩
    rcases Nat.lt_succ_iff_lt_or_eq.mp hj with hji | rfl
    · exact Nat.le_of_lt (Nat.lt_of_lt_of_le hnear (hleast j hji))
    · exact Nat.le_refl _
  · rename_i hfar
    rw [← hget, Nat.not_lt] at hfar
    refine ⟨by omega, fun j hj => ?_, fun j hj hjk => hfirst j (by omega) hjk⟩
    rcases Nat.lt_succ_iff_lt_or_eq.mp hj with hji | rfl
    · exact hleast j hji
    · exact hfar

/-- The last position among the first `n` of a list whose mark is at most a limit, or 0. -/
structure LastAmong (marks : List Nat) (limit n k : Nat) : Prop where
  within : k < n ∨ k = 0
  met : marks.getD k 0 ≤ limit ∨ k = 0
  beyond : ∀ j, k < j → j < n → limit < marks.getD j 0

/-- The position chosen by a limit is the last one within it (R18, R20). -/
theorem lastAtMost_last (marks : List Nat) (limit : Nat) :
    LastAmong marks limit marks.length (lastAtMost marks limit) := by
  refine foldl_zipIdx_induction _ (LastAmong marks limit) marks 0 ⟨.inr rfl, .inr rfl, by simp⟩ ?_
  intro i k hi ⟨hwithin, hmet, hbeyond⟩
  have hget : marks.getD i 0 = marks[i] := List.getD_eq_getElem _ _ hi
  dsimp only
  split
  · rename_i hle
    exact ⟨.inl (Nat.lt_succ_self i), .inl (hget ▸ hle), fun j h1 h2 => by omega⟩
  · rename_i hgt
    refine ⟨by omega, hmet, fun j hkj hj => ?_⟩
    rcases Nat.lt_succ_iff_lt_or_eq.mp hj with hji | rfl
    · exact hbeyond j hkj hji
    · omega

theorem lastAtMost_lt {marks : List Nat} (h : 0 < marks.length) (limit : Nat) :
    lastAtMost marks limit < marks.length := by
  have := (lastAtMost_last marks limit).within
  omega

theorem nearestPosition_lt {marks : List Nat} (h : 0 < marks.length) (p : Nat) :
    nearestPosition marks p < marks.length := by
  have := (nearestPosition_nearest marks p).within
  omega

theorem marks_length (c : RouteCopy) (served : List Nat) : (c.marks served).length = served.length :=
  List.length_map _

theorem marks_getD (c : RouteCopy) {served : List Nat} {k : Nat} (h : k < served.length) :
    (c.marks served).getD k 0 = (c.stop (served.getD k 0)).mark := by
  rw [List.getD_eq_getElem _ _ (by rwa [marks_length]), List.getD_eq_getElem _ _ h]
  exact List.getElem_map _

/-- A served list that passes the checks has two stops (Table 1-3). -/
theorem two_le_of_checkServed {c : RouteCopy} {served : List Nat} (h : c.checkServed served = none) :
    2 ≤ served.length := by
  by_contra hlt
  simp [RouteCopy.checkServed, Nat.lt_of_not_le hlt] at h

/-- A valid copy passes the checks of its served list (R3). -/
theorem checkServed_of_valid {c : RouteCopy} {p : Portion} (h : c.invalid p = none) :
    c.checkServed (c.servedList p) = none := by
  unfold RouteCopy.invalid at h
  split at h
  · cases h
  · split at h
    · cases h
    · exact h

/-- The position derived from a limit, as the served stops show it (R18, R20). -/
theorem lastAtMost_stops {c : RouteCopy} {served : List Nat} (h : 2 ≤ served.length) (limit : Nat) :
    let k := lastAtMost (c.marks served) limit
    k < served.length ∧ ((c.stop (served.getD k 0)).mark ≤ limit ∨ k = 0) ∧
      ∀ j, k < j → j < served.length → limit < (c.stop (served.getD j 0)).mark := by
  intro k
  have hspec := lastAtMost_last (c.marks served) limit
  have hlt : k < served.length := by
    simpa [marks_length] using lastAtMost_lt (marks := c.marks served) (by rw [marks_length]; omega) limit
  refine ⟨hlt, marks_getD c hlt ▸ hspec.met, fun j hkj hj => ?_⟩
  rw [← marks_getD c hj]
  exact hspec.beyond j hkj (by rwa [marks_length])

theorem last_eq {r : ActiveRoute} {k : Nat} (h : k < r.served.length) :
    r.last k = decide (k + 1 = r.served.length) :=
  decide_eq_decide.mpr (by omega)

/-! ## Image reads completed -/

/-- The state in which the last cycle of an image read has been performed, before its copy is taken (R1, log 9). -/
def State.imageRead (s : State) : State := setProgress none (setStarvation 0 s.ready)

theorem changesOnly_imageRead (s : State) : ChangesOnly [.port] s s.imageRead := by
  intro p hp; cases p <;> simp_all [Part.same, State.imageRead]

theorem imageRead_inProgress (s : State) : s.imageRead.port.inProgress = none := rfl

theorem imageRead_starvation (s : State) : s.imageRead.port.starvation = 0 := rfl

/-- A read performed, its route engine replaced and its request answered: the parts that change. -/
theorem changesOnly_readAnswered (tag : Byte) (kind : RequestKind) (code : ResultCode) (reason : Option InvalidReason)
    (r : Route) (q : RequestUnit) (s : State) :
    ChangesOnly [.port, .route, .request, .dirty] s
      (answer tag kind code reason (setRoute r { s.imageRead with request := q })) :=
  changesOnly_trans (changesOnly_mono (by simp) (changesOnly_imageRead s)) <|
    changesOnly_trans (changesOnly_mono (by simp) (changesOnly_request q _))
      (changesOnly_mono (by simp) (changesOnly_answer_setRoute tag kind code reason r _))

theorem copyOf_congr {s t : State} (hm : t.mem = s.mem) (hb : t.bus = s.bus) (i : ImageId) :
    t.copyOf i = s.copyOf i := by
  have h : t.tapWord = s.tapWord := by
    funext offset
    simp only [State.tapWord, State.tapBase, hm, hb]
  unfold State.copyOf State.stopOf
  rw [h]

/-- The rows of a completed image read act where an image cycle is the port's next (R159, log 9). -/
theorem finishImageRead_next {names : State → Bool} {s : State} {n : Nat} (h : s.nextAccess = some (.image n))
    (k : names s = true) : finishImageRead names s = completeImage s.imageRead := by
  unfold State.nextAccess at h
  split at h
  · rename_i hfree
    simp only [finishImageRead, h, hfree, k]
    rfl
  · cases h

theorem completePreview_invalid {s : State} {image : ImageId} {tag : Byte} {copy : RouteCopy} {reason : InvalidReason}
    (hr : s.route.previewRead = some image) (hb : s.request.busy = some (.previewRoute, tag))
    (hc : copy.invalid s.route.consist.portion = some reason) :
    completePreview copy s = answer tag .previewRoute .invalidImage (some reason)
      (setRoute { s.route with previewRead := none, preview := previewInvalid s image reason }
        { s with request := { s.request with busy := none } }) := by
  simp only [completePreview, hr, hc, busyTag, hb]
  rfl

theorem completePreview_valid {s : State} {image : ImageId} {tag : Byte} {copy : RouteCopy}
    (hr : s.route.previewRead = some image) (hb : s.request.busy = some (.previewRoute, tag))
    (hc : copy.invalid s.route.consist.portion = none) :
    completePreview copy s = answer tag .previewRoute .done none
      (setRoute { s.route with previewRead := none, preview := previewValid s image copy }
        { s with request := { s.request with busy := none } }) := by
  simp only [completePreview, hr, hc, busyTag, hb]
  rfl

/-- The preview of a valid copy names the nearest stop, and the next stop past the last one within the berth (R18). -/
theorem previewValid_places {s : State} {image : ImageId} {copy : RouteCopy}
    (hc : copy.invalid s.route.consist.portion = none) :
    let marks := copy.marks (copy.servedList s.route.consist.portion)
    let p := s.filter.metres
    let x := previewValid s image copy
    (∃ k, x.nearest = some k ∧ k < marks.length ∧
      ∀ j, j < marks.length → distanceTo (marks.getD k 0) p ≤ distanceTo (marks.getD j 0) p ∧
        (j < k → distanceTo (marks.getD k 0) p < distanceTo (marks.getD j 0) p)) ∧
    (∃ k, k < marks.length ∧ (marks.getD k 0 ≤ p + s.items.berthDistance ∨ k = 0) ∧
      (∀ j, k < j → j < marks.length → p + s.items.berthDistance < marks.getD j 0) ∧
      x.next = (if k + 1 < marks.length then some (k + 1) else none) ∧
      x.distance = (if k + 1 < marks.length then marks.getD (k + 1) 0 - p else 0)) := by
  intro marks p x
  have hpos : 0 < marks.length := by
    have := two_le_of_checkServed (checkServed_of_valid hc)
    rw [marks_length]
    omega
  have hnear := nearestPosition_nearest marks p
  have hlast := lastAtMost_last marks (p + s.items.berthDistance)
  refine ⟨⟨_, rfl, nearestPosition_lt hpos p, fun j hj => ⟨hnear.least j hj, hnear.first j hj⟩⟩,
    ⟨_, lastAtMost_lt hpos _, hlast.met, hlast.beyond, ?_, ?_⟩⟩
  all_goals
    simp only [x, previewValid]
    by_cases hnext : lastAtMost marks (p + s.items.berthDistance) + 1 < marks.length
    · simp [hnext, marks, p, Nat.not_le_of_lt hnext]
    · simp [hnext, marks, p, Nat.le_of_not_lt hnext]

/-- The preview of an invalid copy reads the lock alone (R18). -/
theorem previewInvalid_eq (s : State) (image : ImageId) (reason : InvalidReason) :
    previewInvalid s image reason =
      ⟨image, .invalid reason, decide (s.filter.lock = .locked), decide (s.filter.lock = .locked), none, none, 0⟩ := by
  unfold previewInvalid
  cases s.filter.lock <;> rfl

theorem previewValid_lock (s : State) (image : ImageId) (copy : RouteCopy) :
    (previewValid s image copy).locked = decide (s.filter.lock = .locked) ∧
      (previewValid s image copy).validForPosition = decide (s.filter.lock = .locked) := by
  unfold previewValid
  cases s.filter.lock <;> exact ⟨rfl, rfl⟩

/-- A preview reads the consist, the filter and the berth distance of the state. -/
theorem previewValid_congr {s t : State} (hr : t.route = s.route) (hf : t.filter = s.filter) (hi : t.items = s.items)
    (image : ImageId) (copy : RouteCopy) : previewValid t image copy = previewValid s image copy := by
  simp only [previewValid, hr, hf, hi]

/-- PREVIEW_ROUTE judged (R17). -/
theorem previewRoute_judged {b : Beat} {v : Word} {s : State} (r : s.bus.resetAsserted = false)
    (k : (s.passed b 0x201 v).items.softReset = false) (hi : (s.passed b 0x201 v).request.busy = none) :
    exec (.previewRoute b v) s = .next (judgePreview v (s.passed b 0x201 v)) := by
  rw [← issueRequest_preview v hi]
  exact exec_request 1 b v r k

theorem exec_previewReadComplete {s : State} {image : ImageId} {n : Nat} (r : s.bus.resetAsserted = false)
    (hp : ∀ i st g, s.route.pendingSwitch ≠ .reading i st g) (hr : s.route.previewRead = some image)
    (hn : s.nextAccess = some (.image n)) :
    exec .previewReadComplete s = .next (completePreview (s.copyOf image) s.imageRead) := by
  have hroute : s.imageRead.route = s.route := changesOnly_imageRead s .route (by simp)
  have hcopy : s.imageRead.copyOf image = s.copyOf image :=
    copyOf_congr (changesOnly_imageRead s .mem (by simp)) (changesOnly_imageRead s .bus (by simp)) image
  have hnames : (match s.route.pendingSwitch with | .reading _ _ _ => false | _ => true) = true := by
    split
    · rename_i i st g h
      exact absurd h (hp i st g)
    · rfl
  have hcomplete : completeImage s.imageRead = completePreview (s.copyOf image) s.imageRead := by
    unfold completeImage
    rw [hroute]
    split
    · rename_i i st g h
      exact absurd h (hp i st g)
    · rw [hr, ← hcopy]
  show Host.Outcome.next (onPort _ s) = _
  rw [← hcomplete, onPort, if_neg (by simp [r]), finishImageRead_next hn hnames]

/-- Settles O20: the judgement branch by branch, and the completed read through the places its evaluation finds. -/
theorem previewIsReadAndEvaluated : Obligations.PreviewIsReadAndEvaluated := by
  unfold Obligations.PreviewIsReadAndEvaluated
  refine ⟨?_, ?_⟩
  · intro b v s r a tag k hi
    have hsel : field v 0 2 = v.toNat % 4 := by simp [field_eq]
    rw [previewRoute_judged r k hi]
    refine ⟨fun hbad => ⟨_, rfl, ?_⟩, fun image himage hactive => ⟨_, rfl, ?_⟩⟩
    · rw [judgePreview_badArgument (hsel ▸ hbad)]
      refine ⟨changesOnly_answer _ _ _ _ a, ?_⟩
      rw [answer_request, hi]
      rfl
    · rw [judgePreview_accepted (hsel ▸ himage) hactive]
      refine ⟨changesOnly_accepted _ _ a, setRoute_route _ _, ?_, rfl⟩
      simp [guarded, k]
  · intro s image tag n r hp hr hb hn copy marks p locked
    rw [exec_previewReadComplete r hp hr hn]
    have hframe := changesOnly_imageRead s
    have hroute : s.imageRead.route = s.route := hframe .route (by simp)
    have hbusy : s.imageRead.request.busy = some (.previewRoute, tag) := hframe .request (by simp) ▸ hb
    have hfilter : s.imageRead.filter = s.filter := hframe .filter (by simp)
    have hread : s.imageRead.route.previewRead = some image := by rw [hroute, hr]
    rcases hc : copy.invalid s.route.consist.portion with _ | reason
    · rw [completePreview_valid hread hbusy (hroute ▸ hc),
        previewValid_congr hroute hfilter (hframe .items (by simp))]
      obtain ⟨hlock, hposition⟩ := previewValid_lock s image copy
      obtain ⟨hnear, hnext⟩ := previewValid_places (image := image) hc
      refine ⟨_, rfl, changesOnly_readAnswered _ _ _ _ _ _ s, by simp [imageRead_inProgress],
        by simp [imageRead_starvation], by simp, by simp [hroute], by simp, fun _ => ⟨by simp, ?_⟩⟩
      simp only [answer_keeps, setRoute_route]
      exact ⟨rfl, rfl, hlock, hposition, hnear, hnext⟩
    · rw [completePreview_invalid hread hbusy (hroute ▸ hc)]
      refine ⟨_, rfl, changesOnly_readAnswered _ _ _ _ _ _ s, by simp [imageRead_inProgress],
        by simp [imageRead_starvation], by simp, by simp [hroute], fun x hx => ⟨?_, ?_⟩, by simp⟩
      · cases hx
        simp
      · cases hx
        simp [previewInvalid_eq, hfilter, locked]

end Sys2Proof.Machine
end

section
/-! PROOFS. The switch: the stop it chooses, what a reading of the coast cap leaves, and what the switch leaves. -/

namespace Sys2Proof.Machine

/-! ## The stop a switch chooses -/

theorem chooseStop_lt {c : RouteCopy} {served : List Nat} (h : 0 < served.length) (start : Start) (p : Nat) :
    chooseStop c served start p < served.length := by
  have hnear : nearestPosition (c.marks served) p < served.length := by
    simpa [marks_length] using nearestPosition_lt (marks := c.marks served) (by simpa [marks_length] using h) p
  cases start with
  | auto => exact hnear
  | index i =>
    rcases hi : positionIn served i with _ | k
    · simpa [chooseStop, hi] using hnear
    · obtain ⟨hk, -⟩ := List.idxOf?_eq_some_iff.mp hi
      simpa [chooseStop, hi] using hk

/-- A start argument that is served is the stop chosen (R14). -/
theorem chooseStop_served {c : RouteCopy} {served : List Nat} {i : Nat} (h : i ∈ served) (p : Nat) :
    served[chooseStop c served (.index i) p]? = some i := by
  obtain ⟨k, hk⟩ := Option.isSome_iff_exists.mp (List.isSome_idxOf?.mpr h)
  obtain ⟨hlt, hget, -⟩ := List.idxOf?_eq_some_iff.mp hk
  have hchosen : chooseStop c served (.index i) p = k := by simp [chooseStop, positionIn, hk]
  rw [hchosen, List.getElem?_eq_getElem hlt, hget]

/-- AUTO, and a start argument that is not served, choose by nearness (R14). -/
theorem chooseStop_unserved {c : RouteCopy} {served : List Nat} {start : Start} {p : Nat}
    (h : start = .auto ∨ ∃ i, start = .index i ∧ i ∉ served) :
    chooseStop c served start p = nearestPosition (c.marks served) p := by
  rcases h with rfl | ⟨i, rfl, hi⟩
  · rfl
  · have hk : positionIn served i = none := List.idxOf?_eq_none_iff.mpr hi
    simp [chooseStop, hk]

/-! ## What the reading of the cap leaves -/

/-- The filter but for its motion mode and coast-step time, which the coast cap can change (R31, R32). -/
def Filter.figures (f : Filter) : Filter := { f with mode := .tracking, coastStep := none }

/-- Filters of the same figures differ in the motion mode and the coast-step time only. -/
theorem Filter.eq_of_figures {f g : Filter} (h : g.figures = f.figures) :
    g = { f with mode := g.mode, coastStep := g.coastStep } := by
  cases f
  cases g
  simp_all [Filter.figures]

theorem setMode_figures (m : Mode) (s : State) : (setMode m s).filter.figures = s.filter.figures := by
  unfold setMode
  split
  · rfl
  · simp [Filter.figures]

theorem readCap_figures (s : State) : (readCap s).filter.figures = s.filter.figures := by
  unfold readCap
  split
  · split
    · exact setMode_figures _ s
    · rfl
  · rfl

/-! ## Notices given last -/

/-- A notice that is not minor is the last entry of its class, unless it was lost (R137). -/
theorem raise_last {n : Notice} {s : State} (h : n.minor = false) (k : (raise n s).notices.occupancy < 64) :
    (raise n s).notices.accesses.getLast? = some (.entry ⟨s.notices.producer, n, s.timebase⟩) := by
  rw [raise_notices, State.given, NoticeWriter.give] at k ⊢
  rw [h] at k ⊢
  by_cases hroom : s.notices.occupancy < 64
  · simp [hroom, NoticeWriter.reserve]
  · simp [hroom] at k

/-! ## The switch -/

/-- Two states are alike to a switch: the same but for what it neither reads nor leaves as it was. -/
structure AlikeForSwitch (s u : State) : Prop where
  route : u.route = s.route
  timebase : u.timebase = s.timebase
  stillRun : u.tracker.stillRun = s.tracker.stillRun
  figures : u.filter.figures = s.filter.figures

theorem switchRoute_route (image : ImageId) (start : Start) (copy : RouteCopy) (s : State) :
    (switchRoute image start copy s).route = { s.route with
      active := some ⟨image, copy, copy.servedList s.route.consist.portion⟩, pendingSwitch := .none,
      mismatch := false } := by
  simp [switchRoute]

theorem switchRoute_tracker (image : ImageId) (start : Start) (copy : RouteCopy) (s : State) :
    let served := copy.servedList s.route.consist.portion
    (switchRoute image start copy s).tracker =
      s.tracker.switched (standingAt ⟨image, copy, served⟩ (chooseStop copy served start s.filter.metres)) := by
  simp [switchRoute]

theorem switchRoute_figures (image : ImageId) (start : Start) (copy : RouteCopy) (s : State) :
    let r : ActiveRoute := ⟨image, copy, copy.servedList s.route.consist.portion⟩
    (switchRoute image start copy s).filter.figures = Filter.figures { s.filter with
      progress := r.mark (chooseStop copy r.served start s.filter.metres) * 1000, referencePending := true } := by
  simp only [switchRoute, raise_keeps, composePanels_keeps, rejudge_keeps, retag_keeps, readCap_figures,
    setFilter_filter, setTracker_keeps, setRoute_keeps]

theorem switchRoute_last {image : ImageId} {start : Start} {copy : RouteCopy} {s : State}
    (h : (switchRoute image start copy s).notices.occupancy < 64) :
    let r : ActiveRoute := ⟨image, copy, copy.servedList s.route.consist.portion⟩
    ∃ i, (switchRoute image start copy s).notices.accesses.getLast? = some (.entry
      ⟨i, .routeActive (r.stop (chooseStop copy r.served start s.filter.metres)).code copy.service image,
        s.timebase⟩) := by
  intro r
  obtain ⟨x, hx, htime⟩ : ∃ x, switchRoute image start copy s = raise (.routeActive
      (r.stop (chooseStop copy r.served start s.filter.metres)).code copy.service image) x ∧
      x.timebase = s.timebase := ⟨_, rfl, by simp⟩
  rw [hx] at h ⊢
  exact ⟨_, htime ▸ raise_last rfl h⟩

theorem isDirty_switchRoute {image : ImageId} {start : Start} {copy : RouteCopy} {s : State}
    (h : s.route.pendingSwitch ≠ .none) : (switchRoute image start copy s).isDirty (.status 1) = true :=
  dirtyRises_setRoute_switchRoute image start copy s _ (isDirty_setRoute_pendingSwitch h)

/-- A switch that ends a pending one leaves what the rules say (R14, R15, R24, R40, R46), whatever is marked or answered
beside it. -/
theorem switchRoute_made {image : ImageId} {start : Start} {copy : RouteCopy} {s u t : State}
    (halike : AlikeForSwitch s u) (hpending : s.route.pendingSwitch ≠ .none)
    (hc : copy.checkServed (copy.servedList s.route.consist.portion) = none)
    (ht : ChangesOnly [.request, .link .a, .link .b, .link .p, .dirty] (switchRoute image start copy u) t)
    (hd : DirtyRises (switchRoute image start copy u) t) : SwitchMade image start copy s t := by
  obtain ⟨hroute, htime, hstill, hfigures⟩ := halike
  have hu := Filter.eq_of_figures hfigures
  have hmetres : u.filter.metres = s.filter.progress / 1000 := by rw [hu]; rfl
  have htroute := (ht .route (by simp)).trans (switchRoute_route image start copy u)
  have httracker := (ht .tracker (by simp)).trans (switchRoute_tracker image start copy u)
  have htfilter := Filter.eq_of_figures
    ((congrArg Filter.figures (ht .filter (by simp))).trans (switchRoute_figures image start copy u))
  have htnotices : t.notices = (switchRoute image start copy u).notices := ht .notices (by simp)
  have hlast := switchRoute_last (image := image) (start := start) (copy := copy) (s := u)
  rw [← htnotices, hroute, hmetres, htime] at hlast
  rw [hroute, hmetres] at httracker
  rw [hroute, hmetres, hu] at htfilter
  rw [hroute] at htroute
  unfold SwitchMade
  intro served marks p
  have hlt : chooseStop copy served start p < served.length :=
    chooseStop_lt (Nat.lt_of_lt_of_le (by decide) (two_le_of_checkServed hc)) start p
  have hnear := nearestPosition_nearest marks p
  have hmark := marks_getD copy hlt
  refine ⟨htroute, hd _ (isDirty_switchRoute (by rwa [hroute])), chooseStop copy served start p, ?_, hlt, ?_, ?_, ?_,
    ?_⟩
  · rw [httracker, Tracker.switched, standingAt, last_eq hlt]
    simp only [decide_eq_true_eq]
    rfl
  · rw [htfilter, hmark]
    rfl
  · rintro i rfl hi
    exact chooseStop_served hi p
  · intro hstart j hj
    rw [chooseStop_unserved hstart]
    exact ⟨hnear.least j hj, hnear.first j hj⟩
  · rw [httracker, htfilter]
    exact ⟨rfl, rfl, rfl, rfl, rfl, rfl, hstill, rfl, rfl, rfl, rfl, rfl, rfl, rfl, rfl, rfl, rfl, hlast⟩

end Sys2Proof.Machine
end

section
/-! PROOFS. The read of an activation completed (O21). -/

namespace Sys2Proof.Machine

/-! ## Activation reads completed -/

/-- The request unit IDLE again, its last result kept (R167). -/
def State.idled (s : State) : State := { s with request := { s.request with busy := none } }

@[simp] theorem idled_request (s : State) : s.idled.request = ⟨none, s.request.result⟩ := rfl

@[simp] theorem idled_port (s : State) : s.idled.port = s.port := rfl

@[simp] theorem idled_route (s : State) : s.idled.route = s.route := rfl

/-- The switch is made at once but where a route is active and the train is between stops (R11). -/
theorem switchable_iff (s : State) : switchable s = true ↔ ¬ ∃ r ap, s.route.active = some r ∧
    s.tracker.approach = some ap ∧ ap.state ≠ .standing ∧ ap.state ≠ .terminated := by
  unfold switchable
  split
  · rename_i r ap hr hap
    simp only [hr, hap, Option.some.injEq]
    cases h : ap.state <;> simp [h]
  · rename_i hnone
    simp only [true_iff, not_exists]
    rintro r ap ⟨hr, hap, -⟩
    exact hnone r ap hr hap

theorem completeActivation_invalid {s : State} {image : ImageId} {start : Start} {tag : Byte} {copy : RouteCopy}
    {reason : InvalidReason} (hp : s.route.pendingSwitch = .reading image start tag)
    (hc : copy.invalid s.route.consist.portion = some reason) :
    completeActivation copy s = answer tag .activateRoute .invalidImage (some reason)
      (setRoute { s.route with pendingSwitch := .none } s.idled) := by
  simp only [completeActivation, hp, hc]
  rfl

theorem completeActivation_switched {s : State} {image : ImageId} {start : Start} {tag : Byte} {copy : RouteCopy}
    (hp : s.route.pendingSwitch = .reading image start tag) (hc : copy.invalid s.route.consist.portion = none)
    (hs : switchable s = true) :
    completeActivation copy s = answer tag .activateRoute .done none (switchRoute image start copy s.idled) := by
  have hs' : switchable s.idled = true := hs
  rw [State.idled] at hs'
  simp only [completeActivation, hp, hc, hs', if_true]
  rfl

theorem completeActivation_waiting {s : State} {image : ImageId} {start : Start} {tag : Byte} {copy : RouteCopy}
    (hp : s.route.pendingSwitch = .reading image start tag) (hc : copy.invalid s.route.consist.portion = none)
    (hs : switchable s = false) :
    completeActivation copy s = answer tag .activateRoute .pending none
      (setRoute { s.route with pendingSwitch := .waiting image start tag copy } s.idled) := by
  have hs' : switchable s.idled = false := hs
  rw [State.idled] at hs'
  simp only [completeActivation, hp, hc, hs', Bool.false_eq_true, if_false]
  rfl

theorem changesOnly_switchRoute (image : ImageId) (start : Start) (copy : RouteCopy) (s : State) :
    ChangesOnly Part.blocks s (switchRoute image start copy s) := by
  intro p hp
  cases p with
  | link l => cases l <;> simp [Part.blocks] at hp
  | _ => simp_all [Part.same, Part.blocks]

theorem exec_activationReadComplete {s : State} {image : ImageId} {start : Start} {tag : Byte} {n : Nat}
    (r : s.bus.resetAsserted = false) (hp : s.route.pendingSwitch = .reading image start tag)
    (hn : s.nextAccess = some (.image n)) :
    exec .activationReadComplete s = .next (completeActivation (s.copyOf image) s.imageRead) := by
  have hroute : s.imageRead.route = s.route := changesOnly_imageRead s .route (by simp)
  have hcopy : s.imageRead.copyOf image = s.copyOf image :=
    copyOf_congr (changesOnly_imageRead s .mem (by simp)) (changesOnly_imageRead s .bus (by simp)) image
  have hcomplete : completeImage s.imageRead = completeActivation (s.copyOf image) s.imageRead := by
    simp only [completeImage, hroute, hp, hcopy]
  show Host.Outcome.next (onPort _ s) = _
  rw [← hcomplete, onPort, if_neg (by simp [r]), finishImageRead_next hn (by simp [hp])]

/-- What an activation read leaves that ends without a switch: the unit IDLE with an answer, and the pending switch
replaced (R11). -/
structure ReadAnswered (q : PendingSwitch) (result : Result) (s t : State) : Prop where
  request : t.request = ⟨none, result⟩
  progress : t.port.inProgress = none
  starvation : t.port.starvation = 0
  result : t.isDirty (.status 0) = true
  routeState : t.isDirty (.status 1) = true
  route : t.route = { s.route with pendingSwitch := q }
  frame : ChangesOnly [.port, .route, .request, .dirty] s t

theorem readAnswered_of_pendingSwitch_ne {s : State} {q : PendingSwitch} (h : s.route.pendingSwitch ≠ q) (tag : Byte)
    (code : ResultCode) (reason : Option InvalidReason) :
    ReadAnswered q ⟨tag, some .activateRoute, code, reason⟩ s
      (answer tag .activateRoute code reason
        (setRoute { s.imageRead.route with pendingSwitch := q } s.imageRead.idled)) := by
  have hroute : s.imageRead.route = s.route := changesOnly_imageRead s .route (by simp)
  have hmark : (setRoute { s.imageRead.route with pendingSwitch := q } s.imageRead.idled).isDirty (.status 1) = true :=
    isDirty_setRoute_pendingSwitch (by rw [idled_route, hroute]; exact h)
  exact {
    request := by simp
    progress := by simp [imageRead_inProgress]
    starvation := by simp [imageRead_starvation]
    result := isDirty_answer _ _ _ _ _
    routeState := dirtyRises_answer _ _ _ _ _ _ hmark
    route := by simp [hroute]
    frame := changesOnly_readAnswered _ _ _ _ _ _ s }

/-- Settles O21: the three ends of the read, each with its answer. -/
theorem activationReadEndsInASwitchOrAWait : Obligations.ActivationReadEndsInASwitchOrAWait := by
  unfold Obligations.ActivationReadEndsInASwitchOrAWait
  intro s image start tag n r hp hn copy moving
  rw [exec_activationReadComplete r hp hn]
  refine ⟨_, rfl, ?_⟩
  have hframe := changesOnly_imageRead s
  have hroute : s.imageRead.route = s.route := hframe .route (by simp)
  have htracker : s.imageRead.tracker = s.tracker := hframe .tracker (by simp)
  have hread : s.imageRead.route.pendingSwitch = .reading image start tag := hroute ▸ hp
  have hswitchable : switchable s.imageRead = true ↔ ¬ moving := by rw [switchable_iff, hroute, htracker]
  have hblocks : [Part.port, .route, .request, .dirty] ⊆ Part.port :: Part.blocks := by simp [Part.blocks]
  rcases hc : copy.invalid s.route.consist.portion with _ | reason
  · by_cases hm : moving
    · have ht := readAnswered_of_pendingSwitch_ne (s := s) (q := .waiting image start tag copy) (by simp [hp])
        tag .pending none
      rw [completeActivation_waiting hread (hroute ▸ hc) (by simpa [hm] using hswitchable)]
      exact ⟨congrArg RequestUnit.busy ht.request, ht.progress, ht.starvation, ht.result, ht.routeState,
        changesOnly_mono hblocks ht.frame, by simp,
        fun _ _ => ⟨ht.route, congrArg RequestUnit.result ht.request, ht.frame⟩, fun _ h => absurd hm h⟩
    · rw [completeActivation_switched hread (hroute ▸ hc) (hswitchable.mpr hm)]
      have hidled : ChangesOnly [.port, .request] s s.imageRead.idled :=
        changesOnly_trans (changesOnly_mono (by simp) hframe) (changesOnly_mono (by simp) (changesOnly_request _ _))
      have halike : AlikeForSwitch s s.imageRead.idled :=
        ⟨hroute, hidled .timebase (by simp), congrArg Tracker.stillRun htracker,
          congrArg Filter.figures (hidled .filter (by simp))⟩
      have hanswer := changesOnly_answer tag .activateRoute .done none (switchRoute image start copy s.imageRead.idled)
      have hrise := dirtyRises_answer tag .activateRoute .done none (switchRoute image start copy s.imageRead.idled)
      have hmade := switchRoute_made halike (by simp [hp]) (checkServed_of_valid hc)
        (changesOnly_mono (by simp) hanswer) hrise
      refine ⟨by simp, by simp [imageRead_inProgress], by simp [imageRead_starvation], isDirty_answer _ _ _ _ _,
        hrise _ (isDirty_switchRoute ?_), ?_,
        by simp, fun _ h => absurd h hm, fun _ _ => ⟨hmade, by simp, s.imageRead.idled, ?_, hanswer .res (by simp)⟩⟩
      · simp [hread]
      · exact changesOnly_trans (changesOnly_mono (by simp [Part.blocks]) hidled)
          (changesOnly_trans (changesOnly_mono (by simp) (changesOnly_switchRoute _ _ _ _))
            (changesOnly_mono (by simp [Part.blocks]) hanswer))
      · exact changesOnly_mono (by simp) hidled
  · have ht := readAnswered_of_pendingSwitch_ne (s := s) (q := .none) (by simp [hp]) tag .invalidImage (some reason)
    rw [completeActivation_invalid hread (hroute ▸ hc)]
    refine ⟨congrArg RequestUnit.busy ht.request, ht.progress, ht.starvation, ht.result, ht.routeState,
      changesOnly_mono hblocks ht.frame, fun x hx => ?_, by simp, by simp⟩
    cases hx
    exact ⟨ht.route, congrArg RequestUnit.result ht.request, ht.frame⟩

end Sys2Proof.Machine
end

section
/-! PROOFS. A waiting switch at a stop, entered by an arrival or a passing. -/

namespace Sys2Proof.Machine

/-! ## A waiting switch at a stop -/

/-- An entry into a stop ends the wait of a switch (R13): it is made if the pending copy passes the checks, and
abandoned under the tag of its activation otherwise, whatever the links do besides. -/
theorem enterStop_ends_wait {image : ImageId} {start : Start} {tag : Byte} {copy : RouteCopy} {s u t : State}
    (halike : AlikeForSwitch s u) (hrequest : u.request = s.request)
    (hp : s.route.pendingSwitch = .waiting image start tag copy)
    (ht : ChangesOnly [.link .a, .link .b, .link .p, .dirty] (enterStop u) t) (hd : DirtyRises (enterStop u) t) :
    (∀ reason, copy.checkServed (copy.servedList s.route.consist.portion) = some reason →
      SwitchAbandoned tag reason s t ∧ t.tracker = u.tracker) ∧
    (copy.checkServed (copy.servedList s.route.consist.portion) = none →
      SwitchMade image start copy s t ∧ t.request = s.request) := by
  have hroute := halike.route
  have hu : u.route.pendingSwitch = .waiting image start tag copy := hroute ▸ hp
  refine ⟨fun reason hc => ?_, fun hc => ?_⟩
  · have henter : enterStop u = abandonSwitch tag reason u := by
      simp only [enterStop, hroute, hp, hc]
    rw [henter] at ht hd
    have hmark : (abandonSwitch tag reason u).isDirty (.status 1) = true :=
      dirtyRises_answer _ _ _ _ _ _ (isDirty_setRoute_pendingSwitch (by simp [hu]))
    refine ⟨⟨?_, ?_, hd _ (isDirty_answer _ _ _ _ _), hd _ hmark⟩, ?_⟩
    · exact (ht .route (by simp)).trans (by simp [abandonSwitch, hroute])
    · exact (ht .request (by simp)).trans (by simp [abandonSwitch, hrequest])
    · exact (ht .tracker (by simp)).trans (by simp)
  · have henter : enterStop u = switchRoute image start copy u := by
      simp only [enterStop, hroute, hp, hc]
    rw [henter] at ht hd
    refine ⟨switchRoute_made halike (by simp [hp]) hc (changesOnly_mono (by simp) ht) hd, ?_⟩
    exact (ht .request (by simp)).trans (by simp [hrequest])

theorem handCurrent_figures (s : State) : (handCurrent s).filter.figures = s.filter.figures := by
  unfold handCurrent
  rw [readCap_figures]
  simp

theorem departed_filter (c : Nat) (k : Lock) (s : State) : (departed c k s).filter = s.filter := by simp

/-- An arrival ends in the entry into its stop (R47). -/
theorem arrive_enters (r : ActiveRoute) (a : Approach) (s : State) :
    ∃ u, arrive r a s = enterStop u ∧ AlikeForSwitch s u ∧ u.request = s.request ∧
      u.tracker.approach = some ⟨if r.last (a.current + 1) then .terminated else .standing, a.current + 1⟩ := by
  refine ⟨_, rfl, ⟨by simp, by simp, by simp, ?_⟩, by simp, by simp⟩
  rw [handCurrent_figures]
  simp

/-- The passing of the last served stop ends in the entry into it (R50). -/
theorem passStop_enters {r : ActiveRoute} {a : Approach} (s : State) (h : r.last (a.current + 1) = true) :
    ∃ u, passStop r a s = enterStop u ∧ AlikeForSwitch s u ∧ u.request = s.request ∧
      u.tracker.approach = some ⟨.terminated, a.current + 1⟩ := by
  unfold passStop
  simp only [h, if_true]
  refine ⟨_, rfl, ⟨by simp, by simp, by simp, ?_⟩, by simp, by simp⟩
  rw [departed_filter, handCurrent_figures]
  simp

/-- The round of a pass in which the train arrives (Table 3-2). -/
theorem passRound_arrives {release : Bool} {x : Pass} {r : ActiveRoute} {a : Approach}
    (hr : x.state.route.active = some r) (ha : x.state.tracker.approach = some a) (hstate : a.state = .arriving)
    (hberth : inBerth x.state r (a.current + 1) = true) (harrives : arrives x.state r a release = true) :
    passRound release x = ⟨arrive r a x.state, true, true, true⟩ := by
  have hnear : beyondBerth x.state r (a.current + 1) = false := by
    have hdist : distanceTo (r.mark (a.current + 1)) x.state.filter.metres ≤ x.state.items.berthDistance :=
      of_decide_eq_true hberth
    refine decide_eq_false (Nat.not_lt.mpr ?_)
    unfold distanceTo at hdist
    split at hdist <;> omega
  simp [passRound, hr, ha, hstate, hnear, harrives]

/-- The round of a pass in which the train passes its next stop (Table 3-2). -/
theorem passRound_passes {release : Bool} {x : Pass} {r : ActiveRoute} {a : Approach}
    (hr : x.state.route.active = some r) (ha : x.state.tracker.approach = some a)
    (hstate : a.state = .cruising ∨ a.state = .approaching ∨ a.state = .arriving)
    (hbeyond : beyondBerth x.state r (a.current + 1) = true) :
    passRound release x = ⟨passStop r a x.state, x.arrived, x.standing || r.last (a.current + 1),
      r.last (a.current + 1)⟩ := by
  rcases hstate with h | h | h <;> simp [passRound, hr, ha, h, hbeyond]

end Sys2Proof.Machine
end

section
/-! PROOFS. What composing leaves of a link, and the served list replaced. -/

namespace Sys2Proof.Machine

/-! ## What composing leaves of a link -/

/-- A link but for what composing content changes: the owed flags of its units, the queue, the overflow latch and the
sweep position (R106 to R115). -/
def Link.control (k : Link) : Link :=
  { k with units := [], queue := [], overflow := false, sweepPosition := 0, levelOwed := false }

theorem owe_control (k : Link) (it : Item) : (k.owe it).control = k.control := by
  unfold Link.owe
  split <;> rfl

theorem pay_control (k : Link) (it : Item) : (k.pay it).control = k.control := by
  unfold Link.pay
  split <;> rfl

theorem overflows_control (k : Link) (it : Item) : (k.overflows it).control = k.control := by
  unfold Link.overflows
  split
  · rfl
  · exact owe_control k it

theorem enqueue_control (k : Link) (nearFull : Nat) (it : Item) : (k.enqueue nearFull it).control = k.control := by
  unfold Link.enqueue
  split
  · exact pay_control _ it
  · split
    · exact overflows_control k it
    · split
      · exact owe_control k it
      · exact pay_control _ it

theorem offer_control (k : Link) (nearFull : Nat) (it : Item) : (k.offer nearFull it).control = k.control := by
  unfold Link.offer
  (repeat' split) <;> simp [owe_control, enqueue_control]

theorem sweepOne_control (sup : Supply) (k : Link) (x : Nat × ContentKind) :
    (Link.sweepOne sup k x).control = k.control := by
  unfold Link.sweepOne
  split
  · rfl
  · split
    · exact offer_control k _ _
    · rfl

theorem sweep_control (sup : Supply) (k : Link) : (k.sweep sup).control = k.control := by
  have hfold : ∀ (xs : List (Nat × ContentKind)) (k : Link),
      (xs.foldl (Link.sweepOne sup) k).control = k.control := by
    intro xs
    induction xs with
    | nil => exact fun _ => rfl
    | cons x xs ih => exact fun k => (ih _).trans (sweepOne_control sup k x)
  unfold Link.sweep
  split
  · rw [hfold, Link.sweepLevel]
    split
    · exact offer_control k _ _
    · rfl
  · rfl

theorem onLink_control {f : Link → Link} (h : ∀ k, (f k).control = k.control) (l : LinkId) (s : State) (m : LinkId) :
    ((onLink l f s).link m).control = (s.link m).control := by
  by_cases hm : m = l
  · subst hm
    rw [onLink_self, h]
  · rw [onLink_other l f s m hm]

@[simp] theorem sweepAfterRemoval_control (l : LinkId) (n : Nat) (s : State) (m : LinkId) :
    ((sweepAfterRemoval l n s).link m).control = (s.link m).control := by
  unfold sweepAfterRemoval
  split
  · exact onLink_control (sweep_control _) l s m
  · rfl

@[simp] theorem judgeTarget_control (l : LinkId) (s : State) (x : Nat × ContentKind) (m : LinkId) :
    ((judgeTarget l s x).link m).control = (s.link m).control := by
  unfold judgeTarget
  split
  · rfl
  · dsimp only
    split
    · split
      · rw [withdrawItem, sweepAfterRemoval_control]
        refine onLink_control (fun k => ?_) l s m
        rfl
      · exact onLink_control (fun k => offer_control k _ _) l s m
    · rfl

@[simp] theorem composePanels_control (s : State) (m : LinkId) :
    ((composePanels s).link m).control = (s.link m).control :=
  foldl_keeps (fun t => (t.link m).control) _ (fun s x => judgeTarget_control .p s x m) _ s

@[simp] theorem composeSeats_control (ns : List Nat) (s : State) (m : LinkId) :
    ((composeSeats ns s).link m).control = (s.link m).control := by
  refine foldl_keeps (fun t => (t.link m).control) _ (fun s n => ?_) ns s
  unfold composeSeat
  split
  · rfl
  · exact judgeTarget_control _ s _ m

@[simp] theorem rejudge_control (s : State) (m : LinkId) : ((rejudge s).link m).control = (s.link m).control := by
  unfold rejudge
  simp

@[simp] theorem retag_control (p : Segment → Bool) (r : ActiveRoute) (removed : Option Nat) (s : State) (m : LinkId) :
    ((retag p r removed s).link m).control = (s.link m).control := by
  unfold retag
  simp

@[simp] theorem readCap_control (s : State) (m : LinkId) : ((readCap s).link m).control = (s.link m).control := by
  have hset : ∀ mode, ((setMode mode s).link m).control = (s.link m).control := by
    intro mode
    unfold setMode composePanelsIf
    split
    · rfl
    · dsimp only
      split <;> simp
  unfold readCap
  split
  · split
    · exact hset _
    · rfl
  · rfl

@[simp] theorem enterStop_control (s : State) (m : LinkId) : ((enterStop s).link m).control = (s.link m).control := by
  unfold enterStop
  split
  · split
    · simp [switchRoute]
    · simp
  · rfl

/-! ## What a change of the consist leaves of the route engine -/

/-- A stop entered leaves the consist and its staging, the preview and its read (R13, R15). -/
@[simp] theorem enterStop_route_keeps (s : State) :
    (enterStop s).route.consist = s.route.consist ∧ (enterStop s).route.staging = s.route.staging ∧
    (enterStop s).route.preview = s.route.preview ∧ (enterStop s).route.previewRead = s.route.previewRead := by
  unfold enterStop
  split
  · split
    · simp [switchRoute_route]
    · simp [abandonSwitch]
  · exact ⟨rfl, rfl, rfl, rfl⟩

theorem enterStop_of_not_waiting {s : State} (h : ∀ i st g copy, s.route.pendingSwitch ≠ .waiting i st g copy) :
    enterStop s = s := by
  unfold enterStop
  split
  · rename_i i st g copy hp
    exact absurd hp (h i st g copy)
  · rfl

/-! ## The served list replaced -/

theorem rederived_terminated {s : State} {old new : ActiveRoute} {a : Approach} (h : a.state = .terminated) :
    rederived s old new a = (⟨.terminated, new.served.length - 1⟩, false) := by
  simp [rederived, h]

theorem rederived_standing {s : State} {old new : ActiveRoute} {a : Approach} {c : Nat} (h : a.state = .standing)
    (hc : new.served.idxOf? (old.index a.current) = some c) :
    rederived s old new a = (⟨.standing, c⟩, false) := by
  simp [rederived, h, positionIn, hc]

/-- A train between stops, or standing at a stop the new list leaves out, has c derived from progress (R20). -/
theorem rederived_progress {s : State} {old new : ActiveRoute} {a : Approach} (h : a.state ≠ .terminated)
    (hstanding : a.state = .standing → old.index a.current ∉ new.served) :
    let c := lastAtMost (new.copy.marks new.served) (s.filter.metres + s.items.berthDistance)
    rederived s old new a = (⟨if new.last c then .terminated else .cruising, c⟩, new.last c) := by
  intro c
  have hfallback : (if new.last c then ((⟨.terminated, c⟩ : Approach), true) else (⟨.cruising, c⟩, false)) =
      (⟨if new.last c then .terminated else .cruising, c⟩, new.last c) := by
    cases new.last c <;> rfl
  rw [← hfallback]
  unfold rederived
  cases hstate : a.state with
  | terminated => exact absurd hstate h
  | standing =>
    have hnone : positionIn new.served (old.index a.current) = none := List.idxOf?_eq_none_iff.mpr (hstanding hstate)
    simp only [hnone]
    rfl
  | cruising => rfl
  | approaching => rfl
  | arriving => rfl

/-- The last position of a list of two stops or more is the one derived where progress reaches it. -/
theorem last_lastAtMost_iff {r : ActiveRoute} (h : 2 ≤ r.served.length) (limit : Nat) :
    r.last (lastAtMost (r.copy.marks r.served) limit) = true ↔
      (r.copy.stop (r.served.getD (r.served.length - 1) 0)).mark ≤ limit := by
  obtain ⟨hlt, hmet, hbeyond⟩ := lastAtMost_stops (c := r.copy) h limit
  rw [last_eq hlt, decide_eq_true_eq]
  refine ⟨fun hlast => ?_, fun hle => ?_⟩
  · have heq : lastAtMost (r.copy.marks r.served) limit = r.served.length - 1 := by omega
    rw [heq] at hmet
    exact hmet.resolve_right (by omega)
  · by_contra hshort
    have := hbeyond (r.served.length - 1) (by omega) (by omega)
    omega

/-- The re-derivation is an entry into TERMINATED for a train that neither has ended nor stands at a stop still served,
and whose progress reaches the last stop (R13, R20). -/
theorem rederived_entry {s : State} {old new : ActiveRoute} {a : Approach} (h : 2 ≤ new.served.length) :
    let entry : Prop := a.state ≠ .terminated ∧ (a.state = .standing → old.index a.current ∉ new.served) ∧
      (new.copy.stop (new.served.getD (new.served.length - 1) 0)).mark ≤ s.filter.metres + s.items.berthDistance
    (entry → rederived s old new a = (⟨.terminated, new.served.length - 1⟩, true)) ∧
    (¬ entry → (rederived s old new a).2 = false) := by
  intro entry
  have hlast := last_lastAtMost_iff h (s.filter.metres + s.items.berthDistance)
  refine ⟨fun ⟨hmoving, hleft, hmark⟩ => ?_, fun hentry => ?_⟩
  · have hterminal := hlast.mpr hmark
    have hc : lastAtMost (new.copy.marks new.served) (s.filter.metres + s.items.berthDistance) =
        new.served.length - 1 := by
      have hlt := (lastAtMost_stops (c := new.copy) h (s.filter.metres + s.items.berthDistance)).1
      have hend := of_decide_eq_true ((last_eq hlt).symm.trans hterminal)
      omega
    rw [rederived_progress hmoving hleft]
    simp only [hterminal, if_true]
    rw [hc]
  · by_cases hmoving : a.state = .terminated
    · rw [rederived_terminated hmoving]
    · by_cases hleft : a.state = .standing → old.index a.current ∉ new.served
      · rw [rederived_progress hmoving hleft]
        exact Bool.eq_false_iff.mpr fun hterminal => hentry ⟨hmoving, hleft, hlast.mp hterminal⟩
      · obtain ⟨hstanding, hserved⟩ := Classical.not_imp.mp hleft
        obtain ⟨c, hc⟩ := Option.isSome_iff_exists.mp (List.isSome_idxOf?.mpr (Classical.not_not.mp hserved))
        rw [rederived_standing hstanding hc]

/-- The served list replaced: a state like the one before with the new list and the approach re-derived, and then the
entry into TERMINATED where the re-derivation is one (R20, logs 23, 55 and 56). -/
structure ListReplaced (new : ActiveRoute) (a : Approach) (s u : State) : Prop where
  route : u.route = { s.route with active := some new, mismatch := false }
  tracker : ∃ pending, u.tracker = { s.tracker with approach := some a, standingPending := pending }
  timebase : u.timebase = s.timebase
  request : u.request = s.request
  figures : u.filter.figures = s.filter.figures
  control : ∀ m, (u.link m).control = (s.link m).control
  marks : DirtyRises s u

theorem replaceServed_enters {s : State} {old new : ActiveRoute} {a : Approach} (h : s.tracker.approach = some a) :
    ∃ u, ListReplaced new (rederived s old new a).1 s u ∧
      replaceServed old new s = if (rederived s old new a).2 then enterStop u else u := by
  refine ⟨_, ?_, by simp only [replaceServed, h]; rfl⟩
  exact {
    route := by simp
    tracker := ⟨_, by simp; rfl⟩
    timebase := by simp
    request := by simp
    figures := by simp [readCap_figures]
    control := by simp
    marks := by
      refine dirtyRises_trans ?_ (dirtyRises_composePanels _)
      refine dirtyRises_trans ?_ (dirtyRises_rejudge _)
      refine dirtyRises_trans ?_ (dirtyRises_retag _ _ _ _)
      refine dirtyRises_trans ?_ (dirtyRises_readCap _)
      refine dirtyRises_trans ?_ (dirtyRises_setTracker _ _)
      exact dirtyRises_setRoute _ s }

end Sys2Proof.Machine
end

section
/-! PROOFS. The consist taken, and the in-service field handed to the links. -/

namespace Sys2Proof.Machine

/-! ## The consist taken -/

/-- The state with a consist held and CONSIST marked, before the route in force is looked at (R4, R5). -/
def consistHeld (k : Consist) (s : State) : State := markStatus 8 (setRoute { s.route with consist := k } s)

@[simp] theorem consistHeld_keeps (k : Consist) (s : State) :
    (consistHeld k s).timebase = s.timebase ∧ (consistHeld k s).items = s.items ∧
    (consistHeld k s).request = s.request ∧ (consistHeld k s).filter = s.filter ∧
    (consistHeld k s).tracker = s.tracker ∧ (consistHeld k s).res = s.res ∧
    (consistHeld k s).notices = s.notices ∧ (∀ m, (consistHeld k s).link m = s.link m) := by
  simp [consistHeld]

@[simp] theorem consistHeld_route (k : Consist) (s : State) :
    (consistHeld k s).route = { s.route with consist := k } := by
  simp [consistHeld]

theorem dirtyRises_consistHeld (k : Consist) (s : State) : DirtyRises s (consistHeld k s) :=
  dirtyRises_trans (dirtyRises_setRoute _ s) (dirtyRises_markStatus 8 _)

theorem isDirty_consistHeld (k : Consist) (s : State) : (consistHeld k s).isDirty (.status 8) = true :=
  isDirty_markDirty _ _

theorem takeConsist_same {k : Consist} {s : State}
    (h : s.route.active = none ∨ k.portion = s.route.consist.portion) :
    takeConsist k s = composePanels (consistHeld k s) := by
  unfold takeConsist
  split
  · rename_i r hr
    exact if_pos (h.resolve_left (by simp [hr]))
  · rfl

theorem takeConsist_portion {k : Consist} {s : State} {r : ActiveRoute} (hr : s.route.active = some r)
    (h : k.portion ≠ s.route.consist.portion) :
    takeConsist k s = changePortion r k.portion (consistHeld k s) := by
  unfold takeConsist
  split
  · rename_i x hx
    rw [if_neg h, Option.some.inj (hr.symm.trans hx)]
    rfl
  · rename_i hnone
    simp [hr] at hnone

theorem changePortion_refused {r : ActiveRoute} {p : Portion} {reason : InvalidReason} (s : State)
    (h : r.copy.checkServed (r.copy.servedList p) = some reason) :
    changePortion r p s =
      composePanels (raise (.consistMismatch p reason) (setRoute { s.route with mismatch := true } s)) := by
  simp only [changePortion, h]

theorem changePortion_unchanged {r : ActiveRoute} {p : Portion} (s : State)
    (h : r.copy.checkServed (r.copy.servedList p) = none) (hs : r.copy.servedList p = r.served) :
    changePortion r p s = composePanels (rejudge (retag (fun g => g.tag != .dormant) r none
      (setRoute { s.route with mismatch := false } s))) := by
  simp only [changePortion, h, if_pos hs]

theorem changePortion_replaced {r : ActiveRoute} {p : Portion} (s : State)
    (h : r.copy.checkServed (r.copy.servedList p) = none) (hs : r.copy.servedList p ≠ r.served) :
    changePortion r p s = replaceServed r ⟨r.image, r.copy, r.copy.servedList p⟩ s := by
  simp only [changePortion, h, if_neg hs]

theorem dirtyRises_replaceServed (old new : ActiveRoute) (s : State) : DirtyRises s (replaceServed old new s) := by
  rcases h : s.tracker.approach with _ | a
  · simp only [replaceServed, h]
    exact dirtyRises_trans (dirtyRises_setRoute _ s) (dirtyRises_composePanels _)
  · obtain ⟨u, hu, hreplace⟩ := replaceServed_enters (old := old) (new := new) h
    rw [hreplace]
    split
    · exact dirtyRises_trans hu.marks (dirtyRises_enterStop u)
    · exact hu.marks

theorem dirtyRises_changePortion (r : ActiveRoute) (p : Portion) (s : State) : DirtyRises s (changePortion r p s) := by
  rcases hc : r.copy.checkServed (r.copy.servedList p) with _ | reason
  · by_cases hs : r.copy.servedList p = r.served
    · rw [changePortion_unchanged s hc hs]
      refine dirtyRises_trans ?_ (dirtyRises_composePanels _)
      refine dirtyRises_trans ?_ (dirtyRises_rejudge _)
      refine dirtyRises_trans ?_ (dirtyRises_retag _ _ _ _)
      exact dirtyRises_setRoute _ s
    · rw [changePortion_replaced s hc hs]
      exact dirtyRises_replaceServed _ _ s
  · rw [changePortion_refused s hc]
    refine dirtyRises_trans ?_ (dirtyRises_composePanels _)
    refine dirtyRises_trans ?_ (dirtyRises_raise _ _)
    exact dirtyRises_setRoute _ s

theorem dirtyRises_consistHeld_takeConsist (k : Consist) (s : State) :
    DirtyRises (consistHeld k s) (takeConsist k s) := by
  rcases hr : s.route.active with _ | r
  · rw [takeConsist_same (.inl hr)]
    exact dirtyRises_composePanels _
  · by_cases hp : k.portion = s.route.consist.portion
    · rw [takeConsist_same (.inr hp)]
      exact dirtyRises_composePanels _
    · rw [takeConsist_portion hr hp]
      exact dirtyRises_changePortion r k.portion _

@[simp] theorem replaceServed_control (old new : ActiveRoute) (s : State) (m : LinkId) :
    ((replaceServed old new s).link m).control = (s.link m).control := by
  rcases h : s.tracker.approach with _ | a
  · simp [replaceServed, h]
  · obtain ⟨u, hu, hreplace⟩ := replaceServed_enters (old := old) (new := new) h
    rw [hreplace]
    split <;> simp [hu.control]

@[simp] theorem changePortion_control (r : ActiveRoute) (p : Portion) (s : State) (m : LinkId) :
    ((changePortion r p s).link m).control = (s.link m).control := by
  unfold changePortion
  dsimp only
  (repeat' split) <;> simp

/-- A consist taken leaves every link's own sending as it was (R4). -/
@[simp] theorem takeConsist_control (k : Consist) (s : State) (m : LinkId) :
    ((takeConsist k s).link m).control = (s.link m).control := by
  unfold takeConsist
  dsimp only
  (repeat' split) <;> simp

/-- The parts of the route engine that a change of the served list leaves alone. -/
theorem replaceServed_route_keeps (old new : ActiveRoute) (s : State) :
    (replaceServed old new s).route.consist = s.route.consist ∧
    (replaceServed old new s).route.staging = s.route.staging ∧
    (replaceServed old new s).route.preview = s.route.preview ∧
    (replaceServed old new s).route.previewRead = s.route.previewRead := by
  rcases h : s.tracker.approach with _ | a
  · simp [replaceServed, h]
  · obtain ⟨u, hu, hreplace⟩ := replaceServed_enters (old := old) (new := new) h
    rw [hreplace]
    split <;> simp [hu.route]

/-- A consist taken is held, and the staged words, the preview and its read stay (R4). -/
theorem takeConsist_held (k : Consist) (s : State) :
    (takeConsist k s).route.consist = k ∧ (takeConsist k s).route.staging = s.route.staging ∧
    (takeConsist k s).route.preview = s.route.preview ∧
    (takeConsist k s).route.previewRead = s.route.previewRead := by
  rcases hr : s.route.active with _ | r
  · simp [takeConsist_same (.inl hr)]
  · by_cases hp : k.portion = s.route.consist.portion
    · simp [takeConsist_same (.inr hp)]
    · rw [takeConsist_portion hr hp]
      unfold changePortion
      dsimp only
      split
      · simp
      · split
        · simp
        · simpa using replaceServed_route_keeps r _ (consistHeld k s)

theorem changesOnly_takeConsist (k : Consist) (s : State) : ChangesOnly Part.blocks s (takeConsist k s) := by
  intro p hp
  cases p with
  | link l => cases l <;> simp [Part.blocks] at hp
  | _ => simp_all [Part.same, Part.blocks]

/-! ## The in-service field handed to the links -/

/-- The in-service field of the held consist handed to each link (R131, R132). -/
def handServices (s : State) : State := allLinks.foldl handService s

theorem changesOnly_handServices (s : State) :
    ChangesOnly [.link .a, .link .b, .link .p, .dirty] s (handServices s) := by
  intro p hp
  cases p with
  | link l => cases l <;> simp at hp
  | _ => simp_all [Part.same, handServices, allLinks]

theorem dirtyRises_handServices (s : State) : DirtyRises s (handServices s) :=
  dirtyRises_foldl dirtyRises_handService _ s

theorem handService_link_congr {s t : State} {l : LinkId} (hl : t.link l = s.link l) (hr : t.route = s.route)
    (hi : t.items = s.items) (ht : t.timebase = s.timebase) : (handService t l).link l = (handService s l).link l := by
  unfold handService judgeQuiet
  simp only [hl, hr, hi, ht]
  (repeat' split) <;> simp [hl]

/-- Each link is handed the field as if it were the only one. -/
theorem handServices_link (s : State) (l : LinkId) : (handServices s).link l = (handService s l).link l := by
  cases l with
  | a => simp [handServices, allLinks]
  | b =>
    simp only [handServices, allLinks, List.foldl, handService_other .p _ .b (by decide)]
    exact handService_link_congr (by simp) (by simp) (by simp) (by simp)
  | p =>
    simp only [handServices, allLinks, List.foldl]
    exact handService_link_congr (by simp) (by simp) (by simp) (by simp)

theorem handService_inService {s : State} (h : s.route.consist.inService = true) (l : LinkId) :
    ((handService s l).link l).quietDelay = none ∧
      ((s.link l).state = .resting → ((handService s l).link l).rouseDue = true) := by
  rw [handService, if_pos h, onLink_self]
  exact ⟨rfl, fun hs => by simp [hs]⟩

theorem handService_outOfService {s : State} (h : s.route.consist.inService = false) (l : LinkId) :
    ((handService s l).link l).quietDelay =
      if (s.link l).state = .running ∧ s.items.quietEnable = true ∧ (s.link l).quietDelay = none then
        some (s.timebase + BitVec.ofNat 32 (s.items.quietDelay * 60000))
      else (s.link l).quietDelay := by
  rw [handService, if_neg (by simp [h]), judgeQuiet]
  by_cases hq : (s.link l).state = .running ∧ s.items.quietEnable = true ∧ (s.link l).quietDelay = none
  · simp [h, hq, ms]
  · simp [h, hq]

/-! ## The commit -/

/-- A staged record of portion 1 or 2 is a consist (R4, Table 12-4). -/
theorem consistOf_eq {g : ConsistStaging} (h : g.w1.toNat % 256 = 1 ∨ g.w1.toNat % 256 = 2) :
    consistOf g = some ⟨g.w0.toNat % 256, if g.w1.toNat % 256 = 1 then .one else .two,
      if g.w2.getLsbD 0 then .reversed else .forward, g.w2.getLsbD 1⟩ := by
  have h1 : field g.w1 0 8 = g.w1.toNat % 256 := by simp [field_eq]
  have h0 : field g.w0 0 8 = g.w0.toNat % 256 := by simp [field_eq]
  rcases h with h | h <;> simp [consistOf, h1, h0, h]

theorem commitConsist_taken {v : Word} {s : State} {k : Consist} (hv : v.toNat % 256 = 0x3C)
    (hk : consistOf s.route.staging = some k) : commitConsist v s = handServices (takeConsist k s) := by
  have hmark : field v 0 8 = 0x3C := by simpa [field_eq] using hv
  simp only [commitConsist, hmark, if_true, hk]
  rfl

end Sys2Proof.Machine
end

section
/-! PROOFS. A consist committed, and the wait of a switch ended (O22). -/

namespace Sys2Proof.Machine

/-- Consist word 3 written with its marker over a record of portion 1 or 2: the consist taken, then handed to the links
(R4). -/
theorem exec_consistCommit_taken {b : Beat} {v : Word} {s : State} (r : s.bus.resetAsserted = false)
    (k : (s.passed b 0x213 v).items.softReset = false) (hv : v.toNat % 256 = 0x3C) {c : Consist}
    (hc : consistOf (s.passed b 0x213 v).route.staging = some c) :
    exec (.consistCommit b v) s = .next (handServices (takeConsist c (s.passed b 0x213 v))) := by
  rw [exec_consistCommit b v r k, commitConsist_taken hv hc]

/-- The links after a consist of a coach in service (R131, R132). -/
theorem takeConsist_inService {c : Consist} (h : c.inService = true) (s : State) (l : LinkId) :
    ((handServices (takeConsist c s)).link l).quietDelay = none ∧
      ((s.link l).state = .resting → ((handServices (takeConsist c s)).link l).rouseDue = true) := by
  have hservice : (takeConsist c s).route.consist.inService = true := by rw [(takeConsist_held c s).1, h]
  have hstate : ((takeConsist c s).link l).state = (s.link l).state :=
    (congrArg Link.state (takeConsist_control c s l) :)
  rw [handServices_link, ← hstate]
  exact handService_inService hservice l

/-- The links after a consist of a coach out of service (R131). -/
theorem takeConsist_outOfService {c : Consist} (h : c.inService = false) (s : State) (l : LinkId) :
    ((handServices (takeConsist c s)).link l).quietDelay =
      if (s.link l).state = .running ∧ s.items.quietEnable = true ∧ (s.link l).quietDelay = none then
        some (s.timebase + BitVec.ofNat 32 (s.items.quietDelay * 60000))
      else (s.link l).quietDelay := by
  have hservice : (takeConsist c s).route.consist.inService = false := by rw [(takeConsist_held c s).1, h]
  have hcontrol := takeConsist_control c s l
  have hstate : ((takeConsist c s).link l).state = (s.link l).state := (congrArg Link.state hcontrol :)
  have hquiet : ((takeConsist c s).link l).quietDelay = (s.link l).quietDelay := (congrArg Link.quietDelay hcontrol :)
  rw [handServices_link, handService_outOfService hservice, hstate, hquiet]
  simp

/-- A new portion whose list passes the checks and is not in force: the list replaced (R19, R20). -/
theorem takeConsist_replaced {c : Consist} {s : State} {r : ActiveRoute} {a : Approach}
    (hr : s.route.active = some r) (hp : c.portion ≠ s.route.consist.portion)
    (hc : r.copy.checkServed (r.copy.servedList c.portion) = none) (hs : r.copy.servedList c.portion ≠ r.served)
    (ha : s.tracker.approach = some a) :
    let new : ActiveRoute := ⟨r.image, r.copy, r.copy.servedList c.portion⟩
    let d := rederived s r new a
    ∃ u, ListReplaced new d.1 (consistHeld c s) u ∧ takeConsist c s = if d.2 then enterStop u else u := by
  intro new d
  have hd : rederived (consistHeld c s) r new a = d := by
    simp only [rederived, consistHeld_keeps, d]
  rw [takeConsist_portion hr hp, changePortion_replaced _ hc hs, ← hd]
  exact replaceServed_enters (by simpa using ha)

/-- The state with a consist held and a new list in force, nothing else of it changed (R19, R20). -/
def rerouted (c : Consist) (new : ActiveRoute) (s : State) : State :=
  { s with route := { s.route with consist := c, mismatch := false, active := some new } }

/-- To a switch, a list replaced under a taken consist is a change of the route engine alone. -/
theorem ListReplaced.alike {c : Consist} {new : ActiveRoute} {a : Approach} {s u : State}
    (h : ListReplaced new a (consistHeld c s) u) :
    AlikeForSwitch (rerouted c new s) u ∧ u.request = (rerouted c new s).request := by
  obtain ⟨pending, htracker⟩ := h.tracker
  refine ⟨⟨?_, ?_, ?_, ?_⟩, ?_⟩
  · exact h.route.trans (by simp [rerouted])
  · exact h.timebase.trans (by simp [rerouted])
  · simp [htracker, rerouted]
  · exact h.figures.trans (by simp [rerouted])
  · exact h.request.trans (by simp [rerouted])

/-- Settles O22: a stop entered by an arrival, a passing or a consist ends the wait through `enterStop`. -/
theorem entryIntoAStopEndsTheWait : Obligations.EntryIntoAStopEndsTheWait := by
  unfold Obligations.EntryIntoAStopEndsTheWait
  refine ⟨?_, ?_⟩
  · intro release x r ap image start tag copy s n p final hr hap hp hentry t
    suffices h : ∃ u, t = enterStop u ∧ (passRound release x).stopped = true ∧ AlikeForSwitch s u ∧
        u.request = s.request ∧ u.tracker.approach = some ⟨if final then .terminated else .standing, n⟩ by
      obtain ⟨u, ht, hstopped, halike, hrequest, happroach⟩ := h
      obtain ⟨habandoned, hmade⟩ := enterStop_ends_wait (t := t) halike hrequest hp
        (ht ▸ changesOnly_refl _ _) (ht ▸ dirtyRises_refl _)
      refine ⟨hstopped, fun reason hc => ?_, hmade⟩
      obtain ⟨hroute, htracker⟩ := habandoned reason hc
      exact ⟨hroute, htracker ▸ happroach⟩
    rcases hentry with ⟨hstate, hberth, hstill⟩ | ⟨hstate, hbeyond, hfinal⟩
    · have harrives : arrives s r ap release = true := by
        rw [arrives, inBerth, Filter.metres, decide_eq_true hberth]
        rcases hstill with h | h <;> simp [h]
      have hround := passRound_arrives (release := release) hr hap hstate (decide_eq_true hberth) harrives
      obtain ⟨u, harrive, halike, hrequest, happroach⟩ := arrive_enters r ap s
      exact ⟨u, (congrArg Pass.state hround).trans harrive, by rw [hround], halike, hrequest, happroach⟩
    · have hround := passRound_passes (release := release) hr hap hstate (decide_eq_true hbeyond)
      obtain ⟨u, hpass, halike, hrequest, happroach⟩ := passStop_enters (r := r) (a := ap) s hfinal
      exact ⟨u, (congrArg Pass.state hround).trans hpass, by rw [hround]; exact hfinal, halike, hrequest,
        by simp [happroach, hfinal, n]⟩
  · intro b v s r ap image start tag copy reset a g portion k served entry u run marker hportion hnew hr hap hc hs hp
    have hk : consistOf a.route.staging = some k := consistOf_eq hportion
    rw [exec_consistCommit_taken reset run marker hk]
    refine ⟨_, rfl, ?_⟩
    obtain ⟨x, hx, htake⟩ := takeConsist_replaced (c := k) hr hnew hc hs hap
    obtain ⟨hentry, hstay⟩ := rederived_entry (s := a) (old := r) (a := ap)
      (new := ⟨r.image, r.copy, served⟩) (two_le_of_checkServed hc)
    have hframe := changesOnly_handServices (takeConsist k a)
    obtain ⟨halike, hrequest⟩ := hx.alike
    have hrise := dirtyRises_handServices (takeConsist k a)
    by_cases hyes : entry
    · rw [hentry hyes] at hx htake
      rw [if_pos rfl] at htake
      rw [htake] at hframe hrise ⊢
      obtain ⟨habandoned, hmade⟩ := enterStop_ends_wait halike hrequest hp hframe hrise
      refine ⟨fun hno => absurd hyes hno, fun reason _ hbad => ?_, fun _ hgood => hmade hgood⟩
      obtain ⟨hend, htracker⟩ := habandoned reason hbad
      obtain ⟨pending, happroach⟩ := hx.tracker
      exact ⟨hend, by rw [htracker, happroach]⟩
    · rw [hstay hyes, if_neg Bool.false_ne_true] at htake
      refine ⟨fun _ => ?_, fun _ h => absurd h hyes, fun h => absurd h hyes⟩
      rw [hframe .route (by simp), hframe .request (by simp), htake]
      exact ⟨halike.route, hrequest⟩

end Sys2Proof.Machine
end

section
/-! PROOFS. The consist taken on an active route (O36). -/

namespace Sys2Proof.Machine

theorem takeConsist_refused {c : Consist} {s : State} {r : ActiveRoute} {reason : InvalidReason}
    (hr : s.route.active = some r) (hp : c.portion ≠ s.route.consist.portion)
    (hc : r.copy.checkServed (r.copy.servedList c.portion) = some reason) :
    let t := takeConsist c s
    t.route = { s.route with consist := c, mismatch := true } ∧ t.tracker = s.tracker ∧ t.filter = s.filter ∧
      t.res = s.res ∧ t.notices = s.given (.consistMismatch c.portion reason) := by
  intro t
  have ht : t = composePanels (raise (.consistMismatch c.portion reason)
      (setRoute { (consistHeld c s).route with mismatch := true } (consistHeld c s))) :=
    (takeConsist_portion hr hp).trans (changePortion_refused _ hc)
  rw [ht]
  simp [raise_notices, State.given]

theorem takeConsist_unchanged {c : Consist} {s : State} {r : ActiveRoute}
    (hr : s.route.active = some r) (hp : c.portion ≠ s.route.consist.portion)
    (hc : r.copy.checkServed (r.copy.servedList c.portion) = none) (hs : r.copy.servedList c.portion = r.served) :
    let t := takeConsist c s
    t.route = { s.route with consist := c, mismatch := false } ∧ t.tracker = s.tracker ∧ t.filter = s.filter := by
  intro t
  have ht := (takeConsist_portion hr hp).trans (changePortion_unchanged _ hc hs)
  simp [t, ht]

/-- A list replaced while no switch waits: the route in force, and what the tracker and the filter keep (R20). -/
theorem takeConsist_rederives {c : Consist} {s : State} {r : ActiveRoute} {a : Approach}
    (hr : s.route.active = some r) (hp : c.portion ≠ s.route.consist.portion)
    (hc : r.copy.checkServed (r.copy.servedList c.portion) = none) (hs : r.copy.servedList c.portion ≠ r.served)
    (ha : s.tracker.approach = some a) (hw : ∀ i st g copy, s.route.pendingSwitch ≠ .waiting i st g copy) :
    let new : ActiveRoute := ⟨r.image, r.copy, r.copy.servedList c.portion⟩
    let t := takeConsist c s
    t.route = (rerouted c new s).route ∧ t.filter.progress = s.filter.progress ∧
      ∃ pending, t.tracker =
        { s.tracker with approach := some (rederived s r new a).1, standingPending := pending } := by
  intro new t
  obtain ⟨u, hu, htake⟩ := takeConsist_replaced hr hp hc hs ha
  obtain ⟨halike, -⟩ := hu.alike
  have hstop : enterStop u = u := enterStop_of_not_waiting (by rw [halike.route]; exact hw)
  have ht : t = u := by rw [hstop, ite_self] at htake; exact htake
  obtain ⟨pending, htracker⟩ := hu.tracker
  rw [ht]
  refine ⟨halike.route, ?_, pending, by simpa using htracker⟩
  rw [Filter.eq_of_figures halike.figures]
  rfl

/-- Settles O36: the frame and the links through `handServices`, the route through the branches of `takeConsist`. -/
theorem consistIsTakenAndReservesTheRoute : Obligations.ConsistIsTakenAndReservesTheRoute := by
  unfold Obligations.ConsistIsTakenAndReservesTheRoute
  intro b v s reset a g portion k run marker hportion
  have hk : consistOf a.route.staging = some k := consistOf_eq hportion
  rw [exec_consistCommit_taken reset run marker hk]
  have hframe := changesOnly_handServices (takeConsist k a)
  have hrise := dirtyRises_handServices (takeConsist k a)
  have htaken := dirtyRises_consistHeld_takeConsist k a
  have hroute := hframe .route (by simp)
  have htracker := hframe .tracker (by simp)
  have hfilter := hframe .filter (by simp)
  have hres := hframe .res (by simp)
  have hnotices := hframe .notices (by simp)
  obtain ⟨hconsist, hstaging, hpreview, hpreviewRead⟩ := takeConsist_held k a
  refine ⟨_, rfl, changesOnly_trans (changesOnly_takeConsist k a) (changesOnly_mono (by simp [Part.blocks]) hframe),
    dirtyRises_trans (dirtyRises_trans (dirtyRises_consistHeld k a) htaken) hrise, ?_, ?_, ?_, ?_,
    hrise _ (htaken _ (isDirty_consistHeld k a)), fun h => takeConsist_inService h a,
    fun h => takeConsist_outOfService h a, fun hsame => ?_, fun r hr hnew => ⟨fun reason hc => ?_, fun hc hs => ?_,
    fun ap hc hs hap hw => ?_⟩⟩
  · rw [hroute, hconsist]
  · rw [hroute, hstaging]
  · rw [hroute, hpreview]
  · rw [hroute, hpreviewRead]
  · rw [hroute, htracker, hfilter, hres, takeConsist_same hsame]
    simp
  · rw [hroute, htracker, hfilter, hres, hnotices]
    exact takeConsist_refused hr hnew hc
  · rw [hroute, htracker, hfilter]
    exact takeConsist_unchanged hr hnew hc hs
  · obtain ⟨hrerouted, hprogress, pending, happroach⟩ := takeConsist_rederives (c := k) hr hnew hc hs hap hw
    rw [hroute, htracker, hfilter, happroach]
    refine ⟨hrerouted, hprogress, rfl, rfl, rfl, fun hstate => ?_, fun c hstate _ hc => ?_, fun hstate hleft => ?_⟩
    · rw [rederived_terminated hstate]
    · rw [rederived_standing hstate hc]
    · obtain ⟨hlt, hmet, hbeyond⟩ := lastAtMost_stops (c := r.copy) (two_le_of_checkServed hc)
        (a.filter.metres + a.items.berthDistance)
      rw [rederived_progress hstate hleft]
      refine ⟨_, ?_, hlt, hmet, hbeyond⟩
      rw [last_eq hlt]
      simp only [decide_eq_true_eq]
      rfl

end Sys2Proof.Machine
end

section
/-! PROOFS. Words staged, and words that are not taken (O29). -/

namespace Sys2Proof.Machine

theorem commitReport_unmarked {v : Word} (h : v.toNat % 256 ≠ 0xA7) (s : State) :
    commitReport v s = bump .mailboxBad s := if_neg (by simpa [field_eq] using h)

/-- A staged record of neither portion 1 nor portion 2 is no consist (R4). -/
theorem consistOf_eq_none {g : ConsistStaging} (h1 : g.w1.toNat % 256 ≠ 1) (h2 : g.w1.toNat % 256 ≠ 2) :
    consistOf g = none := by
  have hfield : field g.w1 0 8 = g.w1.toNat % 256 := by simp [field_eq]
  simp [consistOf, hfield, h1, h2]

theorem commitConsist_unmarked {v : Word} (h : v.toNat % 256 ≠ 0x3C) (s : State) :
    commitConsist v s = bump .mailboxBad s := if_neg (by simpa [field_eq] using h)

theorem commitConsist_unformed {s : State} (h : consistOf s.route.staging = none) (v : Word) :
    commitConsist v s = bump .mailboxBad s := by
  unfold commitConsist
  split
  · rw [h]
  · rfl

theorem commitJournal_unmarked {v : Word} (h : v.toNat % 256 ≠ 0xC5) (slot : Fin 512) (s : State) :
    commitJournal slot v s = s := if_neg (by simpa [field_eq] using h)

theorem takeConfig_oddParity {v : Word} (h : evenParity v = false) (w : Fin 32) (s : State) :
    takeConfig w v s = bump .configParity s := if_pos (by simp [h])

theorem stageReport_eq (g : ReportStaging) (w : Fin 5) (v : Word) :
    stageReport g w v = ⟨if w = 0 then v else g.w0, if w = 1 then v else g.w1, if w = 2 then v else g.w2,
      if w = 3 then v else g.w3, if w = 4 then v else g.w4⟩ := by
  fin_cases w <;> rfl

theorem stageConsist_eq (g : ConsistStaging) (w : Fin 3) (v : Word) :
    stageConsist g w v = ⟨if w = 0 then v else g.w0, if w = 1 then v else g.w1, if w = 2 then v else g.w2⟩ := by
  fin_cases w <;> rfl

/-- Mailbox word 5 written is the staged report committed once the word has passed (R21). -/
theorem exec_positionReportCommit (b : Beat) (v : Word) {s : State} (r : s.bus.resetAsserted = false)
    (k : (s.passed b 0x20D v).items.softReset = false) :
    exec (.positionReportCommit b v) s = .next (commitReport v (s.passed b 0x20D v)) :=
  congrArg Host.Outcome.next (onBus_captured (w := .mailbox 5) rfl r k)

/-- Settles O29, word by word: each captured value goes to its block, which stages it or leaves it. -/
theorem fieldWordsAreStagedAndBadWordsAreNotTaken : Obligations.FieldWordsAreStagedAndBadWordsAreNotTaken := by
  unfold Obligations.FieldWordsAreStagedAndBadWordsAreNotTaken
  refine ⟨?_, ?_, ?_, ?_, ?_, ?_⟩
  · intro b w v s r a g k
    rw [← stageReport_eq g w v]
    refine congrArg Host.Outcome.next ((onBus_captured (w := .mailbox (w.castLE (by omega))) rfl r k).trans ?_)
    exact dif_pos w.isLt
  · intro b w v s r a g k
    rw [← stageConsist_eq g w v]
    refine congrArg Host.Outcome.next ((onBus_captured (w := .consist (w.castLE (by omega))) rfl r k).trans ?_)
    exact dif_pos w.isLt
  · intro b w v s r a k hodd
    have hword : ∀ i : Instr, busOpOf s i = some (b, .write (.captured (.config w)) fullWord v) →
        Host.Outcome.next (onBus i s) = (.next (bump .configParity a) : Host.Outcome State Fault Refusal) := fun i hi =>
      congrArg Host.Outcome.next ((onBus_captured hi r k).trans (takeConfig_oddParity hodd w a))
    refine ⟨hword _ rfl, ?_, ?_, ?_⟩
    · rintro rfl
      exact ⟨hword (.linkEnable b v) rfl, hword (.linkDisable b v) rfl⟩
    · rintro rfl
      exact hword (.quietWrite b v) rfl
    · rintro rfl
      exact hword (.berthDistanceWrite b v) rfl
  · intro b v s r a k hmark
    rw [exec_positionReportCommit b v r k, commitReport_unmarked hmark]
  · intro b v s r a portion k hbad
    rw [exec_consistCommit b v r k]
    rcases hbad with hmark | ⟨h1, h2⟩
    · rw [commitConsist_unmarked hmark]
    · rw [commitConsist_unformed (consistOf_eq_none h1 h2)]
  · intro b slot v s r a k hmark
    have hoffset : capturedOffset (.commit slot) = 0x4007 + 8 * slot.val := by
      simp only [capturedOffset]
      omega
    have hcapture := onBus_captured (i := .journalCommit b slot v) (b := b) (w := .commit slot) (v := v) rfl r
    rw [hoffset] at hcapture
    exact congrArg Host.Outcome.next ((hcapture k).trans (commitJournal_unmarked hmark slot a))

end Sys2Proof.Machine
end

section
/-! PROOFS. The counters: which of them an operation counts up, and that they stay in their range. -/

namespace Sys2Proof.Machine

/-! ## Counters counted -/

/-- The counters are the twenty of Table 9-3, each within its 16 bits (R144). -/
structure CountersFit (counts : List Nat) : Prop where
  length : counts.length = 20
  bounded : ∀ n ∈ counts, n ≤ 65535

/-- What changes the counters by counted events of some of them only (R144). -/
structure Counted (ps : Set Counter) (s t : State) : Prop where
  others : ∀ c ∉ ps, t.count c = s.count c
  fit : CountersFit s.status.counts → CountersFit t.status.counts

/-- The counters of notices shed and notices lost (R137). -/
def noticeCounters : Set Counter := {.noticeShed, .noticeLost}

theorem counted_of_counts_eq {ps : Set Counter} {s t : State} (h : t.status.counts = s.status.counts) :
    Counted ps s t where
  others c _ := by rw [State.count, State.count, h]
  fit k := h ▸ k

theorem Counted.refl (ps : Set Counter) (s : State) : Counted ps s s := counted_of_counts_eq rfl

theorem Counted.trans {ps : Set Counter} {s t u : State} (h : Counted ps s t) (k : Counted ps t u) :
    Counted ps s u where
  others c hc := (k.others c hc).trans (h.others c hc)
  fit hs := k.fit (h.fit hs)

theorem counted_foldl {α : Type} {ps : Set Counter} {f : State → α → State} (h : ∀ s x, Counted ps s (f s x))
    (xs : List α) (s : State) : Counted ps s (xs.foldl f s) := by
  induction xs generalizing s with
  | nil => exact Counted.refl ps s
  | cons x xs ih => exact (h s x).trans (ih (f s x))

theorem counterAt_word (c : Counter) : counterAt c.word.val = some c := by cases c <;> rfl

/-- Each counter has a place of its own in Table 9-3. -/
theorem counter_index_injective {c d : Counter} (h : c.index = d.index) : c = d := by
  have hword : c.word = d.word := by rw [Counter.word, Counter.word]; simp only [h]
  exact Option.some.inj ((counterAt_word c).symm.trans ((congrArg (fun w => counterAt w.val) hword).trans
    (counterAt_word d)))

theorem countersFit_setCount {c : Counter} {n : Nat} {s : State} (h : CountersFit s.status.counts) (hn : n ≤ 65535) :
    CountersFit (setCount c n s).status.counts where
  length := by simpa [setCount] using h.length
  bounded m hm := by
    rcases List.mem_or_eq_of_mem_set hm with hm | rfl
    · exact h.bounded m hm
    · exact hn

theorem count_le_of_fit {s : State} (h : CountersFit s.status.counts) (c : Counter) : s.count c ≤ 65535 := by
  have hlt : c.index.val < s.status.counts.length := by rw [h.length]; exact c.index.isLt
  rw [State.count, List.getD_eq_getElem _ _ hlt]
  exact h.bounded _ (List.getElem_mem hlt)

theorem counted_bump {ps : Set Counter} {c : Counter} (h : c ∈ ps) (s : State) : Counted ps s (bump c s) := by
  unfold bump
  split
  · rename_i hroom
    refine Counted.trans (t := setCount c (s.count c + 1) s) ⟨fun d hd => ?_, fun k => ?_⟩
      (counted_of_counts_eq (by simp))
    · exact setCount_other c d (fun e => hd (counter_index_injective e ▸ h)) _ s
    · exact countersFit_setCount k (by omega)
  · exact Counted.refl ps s

/-- The count of a counted event, on the twenty counters of Table 9-3 (R144). -/
theorem count_bump {s : State} (h : s.status.counts.length = 20) (c : Counter) :
    (bump c s).count c = oneMore (s.count c) := by
  unfold bump oneMore
  split
  · rw [State.count, (markStatus_keeps _ _).2.2.2.2.2.2.2.2.2.2.2.2.1]
    exact setCount_self c _ s (by rw [h]; exact c.index.isLt)
  · rfl

theorem counted_raise (n : Notice) (s : State) : Counted noticeCounters s (raise n s) := by
  unfold raise
  split
  · exact counted_bump (by simp [noticeCounters]) s
  · split
    · exact counted_bump (by simp [noticeCounters]) s
    · exact counted_of_counts_eq rfl

theorem counted_raiseIf (b : Bool) (n : Notice) (s : State) : Counted noticeCounters s (raiseIf b n s) := by
  unfold raiseIf
  split
  · exact counted_raise n s
  · exact Counted.refl _ s

theorem counted_raiseSome (n : Option Notice) (s : State) : Counted noticeCounters s (raiseSome n s) := by
  cases n with
  | none => exact Counted.refl _ s
  | some n => exact counted_raise n s

/-! ## Modes, segments and switches -/

section
variable {ps : Set Counter}

theorem counted_setRoute (r : Route) (s : State) : Counted ps s (setRoute r s) := counted_of_counts_eq (by simp)

theorem counted_setFilter (f : Filter) (s : State) : Counted ps s (setFilter f s) := counted_of_counts_eq (by simp)

theorem counted_setTracker (k : Tracker) (s : State) : Counted ps s (setTracker k s) := counted_of_counts_eq (by simp)

theorem counted_setSeats (es : List SeatEntry) (s : State) : Counted ps s (setSeats es s) :=
  counted_of_counts_eq (by simp)

theorem counted_pruneReleases (s : State) : Counted ps s (pruneReleases s) := counted_of_counts_eq (by simp)

theorem counted_composeSeats (ns : List Nat) (s : State) : Counted ps s (composeSeats ns s) :=
  counted_of_counts_eq (by simp)

theorem counted_composePanels (s : State) : Counted ps s (composePanels s) := counted_of_counts_eq (by simp)

theorem counted_composePanelsIf (b : Bool) (s : State) : Counted ps s (composePanelsIf b s) :=
  counted_of_counts_eq (by simp)

theorem counted_rejudge (s : State) : Counted ps s (rejudge s) := counted_of_counts_eq (by simp)

end

theorem counted_setMode (m : Mode) (s : State) : Counted noticeCounters s (setMode m s) := by
  unfold setMode
  split
  · exact Counted.refl _ s
  · exact ((counted_setFilter _ s).trans (counted_raiseSome _ _)).trans (counted_composePanelsIf _ _)

theorem counted_readCap (s : State) : Counted noticeCounters s (readCap s) := by
  unfold readCap
  split
  · split
    · exact counted_setMode _ s
    · exact Counted.refl _ s
  · exact Counted.refl _ s

theorem counted_raiseMisrouted (p : Segment → Bool) (r : ActiveRoute) (es : List SeatEntry) (s : State) :
    Counted noticeCounters s (raiseMisrouted p r es s) :=
  counted_foldl (fun s _ => counted_foldl (fun s _ => counted_raise _ s) _ s) _ s

theorem counted_retag (p : Segment → Bool) (r : ActiveRoute) (removed : Option Nat) (s : State) :
    Counted noticeCounters s (retag p r removed s) :=
  ((((counted_setSeats _ s).trans (counted_raiseMisrouted _ _ _ _)).trans (counted_pruneReleases _)).trans
    (counted_setSeats _ _)).trans (counted_composeSeats _ _)

theorem counted_switchRoute (image : ImageId) (start : Start) (copy : RouteCopy) (s : State) :
    Counted noticeCounters s (switchRoute image start copy s) := by
  unfold switchRoute
  refine Counted.trans ?_ (counted_raise _ _)
  refine Counted.trans ?_ (counted_composePanels _)
  refine Counted.trans ?_ (counted_rejudge _)
  refine Counted.trans ?_ (counted_retag _ _ _ _)
  refine Counted.trans ?_ (counted_readCap _)
  refine Counted.trans ?_ (counted_setFilter _ _)
  exact (counted_setRoute _ s).trans (counted_setTracker _ _)

theorem counted_enterStop (s : State) : Counted noticeCounters s (enterStop s) := by
  unfold enterStop
  split
  · split
    · exact counted_switchRoute _ _ _ s
    · exact counted_of_counts_eq (by simp)
  · exact Counted.refl _ s

end Sys2Proof.Machine
end

section
/-! PROOFS. What an evaluation carries over: its acts leave the filter's figures, the route and the still run count,
but for the switch that an entry into a stop can make. -/

namespace Sys2Proof.Machine

/-! ## What is carried over -/

/-- What only adds marks, and counts notices only. -/
structure Rises (s t : State) : Prop where
  marks : DirtyRises s t
  counted : Counted noticeCounters s t

theorem Rises.refl (s : State) : Rises s s := ⟨dirtyRises_refl s, .refl _ s⟩

theorem Rises.trans {s t u : State} (h : Rises s t) (k : Rises t u) : Rises s u :=
  ⟨dirtyRises_trans h.marks k.marks, h.counted.trans k.counted⟩

theorem rises_setFilter (f : Filter) (s : State) : Rises s (setFilter f s) :=
  ⟨dirtyRises_setFilter f s, counted_setFilter f s⟩

theorem rises_enterStop (s : State) : Rises s (enterStop s) := ⟨dirtyRises_enterStop s, counted_enterStop s⟩

theorem AlikeForSwitch.refl (s : State) : AlikeForSwitch s s := ⟨rfl, rfl, rfl, rfl⟩

theorem AlikeForSwitch.trans {s t u : State} (h : AlikeForSwitch s t) (k : AlikeForSwitch t u) : AlikeForSwitch s u :=
  ⟨k.route.trans h.route, k.timebase.trans h.timebase, k.stillRun.trans h.stillRun, k.figures.trans h.figures⟩

/-- What carries the route, the timebase, the still run count and the filter's figures over, and rises besides. -/
structure Carried (s u : State) : Prop where
  alike : AlikeForSwitch s u
  rises : Rises s u

theorem Carried.refl (s : State) : Carried s s := ⟨.refl s, .refl s⟩

theorem Carried.trans {s t u : State} (h : Carried s t) (k : Carried t u) : Carried s u :=
  ⟨h.alike.trans k.alike, h.rises.trans k.rises⟩

theorem carried_setTracker {k : Tracker} {s : State} (h : k.stillRun = s.tracker.stillRun) :
    Carried s (setTracker k s) :=
  ⟨⟨by simp, by simp, by simpa using h, by simp⟩, dirtyRises_setTracker k s, counted_setTracker k s⟩

theorem carried_raise (n : Notice) (s : State) : Carried s (raise n s) :=
  ⟨⟨by simp, by simp, by simp, by simp⟩, dirtyRises_raise n s, counted_raise n s⟩

theorem carried_raiseIf (b : Bool) (n : Notice) (s : State) : Carried s (raiseIf b n s) := by
  unfold raiseIf
  split
  · exact carried_raise n s
  · exact .refl s

theorem carried_composePanels (s : State) : Carried s (composePanels s) :=
  ⟨⟨by simp, by simp, by simp, by simp⟩, dirtyRises_composePanels s, counted_composePanels s⟩

theorem carried_rejudge (s : State) : Carried s (rejudge s) :=
  ⟨⟨by simp, by simp, by simp, by simp⟩, dirtyRises_rejudge s, counted_rejudge s⟩

theorem carried_setMode (m : Mode) (s : State) : Carried s (setMode m s) :=
  ⟨⟨by simp, by simp, by simp, setMode_figures m s⟩, dirtyRises_setMode m s, counted_setMode m s⟩

theorem carried_moveBy (e : MotionEvent) (s : State) : Carried s (moveBy e s) := carried_setMode _ s

theorem carried_readCap (s : State) : Carried s (readCap s) :=
  ⟨⟨by simp, by simp, by simp, readCap_figures s⟩, dirtyRises_readCap s, counted_readCap s⟩

theorem dirtyRises_setReleaseList (rs : List ReleaseEntry) (s : State) : DirtyRises s (setReleaseList rs s) :=
  dirtyRises_trans (dirtyRises_of_dirty_eq rfl) (dirtyRises_markMany _ _)

theorem dirtyRises_departed (c : Nat) (k : Lock) (s : State) : DirtyRises s (departed c k s) := by
  unfold departed
  split
  · split
    · exact dirtyRises_setReleaseList _ s
    · exact dirtyRises_refl s
  · exact dirtyRises_refl s

theorem carried_departed (c : Nat) (k : Lock) (s : State) : Carried s (departed c k s) :=
  ⟨⟨by simp, by simp, by simp, by simp⟩, dirtyRises_departed c k s, counted_of_counts_eq (by simp)⟩

/-! ## Transitions -/

theorem carried_announceNext (r : ActiveRoute) (n : Nat) (s : State) : Carried s (announceNext r n s) := by
  unfold announceNext
  split
  · exact .refl s
  · refine Carried.trans ?_ (carried_raiseIf _ _ _)
    refine Carried.trans ?_ (carried_raise _ _)
    exact carried_setTracker rfl

theorem carried_setApproach (a : Approach) (s : State) : Carried s (setApproach a s) := carried_setTracker rfl

theorem carried_beginApproach (r : ActiveRoute) (a : Approach) (s : State) : Carried s (beginApproach r a s) :=
  ((carried_setApproach _ s).trans (carried_composePanels _)).trans (carried_announceNext _ _ _)

theorem carried_beginArriving (r : ActiveRoute) (a : Approach) (s : State) : Carried s (beginArriving r a s) := by
  have hbegin := (carried_setApproach { a with state := .arriving } s).trans (carried_composePanels _)
  unfold beginArriving
  dsimp only
  split
  · exact hbegin
  · refine Carried.trans ?_ (carried_raise _ _)
    exact hbegin.trans (carried_setTracker rfl)

theorem carried_handCurrent (s : State) : Carried s (handCurrent s) :=
  ((carried_rejudge s).trans (carried_composePanels _)).trans (carried_readCap _)

theorem carried_depart (r : ActiveRoute) (a : Approach) (s : State) : Carried s (depart r a s) := by
  have hdepart (k : Approach) (n : Notice) (c : Nat) (lock : Lock) :
      Carried s (departed c lock (composePanels (raise n (setApproach k s)))) :=
    (((carried_setApproach k s).trans (carried_raise _ _)).trans (carried_composePanels _)).trans
      (carried_departed _ _ _)
  unfold depart
  dsimp only
  split
  · exact (hdepart _ _ _ _).trans (carried_announceNext _ _ _)
  · exact hdepart _ _ _ _

/-- What an evaluation's transition reaches: a state carried over, or the entry into a stop made from one. -/
def Reached (s t : State) : Prop := ∃ u, Carried s u ∧ (t = u ∨ t = enterStop u)

theorem Carried.reached {s u : State} (h : Carried s u) : Reached s u := ⟨u, h, .inl rfl⟩

theorem reached_arrive (r : ActiveRoute) (a : Approach) (s : State) : Reached s (arrive r a s) := by
  refine ⟨_, ?_, .inr rfl⟩
  refine Carried.trans ?_ (carried_handCurrent _)
  refine Carried.trans ?_ (carried_raiseIf _ _ _)
  exact carried_setTracker rfl

/-- A passing up to the entry into the stop passed (R50). -/
theorem carried_passed {k : Tracker} {s : State} (h : k.stillRun = s.tracker.stillRun) (n : Notice) (c : Nat)
    (lock : Lock) : Carried s (departed c lock (handCurrent (raise n (setTracker k s)))) :=
  (((carried_setTracker h).trans (carried_raise _ _)).trans (carried_handCurrent _)).trans (carried_departed _ _ _)

theorem reached_passStop (r : ActiveRoute) (a : Approach) (s : State) : Reached s (passStop r a s) := by
  cases hfinal : r.last (a.current + 1) with
  | true =>
    simp only [passStop, hfinal, if_true]
    refine ⟨_, ?_, .inr rfl⟩
    refine carried_passed ?_ _ _ _
    rfl
  | false =>
    simp only [passStop, hfinal, Bool.false_eq_true, if_false]
    refine Carried.reached ?_
    refine carried_passed ?_ _ _ _
    rfl

/-- A round of the pass makes one transition, or none (R42). -/
theorem reached_passRound (release : Bool) (x : Pass) : Reached x.state (passRound release x).state := by
  have hstay : Reached x.state x.state := (Carried.refl _).reached
  unfold passRound
  dsimp only
  split
  · rename_i r a hr ha
    split
    case h_1 => split; exacts [(carried_depart r a _).reached, hstay]
    case h_2 =>
      split
      · exact reached_passStop r a _
      · split; exacts [(carried_beginArriving r a _).reached, hstay]
    case h_3 =>
      split
      · exact reached_passStop r a _
      · split; exacts [reached_arrive r a _, hstay]
    case h_4 =>
      split
      · exact reached_passStop r a _
      · split; exacts [(carried_beginApproach r a _).reached, hstay]
    case h_5 => exact hstay
  · exact hstay

/-! ## The arithmetic and the evaluations -/

theorem carried_showDelay (b : Bool) (code : Nat) (s : State) : Carried s (showDelay b code s) := by
  unfold showDelay
  split
  · exact .refl s
  · dsimp only
    split
    · refine Carried.trans ?_ (carried_composePanels _)
      refine Carried.trans ?_ (carried_raise _ _)
      exact carried_setTracker rfl
    · exact .refl s

theorem carried_arithmetic (b : Bool) (s : State) : Carried s (arithmetic b s) := by
  unfold arithmetic
  split
  · split
    · refine Carried.trans ?_ (carried_showDelay _ _ _)
      exact carried_setTracker rfl
    · refine Carried.trans ?_ (carried_showDelay _ _ _)
      exact carried_setTracker rfl
  · exact .refl s

theorem carried_doorsAway (release : Bool) (x : Pass) : Carried x.state (doorsAway release x) := by
  unfold doorsAway
  dsimp only
  split
  · exact carried_raiseIf _ _ _
  · exact .refl _

theorem carried_evaluateCoast (s : State) : Carried s (evaluateCoast s) := by
  unfold evaluateCoast
  split
  · rename_i r a hr ha
    refine Carried.trans ?_ (carried_arithmetic _ _)
    cases a.state with
    | standing => dsimp only; split; exacts [carried_depart r a s, .refl s]
    | cruising => dsimp only; split; exacts [carried_beginApproach r a s, .refl s]
    | approaching => exact .refl s
    | arriving => exact .refl s
    | terminated => exact .refl s
  · exact .refl s

/-- A property of states that what an evaluation carries over keeps, and that the entry into a stop keeps. -/
structure KeptByPass (P : State → Prop) : Prop where
  carried : ∀ {s u}, Carried s u → P s → P u
  stop : ∀ {s}, P s → P (enterStop s)

section
variable {P : State → Prop}

theorem KeptByPass.reached (h : KeptByPass P) {s t : State} (hr : Reached s t) (hs : P s) : P t := by
  obtain ⟨u, hu, rfl | rfl⟩ := hr
  · exact h.carried hu hs
  · exact h.stop (h.carried hu hs)

theorem KeptByPass.runPass (h : KeptByPass P) (release : Bool) (n : Nat) {x : Pass} (hx : P x.state) :
    P (runPass release n x).state := by
  induction n generalizing x with
  | zero => exact hx
  | succ n ih =>
    unfold Machine.runPass
    split
    · exact hx
    · exact ih (h.reached (reached_passRound release x) hx)

/-- The tracker as a report evaluation finds it: the still run count moved, and the estimated flag held (R41, R45). -/
def Tracker.counted (s : State) : Tracker :=
  { s.tracker with stillRun := nextStill s, heldEstimated := s.filter.estimated }

/-- A report evaluation keeps what its transitions keep, from the state whose still run count has moved. -/
theorem KeptByPass.evaluateReport (h : KeptByPass P) (release : Bool) {s : State}
    (hs : P (setTracker (Tracker.counted s) s)) : P (evaluateReport release s) := by
  unfold Machine.evaluateReport
  dsimp only
  split
  · exact hs
  · exact h.carried (carried_arithmetic _ _) (h.carried (carried_doorsAway _ _) (h.runPass _ _ hs))

end

end Sys2Proof.Machine
end

section
/-! PROOFS. A report classified, judged and evaluated: what each step of R29 leaves of the filter. -/

namespace Sys2Proof.Machine

/-! ## What an evaluation leaves of the filter -/

/-- The filter but for what a switch and the coast cap can change: the motion mode, the coast-step time, progress and
the pending reference (R14, R24, R31, R32). -/
def Filter.held (f : Filter) : Filter :=
  { f with mode := .tracking, coastStep := none, progress := 0, referencePending := false }

theorem Filter.held_of_figures {f g : Filter} (h : g.figures = f.figures) : g.held = f.held :=
  (congrArg Filter.held h :)

theorem enterStop_held (s : State) : (enterStop s).filter.held = s.filter.held := by
  unfold enterStop
  split
  · split
    · rw [Filter.held_of_figures (switchRoute_figures _ _ _ s)]
      rfl
    · simp
  · rfl

theorem enterStop_stillRun (s : State) : (enterStop s).tracker.stillRun = s.tracker.stillRun := by
  unfold enterStop
  split
  · split
    · rw [switchRoute_tracker]
      rfl
    · simp
  · rfl

theorem keptByPass_held (f : Filter) : KeptByPass fun s => s.filter.held = f where
  carried h hs := (Filter.held_of_figures h.alike.figures).trans hs
  stop hs := (enterStop_held _).trans hs

theorem keptByPass_stillRun (n : Nat) : KeptByPass fun s => s.tracker.stillRun = n where
  carried h hs := h.alike.stillRun.trans hs
  stop hs := (enterStop_stillRun _).trans hs

theorem keptByPass_rises (s : State) : KeptByPass (Rises s) where
  carried h hs := hs.trans h.rises
  stop hs := hs.trans (rises_enterStop _)

theorem evaluateReport_held (release : Bool) (s : State) :
    (evaluateReport release s).filter.held = s.filter.held :=
  (keptByPass_held s.filter.held).evaluateReport release (by simp)

theorem evaluateReport_stillRun (release : Bool) (s : State) :
    (evaluateReport release s).tracker.stillRun = nextStill s :=
  (keptByPass_stillRun (nextStill s)).evaluateReport release (by simp [Tracker.counted])

theorem rises_evaluateReport (release : Bool) (s : State) : Rises s (evaluateReport release s) :=
  (keptByPass_rises s).evaluateReport release ⟨dirtyRises_setTracker _ s, counted_setTracker _ s⟩

/-! ## The classes of a report -/

theorem interval_eq_zero_iff (o : PreviousReport) (r : Report) : interval o r = 0 ↔ r.time = o.time := by
  rw [interval, ← BitVec.toNat_zero (w := 32), ← BitVec.toNat_eq, BitVec.sub_eq_iff_eq_add, BitVec.zero_add]

theorem classify_duplicate_iff {i : Items} {f : Filter} {r : Report} :
    classify i f r = .duplicate ↔ ∃ o, f.previous = some o ∧ r.time = o.time := by
  rcases ho : f.previous with _ | o
  · simp [classify, ho]
  · by_cases hzero : interval o r = 0
    · simp [classify, ho, hzero, ← interval_eq_zero_iff o r]
    · have hne : r.time ≠ o.time := fun h => hzero ((interval_eq_zero_iff o r).mpr h)
      simp only [classify, ho, if_neg hzero, Option.some.injEq, exists_eq_left', hne, iff_false]
      (repeat' split) <;> simp

theorem classify_restart {i : Items} {f : Filter} {r : Report} {o : PreviousReport} (ho : f.previous = some o)
    (hgap : i.maxGap < (r.time - o.time).toNat) : classify i f r = .restart := by
  have hgap : i.maxGap < interval o r := hgap
  have hzero : interval o r ≠ 0 := Nat.ne_of_gt (Nat.zero_lt_of_lt hgap)
  simp [classify, ho, hzero, hgap]

theorem classify_reference {i : Items} {f : Filter} {r : Report} (hnew : ∀ o, f.previous = some o → r.time ≠ o.time)
    (h : f.previous = none ∨ ∃ o, f.previous = some o ∧ (r.time - o.time).toNat ≤ i.maxGap ∧
      f.referencePending = true) : classify i f r = .reference := by
  rcases h with ho | ⟨o, ho, hgap, hpending⟩
  · simp [classify, ho]
  · have hzero : interval o r ≠ 0 := fun hz => hnew o ho ((interval_eq_zero_iff o r).mp hz)
    have hnear : ¬ i.maxGap < interval o r := Nat.not_lt.mpr hgap
    simp [classify, ho, hzero, hnear, hpending]

theorem classify_judged {i : Items} {f : Filter} {r : Report} {o : PreviousReport} (ho : f.previous = some o)
    (hnew : (r.time - o.time).toNat ≠ 0) (hgap : (r.time - o.time).toNat ≤ i.maxGap)
    (hpending : f.referencePending = false) :
    classify i f r = if consistentWith i o r then .consistent else .inconsistent := by
  have hzero : interval o r ≠ 0 := hnew
  have hnear : ¬ i.maxGap < interval o r := Nat.not_lt.mpr hgap
  simp [classify, ho, hzero, hnear, hpending]

/-! ## The steps before the evaluation -/

theorem keepReport_filter (v : Verdict) (r : Report) (s : State) :
    (keepReport v r s).filter = { s.filter with
      previous := some ⟨r.distance, r.speed, r.time⟩, referencePending := false, lastSpeed := r.speed,
      lastDaySeconds := r.daySeconds } := by
  cases v <;> simp [keepReport]

theorem freshen_figures (s : State) : (freshen s).filter.figures = Filter.figures { s.filter with
    sourcePresent := true
    freshness := some (s.timebase + ms (s.items.reportPeriod * s.items.freshnessCount)) } := by
  unfold freshen
  dsimp only
  split
  · rw [(carried_moveBy _ _).alike.figures, setFilter_filter]
  · rw [setFilter_filter]

theorem rises_freshen (s : State) : Rises s (freshen s) := by
  unfold freshen
  dsimp only
  split
  · exact (rises_setFilter _ s).trans (carried_moveBy _ _).rises
  · exact rises_setFilter _ s

/-- The lock counts and the lock state after a report (R26). -/
def lockJudged (i : Items) (v : Verdict) (f : Filter) : Filter :=
  { countRuns v f with lock := if v.counts then decideLock i (countRuns v f) else (countRuns v f).lock }

theorem judgeLock_eq (v : Verdict) (s : State) :
    judgeLock v s =
      if (lockJudged s.items v s.filter).lock = s.filter.lock then setFilter (lockJudged s.items v s.filter) s
      else
        moveBy (if (lockJudged s.items v s.filter).lock = .locked then .regained else .unlock)
          (composePanelsIf ((lockJudged s.items v s.filter).estimated != s.filter.estimated)
            (raise (.lockChanged (lockJudged s.items v s.filter).lock)
              (setFilter (lockJudged s.items v s.filter) s))) :=
  rfl

theorem judgeLock_figures (v : Verdict) (s : State) :
    (judgeLock v s).filter.figures = (lockJudged s.items v s.filter).figures := by
  rw [judgeLock_eq]
  split
  · rw [setFilter_filter]
  · rw [(carried_moveBy _ _).alike.figures]
    simp

theorem rises_composePanelsIf (b : Bool) (s : State) : Rises s (composePanelsIf b s) :=
  ⟨dirtyRises_composePanelsIf b s, counted_composePanelsIf b s⟩

theorem rises_judgeLock (v : Verdict) (s : State) : Rises s (judgeLock v s) := by
  rw [judgeLock_eq]
  split
  · exact rises_setFilter _ s
  · refine Rises.trans ?_ (carried_moveBy _ _).rises
    refine Rises.trans ?_ (rises_composePanelsIf _ _)
    exact (rises_setFilter _ s).trans (carried_raise _ _).rises

theorem carried_judgeMode (before : Lock) (v : Verdict) (s : State) : Carried s (judgeMode before v s) := by
  unfold judgeMode
  split
  · cases v with
    | inconsistent => exact carried_moveBy .jump s
    | consistent => exact carried_moveBy .consistent s
    | reference => exact .refl s
    | restart => exact .refl s
    | duplicate => exact .refl s
  · exact .refl s

theorem dirtyRises_judgeLevel (s : State) (l : LinkId) : DirtyRises s (judgeLevel s l) := by
  unfold judgeLevel
  split
  · split
    · exact dirtyRises_withdrawItem l _ s
    · exact dirtyRises_onLink l _ s
  · exact dirtyRises_refl s

theorem offerStates_filter (r : Report) (s : State) : (offerStates r s).filter = { s.filter with
    door := s.filter.door.offer s.items.doorCount r.doors
    ambient := s.filter.ambient.offer s.items.ambientCount r.ambient } := by
  unfold offerStates
  dsimp only
  split <;> simp

theorem rises_offerStates (r : Report) (s : State) : Rises s (offerStates r s) := by
  refine ⟨?_, counted_of_counts_eq (by simp)⟩
  unfold offerStates
  dsimp only
  split
  · exact dirtyRises_setFilter _ s
  · exact dirtyRises_trans (dirtyRises_setFilter _ s) (dirtyRises_foldl dirtyRises_judgeLevel _ _)

/-- A report of a class taken, before it is evaluated: steps 1 to 8 of R29. -/
def reportJudged (v : Verdict) (r : Report) (s : State) : State :=
  offerStates r (moveFigures v r (judgeMode s.filter.lock v (judgeLock v (freshen (keepReport v r s)))))

theorem takeReport_duplicate {r : Report} {s : State} (h : classify s.items s.filter r = .duplicate) :
    takeReport r s = bump .reportDuplicate s := if_pos h

theorem takeReport_taken {r : Report} {s : State} (h : classify s.items s.filter r ≠ .duplicate) :
    ∃ release, takeReport r s = evaluateReport release (reportJudged (classify s.items s.filter r) r s) :=
  ⟨_, if_neg h⟩

theorem rises_reportJudged (v : Verdict) (r : Report) (s : State) :
    Rises (keepReport v r s) (reportJudged v r s) := by
  refine Rises.trans ?_ (rises_offerStates _ _)
  refine Rises.trans ?_ (rises_setFilter _ _)
  refine Rises.trans ?_ (carried_judgeMode _ _ _).rises
  exact (rises_freshen _).trans (rises_judgeLock _ _)

/-- The filter after steps 1 to 5 of R29, but for the motion mode and the coast-step time (R22, R26, R27). -/
def Filter.reported (v : Verdict) (r : Report) (s : State) : Filter :=
  { lockJudged s.items v s.filter with
    previous := some ⟨r.distance, r.speed, r.time⟩
    referencePending := false
    lastSpeed := r.speed
    lastDaySeconds := r.daySeconds
    sourcePresent := true
    freshness := some (s.timebase + ms (s.items.reportPeriod * s.items.freshnessCount)) }

/-- The filter after steps 6 to 8 of R29, which give it a smoothed speed and progress (R33, R35 to R37). -/
def Filter.settled (f : Filter) (r : Report) (i : Items) (smoothed progress : Nat) : Filter :=
  { f with
    smoothed := smoothed
    progress := progress
    door := f.door.offer i.doorCount r.doors
    ambient := f.ambient.offer i.ambientCount r.ambient }

/-- The smoothed speed a report can leave (R35). -/
def smoothedAfter (v : Verdict) (r : Report) (f : Filter) (n : Nat) : Prop :=
  n = smooth f.smoothed r.speed ∨ (v ≠ .consistent ∧ n = f.smoothed)

/-- The progress a report can leave (R33). -/
def progressAfter (r : Report) (f : Filter) (n : Nat) : Prop := n = max f.progress (r.distance * 1000) ∨ n = f.progress

theorem Filter.settled_figures {f g : Filter} (h : g.figures = f.figures) (r : Report) (i : Items) (n p : Nat) :
    (g.settled r i n p).figures = (f.settled r i n p).figures :=
  (congrArg (fun f => (f.settled r i n p).figures) h :)

theorem lockJudged_figures (i : Items) (v : Verdict) {f g : Filter} (h : g.figures = f.figures) :
    (lockJudged i v g).figures = (lockJudged i v f).figures := by
  have hmode (f : Filter) : (lockJudged i v f.figures).figures = (lockJudged i v f).figures := by cases v <;> rfl
  rw [← hmode f, ← hmode g, h]

theorem judgeMode_keepReport_figures (v : Verdict) (r : Report) (s : State) :
    (judgeMode s.filter.lock v (judgeLock v (freshen (keepReport v r s)))).filter.figures =
      (Filter.reported v r s).figures := by
  have hfresh := freshen_figures (keepReport v r s)
  rw [keepReport_filter] at hfresh
  rw [(carried_judgeMode _ _ _).alike.figures, judgeLock_figures, lockJudged_figures _ _ hfresh]
  simp only [keepReport_keeps, freshen_keeps]
  cases v <;> rfl

theorem moveFigures_filter (v : Verdict) (r : Report) (s : State) :
    ∃ n p, smoothedAfter v r s.filter n ∧ progressAfter r s.filter p ∧
      (moveFigures v r s).filter = { s.filter with smoothed := n, progress := p } := by
  refine ⟨_, _, ?_, ?_, setFilter_filter _ s⟩
  · split
    · exact .inl rfl
    · rename_i hsmooths
      refine .inr ⟨?_, rfl⟩
      rintro rfl
      simp [smooths] at hsmooths
  · split
    · exact .inl rfl
    · exact .inr rfl

theorem Filter.smoothed_of_figures {f g : Filter} (h : g.figures = f.figures) : g.smoothed = f.smoothed :=
  (congrArg Filter.smoothed h :)

theorem Filter.progress_of_figures {f g : Filter} (h : g.figures = f.figures) : g.progress = f.progress :=
  (congrArg Filter.progress h :)

/-- What the steps before the evaluation leave of the filter (R29). -/
theorem reportJudged_figures (v : Verdict) (r : Report) (s : State) :
    ∃ n p, smoothedAfter v r s.filter n ∧ progressAfter r s.filter p ∧
      (reportJudged v r s).filter.figures = ((Filter.reported v r s).settled r s.items n p).figures := by
  have hjudged := judgeMode_keepReport_figures v r s
  have hreported : (Filter.reported v r s).smoothed = s.filter.smoothed ∧
      (Filter.reported v r s).progress = s.filter.progress := by cases v <;> exact ⟨rfl, rfl⟩
  obtain ⟨n, p, hn, hp, hmove⟩ :=
    moveFigures_filter v r (judgeMode s.filter.lock v (judgeLock v (freshen (keepReport v r s))))
  rw [smoothedAfter, Filter.smoothed_of_figures hjudged, hreported.1] at hn
  rw [progressAfter, Filter.progress_of_figures hjudged, hreported.2] at hp
  refine ⟨n, p, hn, hp, ?_⟩
  rw [← Filter.settled_figures hjudged, reportJudged, offerStates_filter, hmove]
  simp only [moveFigures_keeps, judgeMode_keeps, judgeLock_keeps, freshen_keeps, keepReport_keeps]
  rfl

/-- What a report that is taken leaves (R22, R23, R26, R27, R35 to R37, R45). -/
structure ReportTaken (v : Verdict) (r : Report) (s t : State) : Prop where
  held : ∃ n p, smoothedAfter v r s.filter n ∧ t.filter.held = ((Filter.reported v r s).settled r s.items n p).held
  stillRun : t.tracker.stillRun = if r.speed ≤ s.items.stopSpeed then min 15 (s.tracker.stillRun + 1) else 0
  rises : Rises (keepReport v r s) t

theorem takeReport_leaves {r : Report} {s : State} (h : classify s.items s.filter r ≠ .duplicate) :
    ReportTaken (classify s.items s.filter r) r s (takeReport r s) := by
  obtain ⟨release, htake⟩ := takeReport_taken h
  obtain ⟨n, p, hn, -, hfigures⟩ := reportJudged_figures (classify s.items s.filter r) r s
  rw [htake]
  refine ⟨⟨n, p, hn, ?_⟩, ?_, (rises_reportJudged _ _ _).trans (rises_evaluateReport _ _)⟩
  · rw [evaluateReport_held, Filter.held_of_figures hfigures]
  · have hspeed : (reportJudged (classify s.items s.filter r) r s).filter.lastSpeed = r.speed :=
      (congrArg Filter.lastSpeed hfigures :)
    rw [evaluateReport_stillRun, nextStill, hspeed]
    simp [reportJudged]

end Sys2Proof.Machine
end

section
/-! PROOFS. A position report committed: taken unless its time repeats (O30), judged against the prediction (O31). -/

namespace Sys2Proof.Machine

/-! ## The report committed -/

theorem commitReport_marked {v : Word} (h : v.toNat % 256 = 0xA7) (s : State) :
    commitReport v s = takeReport (reportOf s.filter.staging) s := if_pos (by simpa [field_eq] using h)

theorem reportOf_eq (g : ReportStaging) : reportOf g =
    ⟨g.w0.toNat % 2 ^ 24, min (g.w1.toNat % 65536) 15000, directionOf (g.w2.toNat % 2), doorOf (g.w2.toNat / 2 % 4),
      ambientOf (g.w2.toNat / 8 % 4), g.w3, min (g.w4.toNat % 2 ^ 18) 172799⟩ := by
  simp [reportOf, field_eq]

theorem exec_positionReportCommit_marked (b : Beat) {v : Word} {s : State} (r : s.bus.resetAsserted = false)
    (k : (s.passed b 0x20D v).items.softReset = false) (hv : v.toNat % 256 = 0xA7) :
    exec (.positionReportCommit b v) s =
      .next (takeReport (reportOf (s.passed b 0x20D v).filter.staging) (s.passed b 0x20D v)) := by
  rw [exec_positionReportCommit b v r k, commitReport_marked hv]

theorem dirtyRises_keepReport (v : Verdict) (r : Report) (s : State) : DirtyRises s (keepReport v r s) := by
  refine dirtyRises_trans ?_ (dirtyRises_setFilter _ _)
  cases v with
  | restart => exact dirtyRises_bump _ s
  | inconsistent => exact dirtyRises_bump _ s
  | reference => exact dirtyRises_refl s
  | duplicate => exact dirtyRises_refl s
  | consistent => exact dirtyRises_refl s

theorem ReportTaken.marks {v : Verdict} {r : Report} {s t : State} (h : ReportTaken v r s t) : DirtyRises s t :=
  dirtyRises_trans (dirtyRises_keepReport v r s) h.rises.marks

/-- The counters of reports are those of the report's class alone (R23, R25, Table 9-3). -/
theorem ReportTaken.counts {v : Verdict} {r : Report} {s t : State} (h : ReportTaken v r s t)
    (hl : s.status.counts.length = 20) :
    t.count .reportRestart = (if v = .restart then oneMore (s.count .reportRestart) else s.count .reportRestart) ∧
    t.count .reportInconsistent =
      (if v = .inconsistent then oneMore (s.count .reportInconsistent) else s.count .reportInconsistent) := by
  have hkept (u : State) (f : Filter) (c : Counter) : (setFilter f u).count c = u.count c := by simp [State.count]
  have hother {c d : Counter} (hcd : d ≠ c) : (bump c s).count d = s.count d :=
    (counted_bump (ps := {c}) rfl s).others d hcd
  rw [h.rises.counted.others _ (by simp [noticeCounters]), h.rises.counted.others _ (by simp [noticeCounters])]
  cases v <;> simp [keepReport, hkept, count_bump hl, hother]

theorem ReportTaken.runs {v : Verdict} {r : Report} {s t : State} (h : ReportTaken v r s t) :
    t.filter.consistentRun = (countRuns v s.filter).consistentRun ∧
    t.filter.inconsistentRun = (countRuns v s.filter).inconsistentRun ∧
    t.filter.lock = (lockJudged s.items v s.filter).lock := by
  obtain ⟨n, p, -, hheld⟩ := h.held
  exact ⟨(congrArg Filter.consistentRun hheld :), (congrArg Filter.inconsistentRun hheld :),
    (congrArg Filter.lock hheld :)⟩

/-- The lock state a counting report decides, by the counts it leaves (R26). -/
theorem lockJudged_lock {v : Verdict} (h : v.counts = true) (i : Items) (f : Filter) :
    (lockJudged i v f).lock = match f.lock with
      | .unlocked => if i.lockCount ≤ (countRuns v f).consistentRun then .locked else .unlocked
      | .locked => if i.unlockCount ≤ (countRuns v f).inconsistentRun then .unlocked else .locked := by
  have hlock : (countRuns v f).lock = f.lock := by cases v <;> rfl
  cases hf : f.lock <;> simp [lockJudged, h, decideLock, hlock, hf]

theorem lockJudged_keeps (i : Items) (v : Verdict) (f : Filter) :
    (lockJudged i v f).staging = f.staging ∧ (lockJudged i v f).door = f.door ∧
    (lockJudged i v f).ambient = f.ambient := by
  cases v <;> exact ⟨rfl, rfl, rfl⟩

/-- What the filter keeps of a report taken, whatever its class (R22, R27, R36, R37). -/
theorem ReportTaken.kept {v : Verdict} {r : Report} {s t : State} (h : ReportTaken v r s t) :
    t.filter.staging = s.filter.staging ∧ t.filter.previous = some ⟨r.distance, r.speed, r.time⟩ ∧
    t.filter.lastSpeed = r.speed ∧ t.filter.lastDaySeconds = r.daySeconds ∧ t.filter.sourcePresent = true ∧
    t.filter.freshness = some (s.timebase + BitVec.ofNat 32 (s.items.reportPeriod * s.items.freshnessCount)) ∧
    t.filter.door = s.filter.door.offer s.items.doorCount r.doors ∧
    t.filter.ambient = s.filter.ambient.offer s.items.ambientCount r.ambient := by
  obtain ⟨n, p, -, hheld⟩ := h.held
  obtain ⟨hstaging, hdoor, hambient⟩ := lockJudged_keeps s.items v s.filter
  refine ⟨(congrArg Filter.staging hheld :).trans hstaging, (congrArg Filter.previous hheld :),
    (congrArg Filter.lastSpeed hheld :), (congrArg Filter.lastDaySeconds hheld :),
    (congrArg Filter.sourcePresent hheld :), (congrArg Filter.freshness hheld :), ?_, ?_⟩
  · rw [← hdoor]
    exact (congrArg Filter.door hheld :)
  · rw [← hambient]
    exact (congrArg Filter.ambient hheld :)

/-! ## Reports taken -/

/-- A restart counts as an inconsistent report in the lock counts, and in its own counter (R23, R26). -/
theorem ReportTaken.of_restart {r : Report} {s t : State} (h : ReportTaken .restart r s t)
    (hl : s.status.counts.length = 20) :
    t.filter.consistentRun = 0 ∧ t.filter.inconsistentRun = min 31 (s.filter.inconsistentRun + 1) ∧
    t.filter.lock = (match s.filter.lock with
      | .unlocked => if s.items.lockCount = 0 then .locked else .unlocked
      | .locked => if s.items.unlockCount ≤ t.filter.inconsistentRun then .unlocked else .locked) ∧
    t.count .reportRestart = oneMore (s.count .reportRestart) ∧
    t.count .reportInconsistent = s.count .reportInconsistent := by
  obtain ⟨hrestart, hinconsistent⟩ := h.counts hl
  obtain ⟨hconsistentRun, hinconsistentRun, hlock⟩ := h.runs
  refine ⟨hconsistentRun, hinconsistentRun, ?_, hrestart, hinconsistent⟩
  rw [hlock, lockJudged_lock rfl, hinconsistentRun]
  cases s.filter.lock <;> simp [countRuns]

/-- A reference report leaves the lock counts, the lock state and the counters of reports as they were (R23, R26). -/
theorem ReportTaken.of_reference {r : Report} {s t : State} (h : ReportTaken .reference r s t)
    (hl : s.status.counts.length = 20) :
    t.filter.consistentRun = s.filter.consistentRun ∧ t.filter.inconsistentRun = s.filter.inconsistentRun ∧
    t.filter.lock = s.filter.lock ∧ t.count .reportRestart = s.count .reportRestart ∧
    t.count .reportInconsistent = s.count .reportInconsistent := by
  obtain ⟨hrestart, hinconsistent⟩ := h.counts hl
  obtain ⟨hconsistentRun, hinconsistentRun, hlock⟩ := h.runs
  exact ⟨hconsistentRun, hinconsistentRun, hlock, hrestart, hinconsistent⟩

/-- Settles O30: the class of the report first, then what a report of that class leaves. -/
theorem reportIsTakenUnlessDuplicate : Obligations.ReportIsTakenUnlessDuplicate := by
  unfold Obligations.ReportIsTakenUnlessDuplicate
  intro b v s reset a g distance speed day run marker length
  rw [exec_positionReportCommit_marked b reset run marker]
  refine ⟨fun hrepeat => ?_, fun hnew => ?_⟩
  · rw [takeReport_duplicate (classify_duplicate_iff.mpr hrepeat)]
  · have hverdict : classify a.items a.filter (reportOf g) ≠ .duplicate := by
      intro hduplicate
      obtain ⟨o, ho, htime⟩ := classify_duplicate_iff.mp hduplicate
      exact hnew o ho htime
    have htaken := takeReport_leaves hverdict
    refine ⟨takeReport (reportOf g) a, rfl, changesOnly_takeReport _ _, ?_⟩
    generalize takeReport (reportOf g) a = t at htaken ⊢
    have hkept := htaken.kept
    have hstill := htaken.stillRun
    rw [reportOf_eq] at hkept hstill
    obtain ⟨hstaging, hprevious, hspeed, hday, hsource, hfreshness, hdoor, hambient⟩ := hkept
    refine ⟨htaken.marks, hstaging, hprevious, hspeed, hday, hsource, hfreshness,
      hdoor, hambient, hstill, fun o ho hgap => ?_, fun href => ?_⟩
    · rw [classify_restart (r := reportOf g) ho hgap] at htaken
      exact htaken.of_restart length
    · rw [classify_reference (r := reportOf g) hnew href] at htaken
      exact htaken.of_reference length

/-! ## Reports judged -/

/-- The consistency test in whole numbers: the residual within the tolerance, and the direction FORWARD (R25). -/
theorem consistentWith_iff (i : Items) (o : PreviousReport) (r : Report) :
    let advance := (o.speed + r.speed) * (r.time - o.time).toNat / 200
    consistentWith i o r = true ↔
      ((r.distance : Int) * 1000 - ((o.distance : Int) * 1000 + (advance : Nat))).natAbs ≤
        i.toleranceBase * 1000 + advance / 16 ∧ r.direction = .forward := by
  intro advance
  have hresidual : distanceTo (r.distance * 1000) (o.distance * 1000 + advance) =
      ((r.distance : Int) * 1000 - ((o.distance : Int) * 1000 + (advance : Nat))).natAbs := by
    unfold distanceTo
    split <;> omega
  rw [← hresidual]
  simp only [consistentWith, Bool.and_eq_true, decide_eq_true_eq, beq_iff_eq]
  rfl

theorem directionOf_forward_iff (n : Nat) : directionOf (n % 2) = .forward ↔ n % 2 = 0 := by
  have h : n % 2 % 2 = n % 2 := Nat.mod_mod n 2
  rw [directionOf, h]
  rcases Nat.mod_two_eq_zero_or_one n with h | h <;> simp [h]

/-- A quarter of the difference, rounded up (R35). -/
theorem smooth_eq (s v : Nat) :
    smooth s v = if s ≤ v then s + (v - s + 3) / 4 else s - (s - v + 3) / 4 := rfl

/-- A consistent report counts toward LOCKED and smooths the speed (R25, R26, R35). -/
theorem ReportTaken.of_consistent {r : Report} {s t : State} (h : ReportTaken .consistent r s t)
    (hl : s.status.counts.length = 20) :
    t.filter.consistentRun = min 31 (s.filter.consistentRun + 1) ∧ t.filter.inconsistentRun = 0 ∧
    t.count .reportInconsistent = s.count .reportInconsistent ∧
    t.filter.smoothed = smooth s.filter.smoothed r.speed := by
  obtain ⟨hconsistentRun, hinconsistentRun, -⟩ := h.runs
  obtain ⟨n, p, hn, hheld⟩ := h.held
  exact ⟨hconsistentRun, hinconsistentRun, (h.counts hl).2,
    ((congrArg Filter.smoothed hheld :).trans (hn.resolve_right (by simp)) :)⟩

/-- An inconsistent report counts toward UNLOCKED and in its own counter (R25, R26). -/
theorem ReportTaken.of_inconsistent {r : Report} {s t : State} (h : ReportTaken .inconsistent r s t)
    (hl : s.status.counts.length = 20) :
    t.filter.consistentRun = 0 ∧ t.filter.inconsistentRun = min 31 (s.filter.inconsistentRun + 1) ∧
    t.count .reportInconsistent = oneMore (s.count .reportInconsistent) := by
  obtain ⟨hconsistentRun, hinconsistentRun, -⟩ := h.runs
  exact ⟨hconsistentRun, hinconsistentRun, (h.counts hl).2⟩

/-- The lock state a counting report leaves is decided by the lock counts it leaves (R26). -/
theorem ReportTaken.lock_decided {v : Verdict} {r : Report} {s t : State} (h : ReportTaken v r s t)
    (hv : v.counts = true) :
    t.filter.lock = (match s.filter.lock with
      | .unlocked => if s.items.lockCount ≤ t.filter.consistentRun then .locked else .unlocked
      | .locked => if s.items.unlockCount ≤ t.filter.inconsistentRun then .unlocked else .locked) := by
  obtain ⟨hconsistentRun, hinconsistentRun, hlock⟩ := h.runs
  rw [hlock, lockJudged_lock hv, hconsistentRun, hinconsistentRun]

/-- A mean of two clamped speeds over the greatest gap advances 9,000 m (R22, R25, Table 11-1). -/
theorem advance_le {u v elapsed : Nat} (hu : u ≤ 15000) (hv : v ≤ 15000) (he : elapsed ≤ 60000) :
    (u + v) * elapsed / 200 ≤ 9000000 := by
  have hproduct : (u + v) * elapsed ≤ 30000 * 60000 := Nat.mul_le_mul (by omega) he
  omega

/-- Settles O31: the test decides the class, and the class what the report leaves. -/
theorem judgedReportIsTestedAgainstThePrediction : Obligations.JudgedReportIsTestedAgainstThePrediction := by
  unfold Obligations.JudgedReportIsTestedAgainstThePrediction
  intro b v s o reset a g elapsed d speed advance predicted residual tolerance run marker length ho hnew hgap hpending
  rw [exec_positionReportCommit_marked b reset run marker]
  have hclass := classify_judged (r := reportOf g) ho hnew hgap hpending
  have hverdict : classify a.items a.filter (reportOf g) ≠ .duplicate := by
    rw [hclass]
    split <;> simp
  have htaken := takeReport_leaves hverdict
  refine ⟨takeReport (reportOf g) a, rfl, changesOnly_takeReport _ _, ?_⟩
  generalize takeReport (reportOf g) a = t at htaken ⊢
  have htest : consistentWith a.items o (reportOf g) = true ↔ residual ≤ tolerance ∧ g.w2.toNat % 2 = 0 := by
    rw [reportOf_eq]
    exact (consistentWith_iff _ _ _).trans (and_congr_right' (directionOf_forward_iff _))
  have hspeed : (reportOf g).speed = speed := by rw [reportOf_eq]
  have hadvance : o.speed ≤ 15000 → a.items.maxGap ≤ 60000 → advance ≤ 9000000 := fun ho hmax =>
    advance_le ho (min_le_right _ _) (hgap.trans hmax)
  rw [hclass] at htaken
  by_cases hconsistent : residual ≤ tolerance ∧ g.w2.toNat % 2 = 0
  · rw [if_pos (htest.mpr hconsistent)] at htaken
    obtain ⟨hrun, hreset, hcount, hsmoothed⟩ := htaken.of_consistent length
    rw [hspeed, smooth_eq] at hsmoothed
    exact ⟨(htaken.counts length).1, fun _ => ⟨hrun, hreset, hcount, hsmoothed⟩, fun h => absurd hconsistent h,
      htaken.lock_decided rfl, hadvance⟩
  · rw [if_neg (mt htest.mp hconsistent)] at htaken
    exact ⟨(htaken.counts length).1, fun h => absurd h hconsistent, fun _ => htaken.of_inconsistent length,
      htaken.lock_decided rfl, hadvance⟩

end Sys2Proof.Machine
end

section
/-! PROOFS. The freshness deadline and the coast step (O44). -/

namespace Sys2Proof.Machine

/-! ## Deadlines and marks -/

theorem advanceTo_timebase (t : Time) (s : State) : (advanceTo t s).timebase = s.reached t := by
  unfold advanceTo State.reached
  split
  · simp
  · rfl

theorem dirtyRises_setTimebase (t : Time) (s : State) : DirtyRises s (setTimebase t s) := by
  unfold setTimebase
  refine dirtyRises_trans ?_ (dirtyRises_markStatusIf _ 13 _)
  exact dirtyRises_of_dirty_eq rfl

theorem dirtyRises_advanceTo (t : Time) (s : State) : DirtyRises s (advanceTo t s) := by
  unfold advanceTo
  split
  · exact dirtyRises_setTimebase t s
  · exact dirtyRises_refl s

theorem rises_advanceTo (t : Time) (s : State) : Rises s (advanceTo t s) :=
  ⟨dirtyRises_advanceTo t s, counted_of_counts_eq (by simp)⟩

theorem dirtyRises_ready (s : State) : DirtyRises s s.ready := dirtyRises_of_dirty_eq (by simp)

/-- A change of the source-present flag marks POSITION_STATE (R27). -/
theorem isDirty_setFilter_sourcePresent {f : Filter} {s : State} (h : s.filter.sourcePresent ≠ f.sourcePresent) :
    (setFilter f s).isDirty (.status 2) = true :=
  isDirty_markStatusIf (by simp [h]) 2 _

/-! ## The coast cap -/

theorem coastCap_congr {s t : State} (hr : t.route = s.route) (hk : t.tracker = s.tracker) (hi : t.items = s.items) :
    coastCap t = coastCap s := by
  simp only [coastCap, hr, hk, hi]

theorem aboveCap_congr {s t : State} (hr : t.route = s.route) (hk : t.tracker = s.tracker) (hi : t.items = s.items)
    (hp : t.filter.progress = s.filter.progress) : aboveCap t = aboveCap s := by
  simp only [aboveCap, coastCap_congr hr hk hi, hp]

theorem readCap_below {s : State} (h : aboveCap s = false) : readCap s = s := by
  unfold readCap
  split
  · simp [h]
  · rfl

theorem readCap_above {s : State} {c : Cause} (hm : s.filter.mode = .coasting c) (h : aboveCap s = true) :
    readCap s = setMode (.holding c) s := by
  simp [readCap, hm, h]

/-! ## The motion mode replaced -/

theorem setMode_same (s : State) : setMode s.filter.mode s = s := if_pos rfl

theorem setMode_filter (m : Mode) (s : State) (h : m ≠ s.filter.mode) :
    (setMode m s).filter = { s.filter with mode := m, coastStep := coastTimer s m } := by
  rw [setMode, if_neg h]
  simp

theorem setMode_notices (m : Mode) (s : State) (h : m ≠ s.filter.mode) :
    (setMode m s).notices = match modeNotice s.filter.mode m with
      | some n => s.given n
      | none => s.notices := by
  rw [setMode, if_neg h]
  cases modeNotice s.filter.mode m with
  | none => simp [raiseSome]
  | some n => simp [raiseSome, raise_notices, State.given]

/-! ## The freshness deadline -/

/-- The state at the freshness deadline once the source-present flag is cleared, before STALE acts (R27, log 2). -/
def State.quieted (s : State) (deadline : Time) : State :=
  setFilter { s.filter with sourcePresent := false, freshness := none } (advanceTo deadline s.ready)

theorem expireFreshness_ready {s : State} {deadline : Time} (h : s.filter.freshness = some deadline)
    (hs : s.filter.sourcePresent = true) : expireFreshness s.ready = moveBy .stale (s.quieted deadline) := by
  have hready : s.ready.filter = s.filter := by simp
  simp only [expireFreshness, hready, h, hs, if_true, advanceTo_keeps, State.quieted]

@[simp] theorem quieted_keeps (s : State) (deadline : Time) :
    (s.quieted deadline).items = s.items ∧ (s.quieted deadline).route = s.route ∧
    (s.quieted deadline).tracker = s.tracker ∧ (s.quieted deadline).notices = s.notices := by
  simp [State.quieted]

@[simp] theorem quieted_filter (s : State) (deadline : Time) :
    (s.quieted deadline).filter = { s.filter with sourcePresent := false, freshness := none } := setFilter_filter _ _

@[simp] theorem quieted_timebase (s : State) (deadline : Time) :
    (s.quieted deadline).timebase = s.reached deadline := by
  simp [State.quieted, advanceTo_timebase, State.reached]

theorem aboveCap_quieted (s : State) (deadline : Time) : aboveCap (s.quieted deadline) = aboveCap s :=
  aboveCap_congr (by simp) (by simp) (by simp) (by simp)

/-- The mode STALE gives a filter that neither coasts nor holds: HOLDING by the choice in force or above the coast cap,
COASTING otherwise (R28, R32). -/
def staleMode (s : State) : Mode :=
  if s.items.holdOnStale = true ∨ aboveCap s = true then .holding .stale else .coasting .stale

theorem moveBy_stale_free {s : State} (h : s.filter.mode = .tracking ∨ s.filter.mode = .following) :
    moveBy .stale s = setMode (staleMode s) s := by
  have hchoice : capped s (coastChoice s.items.holdOnStale .stale) = staleMode s := by
    cases hhold : s.items.holdOnStale with
    | true => simp [coastChoice, capped, staleMode, hhold]
    | false => rcases h with h | h <;> simp [coastChoice, capped, staleMode, hhold, h, Mode.coasts]
  rw [← hchoice]
  rcases h with h | h <;> simp [moveBy, modeAfter, h]

theorem moveBy_stale_coasting {s : State} {c : Cause} (h : s.filter.mode = .coasting c) :
    moveBy .stale s = if s.items.holdOnStale then setMode (.holding .stale) s else s := by
  have hsame := setMode_same s
  rw [h] at hsame
  cases hhold : s.items.holdOnStale <;> simp [moveBy, modeAfter, capped, h, hhold, Mode.coasts, hsame]

theorem moveBy_stale_holding {s : State} {c : Cause} (h : s.filter.mode = .holding c) : moveBy .stale s = s := by
  have hsame := setMode_same s
  rw [h] at hsame
  cases c <;> simp [moveBy, modeAfter, capped, h, hsame]

/-- A mode that begins to coast or hold gives COAST_STARTED, a minor notice (R30, R137). -/
theorem setMode_staleMode_notices {s : State} (h : s.filter.mode = .tracking ∨ s.filter.mode = .following) :
    (setMode (staleMode s) s).notices =
      if s.notices.occupancy < min 64 s.items.noticeHigh then s.notices.reserve (.coastStarted (staleMode s)) s.timebase
      else s.notices := by
  have hnotice : modeNotice s.filter.mode (staleMode s) = some (.coastStarted (staleMode s)) := by
    unfold staleMode
    rcases h with h | h <;> split <;> simp [modeNotice, h, Mode.coasts, Mode.holds]
  have hne : staleMode s ≠ s.filter.mode := by
    unfold staleMode
    rcases h with h | h <;> split <;> simp [h]
  rw [setMode_notices _ s hne, hnotice]
  simp [State.given, NoticeWriter.give, Notice.minor]

theorem setMode_staleMode_filter {s : State} (h : s.filter.mode = .tracking ∨ s.filter.mode = .following) :
    (setMode (staleMode s) s).filter = { s.filter with
      mode := staleMode s
      coastStep := if (staleMode s).coasts then some (s.timebase + ms s.items.reportPeriod) else none } := by
  have hne : staleMode s ≠ s.filter.mode := by
    unfold staleMode
    rcases h with h | h <;> split <;> simp [h]
  have hfree : s.filter.mode.coasts = false := by rcases h with h | h <;> simp [h, Mode.coasts]
  rw [setMode_filter _ s hne]
  simp [coastTimer, hfree]

/-- The frame of the freshness deadline. -/
theorem changesOnly_expireFreshness (s : State) :
    ChangesOnly [.timebase, .filter, .link .p, .notices, .dirty, .counts] s (expireFreshness s) := by
  intro p hp
  cases p with
  | link l => cases l <;> simp_all [Part.same]
  | _ => simp_all [Part.same]

theorem dirtyRises_quieted (s : State) (deadline : Time) : DirtyRises s (s.quieted deadline) :=
  dirtyRises_trans (dirtyRises_trans (dirtyRises_ready s) (dirtyRises_advanceTo _ _)) (dirtyRises_setFilter _ _)

theorem isDirty_quieted {s : State} (h : s.filter.sourcePresent = true) (deadline : Time) :
    (s.quieted deadline).isDirty (.status 2) = true :=
  isDirty_setFilter_sourcePresent (by simp [h])

/-! ## The coast step -/

theorem coastProgress_congr {s t : State} (hc : coastCap t = coastCap s) (hi : t.items = s.items)
    (hf : t.filter = s.filter) : coastProgress t = coastProgress s := by
  simp only [coastProgress, hc, hi, hf]

/-- The filter after a coast step that finds progress at or below the cap (R31). -/
def Filter.coasted (s : State) (due : Time) : Filter :=
  { s.filter with progress := coastProgress s, coastStep := some (due + ms s.items.reportPeriod) }

/-- A coast step that finds progress at or below the cap moves it, and evaluates a change of whole metres (R31). -/
theorem fireCoastStep_below {s : State} {due : Time} (hm : s.filter.mode.coasts = true)
    (hd : s.filter.coastStep = some due) (h : aboveCap s = false) :
    fireCoastStep s =
      if (Filter.coasted s due).metres = s.filter.metres then setFilter (Filter.coasted s due) (advanceTo due s)
      else evaluateCoast (setFilter (Filter.coasted s due) (advanceTo due s)) := by
  have hread : readCap (advanceTo due s) = advanceTo due s :=
    readCap_below ((aboveCap_congr (by simp) (by simp) (by simp) (by simp)).trans h)
  have hprogress : coastProgress (advanceTo due s) = coastProgress s :=
    coastProgress_congr (coastCap_congr (by simp) (by simp) (by simp)) (by simp) (by simp)
  simp only [fireCoastStep, hd, hm, if_true, hread, hprogress, advanceTo_keeps]
  rfl

/-- A coast step that finds progress above the cap takes HOLDING instead (R32). -/
theorem fireCoastStep_above {s : State} {due : Time} {c : Cause} (hm : s.filter.mode = .coasting c)
    (hd : s.filter.coastStep = some due) (h : aboveCap s = true) :
    fireCoastStep s = setMode (.holding c) (advanceTo due s) := by
  have hread : readCap (advanceTo due s) = setMode (.holding c) (advanceTo due s) :=
    readCap_above (by simpa using hm) ((aboveCap_congr (by simp) (by simp) (by simp) (by simp)).trans h)
  have hfilter := setMode_filter (.holding c) (advanceTo due s) (by simp [hm])
  simp [fireCoastStep, hd, hm, hread, hfilter, Mode.coasts]

theorem fireCoastStep_timebase {s : State} {due : Time} {c : Cause} (hm : s.filter.mode = .coasting c)
    (hd : s.filter.coastStep = some due) : (fireCoastStep s).timebase = s.reached due := by
  rcases h : aboveCap s with _ | _
  · rw [fireCoastStep_below (by rw [hm]; rfl) hd h]
    split <;> simp [advanceTo_timebase]
  · rw [fireCoastStep_above hm hd h]
    simp [advanceTo_timebase]

theorem rises_fireCoastStep (s : State) : Rises s (fireCoastStep s) := by
  unfold fireCoastStep
  split
  · rename_i due hd
    have hread := (rises_advanceTo due s).trans (carried_readCap _).rises
    split
    · dsimp only
      split
      · split
        · exact hread.trans (rises_setFilter _ _)
        · exact (hread.trans (rises_setFilter _ _)).trans (carried_evaluateCoast _).rises
      · exact hread
    · exact .refl s
  · exact .refl s

/-- The frame of a coast step. -/
theorem changesOnly_fireCoastStep (s : State) : ChangesOnly
    [.timebase, .filter, .tracker, .res, .link .p, .notices, .dirty, .counts] s (fireCoastStep s) := by
  intro p hp
  cases p with
  | link l => cases l <;> simp_all [Part.same]
  | _ => simp_all [Part.same]

/-- Settles O44: STALE by the mode it finds, and the coast step by the side of the cap it finds progress on. -/
theorem freshnessAndCoastStepsActOnTheMotion : Obligations.FreshnessAndCoastStepsActOnTheMotion := by
  unfold Obligations.FreshnessAndCoastStepsActOnTheMotion
  refine ⟨?_, ?_⟩
  · intro s deadline reset run hfreshness hsource chosen now quiet
    have hexpire := expireFreshness_ready hfreshness hsource
    have hexec : exec .freshnessExpiry s = .next (moveBy .stale (s.quieted deadline)) := by
      rw [← hexpire]
      exact congrArg Host.Outcome.next (onEvent_run _ run reset)
    have hrise := (carried_moveBy .stale (s.quieted deadline)).rises.marks
    have hchosen : staleMode (s.quieted deadline) = chosen := by
      simp only [staleMode, aboveCap_quieted, quieted_keeps]
      rfl
    refine ⟨_, hexec, by simp [now], hrise _ (isDirty_quieted hsource deadline),
      dirtyRises_trans (dirtyRises_quieted s deadline) hrise, hexpire ▸ changesOnly_expireFreshness s.ready,
      fun hfree => ?_, fun cause hcoasts => ?_, fun cause hholds => ?_⟩
    · have hfree' : (s.quieted deadline).filter.mode = .tracking ∨ (s.quieted deadline).filter.mode = .following := by
        simpa using hfree
      rw [moveBy_stale_free hfree', setMode_staleMode_filter hfree', setMode_staleMode_notices hfree', hchosen]
      simp only [quieted_filter, quieted_keeps, quieted_timebase]
      exact ⟨rfl, rfl⟩
    · rw [moveBy_stale_coasting (c := cause) (by simpa using hcoasts), (quieted_keeps s deadline).1]
      split
      · rw [setMode_filter _ _ (by simp [hcoasts]), quieted_filter]
        rfl
      · exact quieted_filter s deadline
    · rw [moveBy_stale_holding (c := cause) (by simpa using hholds)]
      exact quieted_filter s deadline
  · intro s due cause reset run hmode hstep moved within
    have hexec : exec .coastStep s = .next (fireCoastStep s.ready) :=
      congrArg Host.Outcome.next (onEvent_run _ run reset)
    have hmode' : s.ready.filter.mode = .coasting cause := by simpa using hmode
    have hstep' : s.ready.filter.coastStep = some due := by simpa using hstep
    have hcap : coastCap s.ready = coastCap s := coastCap_congr (by simp) (by simp) (by simp)
    have habove' : aboveCap s.ready = aboveCap s := aboveCap_congr (by simp) (by simp) (by simp) (by simp)
    have htime : (fireCoastStep s.ready).timebase = s.reached due := by
      rw [fireCoastStep_timebase hmode' hstep']
      simp [State.reached]
    refine ⟨_, hexec, htime, dirtyRises_trans (dirtyRises_ready s) (rises_fireCoastStep s.ready).marks,
      changesOnly_fireCoastStep s.ready, fun hbelow => ?_, fun habove => ?_⟩
    · have hfilter : Filter.coasted s.ready due = { s.filter with
          progress := max s.filter.progress (min within 16777215000)
          coastStep := some (due + BitVec.ofNat 32 s.items.reportPeriod) } := by
        simp only [Filter.coasted, coastProgress_congr hcap (by simp) (by simp), ready_keeps]
        rfl
      rw [fireCoastStep_below (by rw [hmode']; rfl) hstep' (habove'.trans hbelow), hfilter]
      split
      · simp
      · rename_i hmetres
        refine ⟨by simp, fun hsame => absurd ?_ hmetres⟩
        simpa [Filter.metres] using hsame
    · rw [fireCoastStep_above hmode' hstep' (habove'.trans habove), setMode_filter _ _ (by simp [hmode])]
      simp [coastTimer, Mode.coasts]

end Sys2Proof.Machine
end

section
/-! PROOFS. What every step keeps: the parts of a step, and that a property which each of them keeps is kept by every
step. -/

namespace Sys2Proof.Machine

/-- The parts of a step, each of which keeps a property of states: the queue, the RESET pin, the clock, the port's
choices and cycles, the words of the coach computer, and the events of the blocks. -/
structure KeptByParts (P : State → Prop) : Prop where
  queue : ∀ q s, P s → P { s with pending := q }
  cutOff : ∀ l s, P s → P (clearTransaction l s)
  bus : ∀ b s, P s → P { s with bus := b }
  release : ∀ straps s, P s → P (pinReset straps s)
  clock : ∀ t s, P s → P (setTimebase t s)
  choice : ∀ s, P s → P (beginOwn s)
  burst : ∀ b s, P s → P (setBurst b s)
  starvation : ∀ s, P s → P (countStarvation s)
  cycle : ∀ a s, P s → P (performCycle a (setStarvation 0 s))
  image : ∀ s, P s → P (completeImage (setProgress none (setStarvation 0 s)))
  blocked : ∀ s, P s → P (bump .guardBlocked s)
  word : ∀ a v s, P s → P (s.writeWord a v)
  captured : ∀ w v s, P s → P (capture w v s)
  partly : ∀ s, P s → P (bump .tapPartial s)
  view : ∀ w s, P s → P (restoreView w s)
  producer : ∀ s, P s → P (restoreProducer s)
  clearedCounter : ∀ c v s, P s → P (clearCounter c v s)
  clearedLink : ∀ l v s, P s → P (clearLink l v s)
  event : ∀ c s t, blockEvent c = true → P s → s.items.softReset = false → s.bus.resetAsserted = false →
    exec c s = .next t → P t

section
variable {P : State → Prop}

theorem KeptByParts.ready (h : KeptByParts P) {s : State} (hs : P s) : P s.ready := by
  unfold State.ready
  split
  · exact h.choice s hs
  · exact hs

theorem KeptByParts.performOwn (h : KeptByParts P) {s : State} (hs : P s) : P (performOwn s) := by
  unfold Machine.performOwn
  split
  · exact h.cycle _ s hs
  · exact hs

theorem KeptByParts.yieldOwn (h : KeptByParts P) {s : State} (hs : P s) : P (yieldOwn s) := by
  unfold Machine.yieldOwn
  dsimp only
  split
  · exact h.choice _ (h.performOwn (h.choice s hs))
  · exact h.choice s hs

theorem KeptByParts.grantAccess (h : KeptByParts P) (b : Beat) {s : State} (hs : P s) : P (grantAccess b s) := by
  unfold Machine.grantAccess
  refine h.burst _ _ ?_
  split
  · split
    · exact h.starvation s hs
    · exact hs
  · exact h.starvation _ (h.yieldOwn hs)

theorem KeptByParts.skipWord (h : KeptByParts P) (b : Beat) {s : State} (hs : P s) : P (skipWord b s) := by
  unfold Machine.skipWord
  refine h.burst _ _ ?_
  split
  · exact hs
  · split
    · exact h.choice s hs
    · exact h.yieldOwn hs

theorem KeptByParts.writeTapWord (h : KeptByParts P) (w : TapWord) (lanes : Lanes) (v : Word) {s : State} (hs : P s) :
    P (writeTapWord w lanes v s) := by
  have hpassed : P (s.writeTap (tapOffset w) (mergeLanes (s.tapWord (tapOffset w)) v lanes)) := h.word _ _ s hs
  cases w with
  | captured c =>
    show P (writeCaptured c lanes v s)
    unfold writeCaptured
    dsimp only
    split
    · exact h.captured c v _ hpassed
    · split
      · exact h.partly _ hpassed
      · exact hpassed
  | view x => exact h.view x _ hpassed
  | producer => exact h.producer _ hpassed
  | image i x => exact hpassed
  | plain o => exact hpassed

theorem KeptByParts.reportRead (h : KeptByParts P) (w : Nat) (lanes : Lanes) (v : Word) {s : State} (hs : P s) :
    P (reportRead w lanes v s) := by
  unfold Machine.reportRead
  split
  · split
    · exact h.clearedLink _ v s hs
    · split
      · exact h.clearedCounter _ v s hs
      · exact hs
  · exact hs

theorem KeptByParts.readTapWord (h : KeptByParts P) (w : TapWord) (lanes : Lanes) {s : State} (hs : P s) :
    P (readTapWord w lanes s) := by
  unfold Machine.readTapWord
  dsimp only
  split
  · exact h.reportRead _ lanes _ (h.bus _ s hs)
  · exact h.bus _ s hs

theorem KeptByParts.performBus (h : KeptByParts P) (b : Beat) (x : BusOp) {s : State} (hs : P s) :
    P (performBus b x s) := by
  have hgrant := h.grantAccess b hs
  cases x with
  | read w lanes => exact h.readTapWord w lanes hgrant
  | write w lanes v =>
    unfold Machine.performBus
    dsimp only
    split
    · exact h.blocked _ (h.skipWord b hs)
    · exact h.writeTapWord w lanes v hgrant
  | readOutside a lanes => exact h.bus _ _ hgrant
  | writeOutside a lanes v => exact h.word _ _ _ hgrant

theorem KeptByParts.performAccess (h : KeptByParts P) (i : Instr) {s : State} (hs : P s) : P (performAccess s i) := by
  unfold Machine.performAccess
  split
  · exact h.performBus _ _ hs
  · exact hs

theorem KeptByParts.onBus (h : KeptByParts P) (i : Instr) {s : State} (hs : P s) : P (onBus i s) := by
  unfold Machine.onBus
  split
  · exact h.performAccess i hs
  · exact h.burst _ _ (h.bus _ s hs)

theorem KeptByParts.onPort (_h : KeptByParts P) {f : State → State} (hf : ∀ s, P s → P (f s)) {s : State} (hs : P s) :
    P (onPort f s) := by
  unfold Machine.onPort
  split
  · exact hs
  · exact hf s hs

theorem KeptByParts.ownStep (h : KeptByParts P) (names : OwnAccess → Bool) {s : State} (hs : P s) :
    P (ownStep names s) := by
  unfold Machine.ownStep
  dsimp only
  split
  · exact h.performOwn (h.ready hs)
  · exact hs

theorem KeptByParts.finishImageRead (h : KeptByParts P) (names : State → Bool) {s : State} (hs : P s) :
    P (finishImageRead names s) := by
  unfold Machine.finishImageRead
  dsimp only
  split
  · split
    · exact h.image _ (h.ready hs)
    · exact hs
  · exact hs

theorem KeptByParts.pinResetAssert (h : KeptByParts P) {s t : State} (hs : P s)
    (he : exec .pinResetAssert s = .next t) : P t := by
  cases he
  split
  · exact hs
  · exact h.cutOff .p _ (h.cutOff .b _ (h.cutOff .a _ (h.bus _ s hs)))

theorem KeptByParts.pinResetRelease (h : KeptByParts P) {straps : BitVec 4} {s t : State} (hs : P s)
    (he : exec (.pinResetRelease straps) s = .next t) : P t := by
  cases he
  exact List.foldlRecOn s.bus.held _ (h.release straps s hs) fun u hu i _ => h.performAccess i hu

end

/-- A command of the coach computer, which is a word of an access, goes the one path of a word. -/
theorem exec_access {c : Instr} {s : State} (h : (busOpOf s c).isSome = true) : exec c s = .next (onBus c s) := by
  cases c <;> first | rfl | cases h

/-- What does not happen while a block is reset changes nothing (R160, R164). -/
theorem exec_event_held {c : Instr} (h : blockEvent c = true) {s : State}
    (hs : s.items.softReset = true ∨ s.bus.resetAsserted = true) : exec c s = .next s := by
  cases c <;> first | exact congrArg Host.Outcome.next (onEvent_held _ hs) | cases h

theorem KeptByParts.exec {P : State → Prop} (h : KeptByParts P) (c : Instr) {s t : State} (hs : P s)
    (he : exec c s = .next t) : P t := by
  cases haccess : (busOpOf s c).isSome with
  | true =>
    rw [exec_access haccess] at he
    cases he
    exact h.onBus c hs
  | false =>
    cases hevent : blockEvent c with
    | true =>
      by_cases hheld : s.items.softReset = true ∨ s.bus.resetAsserted = true
      · rw [exec_event_held hevent hheld] at he
        cases he
        exact hs
      · simp only [not_or, Bool.not_eq_true] at hheld
        exact h.event c s t hevent hs hheld.1 hheld.2 he
    | false =>
      cases c <;> first
        | (cases haccess; done)
        | (cases hevent; done)
        | exact h.pinResetAssert hs he
        | exact h.pinResetRelease hs he
        | (cases he; exact h.onPort (fun s hs => h.ownStep _ hs) hs)
        | (cases he; exact h.onPort (fun s hs => h.finishImageRead _ hs) hs)
        | (cases he; exact h.onPort (fun s hs => h.clock _ _ (h.ready hs)) hs)

/-- A property that the parts of a step keep is kept by every step. -/
theorem KeptByParts.step {P : State → Prop} (h : KeptByParts P) {s t : State} (hs : P s) (he : step s = .next t) :
    P t := by
  unfold Machine.step at he
  split at he
  · exact h.exec _ (h.queue _ s hs) he
  · cases he
    exact h.onPort (fun s hs => h.clock _ _ (h.ready hs)) hs

end Sys2Proof.Machine
end

section
/-! PROOFS. The counters stay in their range: every operation that counts or raises keeps them fitting (R144). -/

namespace Sys2Proof.Machine

section
variable {s : State}

@[simp] theorem countersFit_bump (h : CountersFit s.status.counts) (c : Counter) :
    CountersFit (bump c s).status.counts := (counted_bump (Set.mem_univ c) s).fit h

@[simp] theorem countersFit_raise (h : CountersFit s.status.counts) (n : Notice) :
    CountersFit (raise n s).status.counts := (counted_raise n s).fit h

@[simp] theorem countersFit_raiseIf (h : CountersFit s.status.counts) (b : Bool) (n : Notice) :
    CountersFit (raiseIf b n s).status.counts := (counted_raiseIf b n s).fit h

@[simp] theorem countersFit_foldl_raise {α : Type} (h : CountersFit s.status.counts) (n : α → Notice) (xs : List α) :
    CountersFit (xs.foldl (fun s x => raise (n x) s) s).status.counts :=
  (counted_foldl (fun s x => counted_raise (n x) s) xs s).fit h

/-! ## Links -/

@[simp] theorem countersFit_countMiss (h : CountersFit s.status.counts) (l : LinkId) :
    CountersFit (countMiss l s).status.counts := by
  unfold countMiss
  dsimp only
  split <;> simp [h]

@[simp] theorem countersFit_enterUnit (h : CountersFit s.status.counts) (l : LinkId) (p : Page) :
    CountersFit (enterUnit l p s).status.counts := by
  unfold enterUnit
  dsimp only
  split
  · split <;> simp [h]
  · simp [h]
  · simp [h]

@[simp] theorem countersFit_endEnumeration (h : CountersFit s.status.counts) (l : LinkId) (e : Ending) :
    CountersFit (endEnumeration l e s).status.counts := by simp [endEnumeration, h]

@[simp] theorem countersFit_breakEnumeration (h : CountersFit s.status.counts) (l : LinkId) (step : Option Nat) :
    CountersFit (breakEnumeration l step s).status.counts := by simp [breakEnumeration, h]

@[simp] theorem countersFit_takeBasePage (h : CountersFit s.status.counts) (l : LinkId) (p : Page) :
    CountersFit (takeBasePage l p s).status.counts := by
  unfold takeBasePage
  split
  · simp [h]
  · split <;> simp [h]

@[simp] theorem countersFit_addressTaken (h : CountersFit s.status.counts) (l : LinkId) (p : Page) :
    CountersFit (addressTaken l p s).status.counts := by simp [addressTaken, h]

@[simp] theorem countersFit_missStep (h : CountersFit s.status.counts) (l : LinkId) (p : Purpose) :
    CountersFit (missStep l p s).status.counts := by
  unfold missStep
  split
  case h_1 => split <;> simp [h]
  case h_2 => split <;> simp [h]
  case h_3 => simp [h]
  case h_4 => split <;> simp [h]
  case h_5 => exact h

@[simp] theorem countersFit_latchUnit (h : CountersFit s.status.counts) (l : LinkId) (a : Nat) (c : FailCause)
    (it : Option Item) : CountersFit (latchUnit l a c it s).status.counts := by simp [latchUnit, h]

@[simp] theorem countersFit_reportUnit (h : CountersFit s.status.counts) (l : LinkId) (a : Nat) (c : FailCause)
    (it : Option Item) : CountersFit (reportUnit l a c it s).status.counts := by simp [reportUnit, h]

@[simp] theorem countersFit_enterFault (h : CountersFit s.status.counts) (l : LinkId) (a : Nat) (c : FailCause)
    (it : Option Item) : CountersFit (enterFault l a c it s).status.counts := by
  unfold enterFault
  split <;> simp [h]

@[simp] theorem countersFit_missItem (h : CountersFit s.status.counts) (l : LinkId) (it : Item) :
    CountersFit (missItem l it s).status.counts := by
  unfold missItem
  split
  · exact h
  · dsimp only
    split <;> simp [h]

@[simp] theorem countersFit_recoverUnit (h : CountersFit s.status.counts) (l : LinkId) (a : Nat) :
    CountersFit (recoverUnit l a s).status.counts := by
  unfold recoverUnit
  split <;> simp [h]

@[simp] theorem countersFit_missBackoff (h : CountersFit s.status.counts) (l : LinkId) (a : Nat) :
    CountersFit (missBackoff l a s).status.counts := by
  unfold missBackoff
  split
  · exact h
  · dsimp only
    split <;> simp [h]

@[simp] theorem countersFit_wakeMissed (h : CountersFit s.status.counts) (l : LinkId) (a : Nat) :
    CountersFit (wakeMissed l a s).status.counts := by simp [wakeMissed, h]

@[simp] theorem countersFit_afterWake (h : CountersFit s.status.counts) (l : LinkId) :
    CountersFit (afterWake l s).status.counts := by simp [afterWake, h]

theorem countersFit_ended {f : State → State}
    (hf : ∀ {u}, CountersFit u.status.counts → CountersFit (f u).status.counts) (h : CountersFit s.status.counts)
    (l : LinkId) : CountersFit (ended l f s).status.counts := by
  unfold ended
  dsimp only
  split
  · simp [h]
  · exact hf (by simpa using h)

@[simp] theorem countersFit_missTransaction (h : CountersFit s.status.counts) (l : LinkId) (t : Transaction) :
    CountersFit (missTransaction l t s).status.counts := by
  refine countersFit_ended (fun hu => ?_) (countersFit_countMiss h l) l
  split <;> simp [hu]

@[simp] theorem countersFit_takeMalformed (h : CountersFit s.status.counts) (l : LinkId) (t : Transaction) (r : Reply) :
    CountersFit (takeMalformed l t r s).status.counts := by
  unfold takeMalformed
  split
  · exact h
  · split
    · split
      · exact countersFit_ended (fun hu => countersFit_addressTaken hu l _) (countersFit_countMiss h l) l
      · simp [h]
    · simp [h]

/-! ## Reservations -/

@[simp] theorem countersFit_takeCommit (h : CountersFit s.status.counts) (e : CommitEntry) :
    CountersFit (takeCommit e s).status.counts := by
  unfold takeCommit
  split
  · exact h
  · simp [h]

@[simp] theorem countersFit_applyRecord (h : CountersFit s.status.counts) (r : Record) :
    CountersFit (applyRecord r s).status.counts := by
  unfold applyRecord
  dsimp only
  split <;> simp [h]

@[simp] theorem countersFit_judgeRecord (h : CountersFit s.status.counts) (e : CommitEntry) (r : Record) :
    CountersFit (judgeRecord e r s).status.counts := by
  unfold judgeRecord
  split
  · simp [h]
  · split
    · simp [h]
    · split <;> simp [h]

@[simp] theorem countersFit_completeFetch (h : CountersFit s.status.counts) :
    CountersFit (completeFetch s).status.counts := by
  unfold completeFetch
  split
  · exact h
  · refine countersFit_judgeRecord ?_ _ _
    exact h

@[simp] theorem countersFit_expireRelease (h : CountersFit s.status.counts) (x : ReleaseEntry) :
    CountersFit (expireRelease x s).status.counts := by
  unfold expireRelease
  dsimp only
  split
  · simpa using h
  · split <;> simp [h]

/-! ## Routes and reports -/

@[simp] theorem countersFit_readCap (h : CountersFit s.status.counts) : CountersFit (readCap s).status.counts :=
  (counted_readCap s).fit h

@[simp] theorem countersFit_retag (h : CountersFit s.status.counts) (p : Segment → Bool) (r : ActiveRoute)
    (removed : Option Nat) : CountersFit (retag p r removed s).status.counts := (counted_retag p r removed s).fit h

@[simp] theorem countersFit_switchRoute (h : CountersFit s.status.counts) (image : ImageId) (start : Start)
    (copy : RouteCopy) : CountersFit (switchRoute image start copy s).status.counts :=
  (counted_switchRoute image start copy s).fit h

@[simp] theorem countersFit_enterStop (h : CountersFit s.status.counts) : CountersFit (enterStop s).status.counts :=
  (counted_enterStop s).fit h

@[simp] theorem countersFit_replaceServed (h : CountersFit s.status.counts) (old new : ActiveRoute) :
    CountersFit (replaceServed old new s).status.counts := by
  unfold replaceServed
  split
  · simp [h]
  · dsimp only
    split
    · exact countersFit_enterStop (by simp [h])
    · simp [h]

@[simp] theorem countersFit_changePortion (h : CountersFit s.status.counts) (r : ActiveRoute) (p : Portion) :
    CountersFit (changePortion r p s).status.counts := by
  unfold changePortion
  dsimp only
  split
  · simp [h]
  · split <;> simp [h]

@[simp] theorem countersFit_takeConsist (h : CountersFit s.status.counts) (k : Consist) :
    CountersFit (takeConsist k s).status.counts := by
  unfold takeConsist
  dsimp only
  split
  · split <;> simp [h]
  · simp [h]

theorem countersFit_completeActivation (h : CountersFit s.status.counts) (copy : RouteCopy) :
    CountersFit (completeActivation copy s).status.counts := by
  unfold completeActivation
  split
  · dsimp only
    split
    · simpa [abandonSwitch] using h
    · split <;> simp [h]
  · exact h

theorem countersFit_completePreview (h : CountersFit s.status.counts) (copy : RouteCopy) :
    CountersFit (completePreview copy s).status.counts := by
  unfold completePreview
  split
  · exact h
  · dsimp only
    split <;> simpa using h

theorem countersFit_keepReport (h : CountersFit s.status.counts) (v : Verdict) (r : Report) :
    CountersFit (keepReport v r s).status.counts := by cases v <;> simp [keepReport, h]

theorem countersFit_takeReport (h : CountersFit s.status.counts) (r : Report) :
    CountersFit (takeReport r s).status.counts := by
  by_cases hd : classify s.items s.filter r = .duplicate
  · rw [takeReport_duplicate hd]
    exact countersFit_bump h _
  · exact (takeReport_leaves hd).rises.counted.fit (countersFit_keepReport h _ r)

end

end Sys2Proof.Machine
end

section
/-! PROOFS. The figures of the filter, the still run count and the marks of the copies stay in their ranges (R22, R26,
R33 to R37, R45, Table 12-6). -/

namespace Sys2Proof.Machine

/-! ## The ranges -/

/-- The filter's figures are in their ranges (R22, R26, R33, R35 to R37). -/
structure FigureRange (f : Filter) : Prop where
  progress : f.progress ≤ 16777215000
  consistent : f.consistentRun ≤ 31
  inconsistent : f.inconsistentRun ≤ 31
  smoothed : f.smoothed ≤ 15000
  last : f.lastSpeed ≤ 15000
  day : f.lastDaySeconds ≤ 172799
  previous : ∀ o, f.previous = some o → o.speed ≤ 15000 ∧ o.distance < 2 ^ 24
  door : f.door.run ≤ 15
  ambient : f.ambient.run ≤ 15

theorem figureRange_figures (f : Filter) : FigureRange f.figures ↔ FigureRange f :=
  ⟨fun ⟨a, b, c, d, e, g, h, i, j⟩ => ⟨a, b, c, d, e, g, h, i, j⟩,
    fun ⟨a, b, c, d, e, g, h, i, j⟩ => ⟨a, b, c, d, e, g, h, i, j⟩⟩

theorem FigureRange.of_figures {f g : Filter} (hf : FigureRange f) (h : g.figures = f.figures) : FigureRange g := by
  rwa [← figureRange_figures, h, figureRange_figures]

/-- The marks of a copy fit their field of 24 bits (Table 12-6). -/
def RouteCopy.Fits (c : RouteCopy) : Prop := ∀ st ∈ c.stops, st.mark < 2 ^ 24

/-- The marks of the active copy and of the waiting one fit their field. -/
structure RouteFits (r : Route) : Prop where
  active : ∀ a, r.active = some a → a.copy.Fits
  waiting : ∀ i start tag copy, r.pendingSwitch = .waiting i start tag copy → copy.Fits

/-- What every step keeps of the filter, the tracker and the route. -/
structure FiguresFit (s : State) : Prop where
  range : FigureRange s.filter
  still : s.tracker.stillRun ≤ 15
  marks : RouteFits s.route

theorem figuresFit_iff (s : State) : FiguresFit s ↔ FilterInRange s ∧ MarksFit s :=
  ⟨fun ⟨⟨a, b, c, d, e, g, h, i, j⟩, k, ⟨m, n⟩⟩ => ⟨⟨a, b, c, d, e, g, h, i, j, k⟩, m, n⟩,
    fun ⟨⟨a, b, c, d, e, g, h, i, j, k⟩, m, n⟩ => ⟨⟨a, b, c, d, e, g, h, i, j⟩, k, ⟨m, n⟩⟩⟩

theorem RouteFits.congr {r q : Route} (h : RouteFits r) (ha : q.active = r.active)
    (hp : q.pendingSwitch = r.pendingSwitch) : RouteFits q :=
  ⟨fun a e => h.active a (ha ▸ e), fun i start tag copy e => h.waiting i start tag copy (hp ▸ e)⟩

theorem FiguresFit.of_eq {s t : State} (h : FiguresFit s) (hr : t.route = s.route) (hf : t.filter = s.filter)
    (hk : t.tracker = s.tracker) : FiguresFit t := ⟨hf ▸ h.range, hk ▸ h.still, hr ▸ h.marks⟩

theorem FiguresFit.of_figures {s t : State} (h : FiguresFit s) (hr : RouteFits t.route)
    (hf : t.filter.figures = s.filter.figures) (hk : t.tracker.stillRun = s.tracker.stillRun) : FiguresFit t :=
  ⟨h.range.of_figures hf, hk ▸ h.still, hr⟩

theorem FiguresFit.of_alike {s t : State} (h : FiguresFit s) (ht : AlikeForSwitch s t) : FiguresFit t :=
  h.of_figures (ht.route ▸ h.marks) ht.figures ht.stillRun

theorem figuresFit_reset : FiguresFit State.reset := by
  refine (figuresFit_iff _).mpr ⟨filterInRange_reset, ?_, ?_⟩
  · intro r h
    cases h
  · intro i start tag copy h
    cases h

/-! ## Copies and switches -/

theorem field_lt (v : Word) (lo width : Nat) : field v lo width < 2 ^ width := Nat.mod_lt _ (Nat.two_pow_pos width)

theorem copyOf_fits (s : State) (i : ImageId) : (s.copyOf i).Fits := by
  intro st hst
  simp only [State.copyOf] at hst
  split at hst
  · obtain ⟨n, -, rfl⟩ := List.mem_map.mp hst
    exact field_lt _ 0 24
  · cases hst

theorem RouteCopy.Fits.stop {c : RouteCopy} (h : c.Fits) (i : Nat) : (c.stop i).mark < 2 ^ 24 := by
  unfold RouteCopy.stop
  by_cases hi : i < c.stops.length
  · rw [List.getD_eq_getElem _ _ hi]
    exact h _ (List.getElem_mem hi)
  · rw [List.getD_eq_default _ _ (Nat.le_of_not_lt hi)]
    decide

theorem figuresFit_switchRoute {s : State} (h : FiguresFit s) {copy : RouteCopy} (hcopy : copy.Fits) (image : ImageId)
    (start : Start) : FiguresFit (switchRoute image start copy s) where
  range := by
    refine FigureRange.of_figures ?_ (switchRoute_figures image start copy s)
    have hmark (n : Nat) : (copy.stop n).mark * 1000 ≤ 16777215000 := by
      have := hcopy.stop n
      omega
    exact { h.range with progress := hmark _ }
  still := by
    rw [switchRoute_tracker]
    exact h.still
  marks := by
    rw [switchRoute_route]
    refine ⟨fun a ha => ?_, fun i start tag c hc => ?_⟩
    · cases ha
      exact hcopy
    · cases hc

theorem RouteFits.released {r : Route} (h : RouteFits r) : RouteFits { r with pendingSwitch := .none } :=
  ⟨h.active, fun _ _ _ _ hc => nomatch hc⟩

theorem figuresFit_abandonSwitch {s : State} (h : FiguresFit s) (tag : Byte) (reason : InvalidReason) :
    FiguresFit (abandonSwitch tag reason s) :=
  h.of_figures (by simpa [abandonSwitch] using h.marks.released) (by simp [abandonSwitch]) (by simp [abandonSwitch])

theorem figuresFit_enterStop {s : State} (h : FiguresFit s) : FiguresFit (enterStop s) := by
  unfold enterStop
  split
  · rename_i image start tag copy hwait
    split
    · exact figuresFit_switchRoute h (h.marks.waiting _ _ _ _ hwait) _ _
    · exact figuresFit_abandonSwitch h _ _
  · exact h

/-- A route whose copies fit put in the place of another. -/
theorem FiguresFit.of_setRoute {s : State} (h : FiguresFit s) {r : Route} (hr : RouteFits r) :
    FiguresFit (setRoute r s) := h.of_figures (by simpa using hr) (by simp) (by simp)

theorem figuresFit_answer {s : State} (h : FiguresFit s) (tag : Byte) (kind : RequestKind) (code : ResultCode)
    (reason : Option InvalidReason) : FiguresFit (answer tag kind code reason s) :=
  h.of_eq (by simp) (by simp) (by simp)

theorem figuresFit_completeActivation {s : State} (h : FiguresFit s) {copy : RouteCopy} (hcopy : copy.Fits) :
    FiguresFit (completeActivation copy s) := by
  have hidle : FiguresFit s.idled := h.of_eq rfl rfl rfl
  unfold completeActivation
  split
  · dsimp only
    split
    · exact figuresFit_abandonSwitch hidle _ _
    · split
      · exact figuresFit_answer (figuresFit_switchRoute hidle hcopy _ _) _ _ _ _
      · refine figuresFit_answer (hidle.of_setRoute (r := { s.route with pendingSwitch := .waiting _ _ _ copy })
          ⟨h.marks.active, fun i start tag c hc => ?_⟩) _ _ _ _
        cases hc
        exact hcopy
  · exact h

theorem figuresFit_completePreview {s : State} (h : FiguresFit s) (copy : RouteCopy) :
    FiguresFit (completePreview copy s) := by
  have hidle : FiguresFit s.idled := h.of_eq rfl rfl rfl
  unfold completePreview
  split
  · exact h
  · dsimp only
    split
    · refine figuresFit_answer (hidle.of_setRoute ?_) _ _ _ _
      exact h.marks.congr rfl rfl
    · refine figuresFit_answer (hidle.of_setRoute ?_) _ _ _ _
      exact h.marks.congr rfl rfl

/-! ## Consists -/

theorem figuresFit_replaceServed {s : State} (h : FiguresFit s) (old : ActiveRoute) {new : ActiveRoute}
    (hnew : new.copy.Fits) : FiguresFit (replaceServed old new s) := by
  have hroute : RouteFits { s.route with active := some new, mismatch := false } := by
    refine ⟨fun a ha => ?_, h.marks.waiting⟩
    cases ha
    exact hnew
  cases ha : s.tracker.approach with
  | none =>
    simp only [replaceServed, ha]
    exact (h.of_setRoute hroute).of_alike (carried_composePanels _).alike
  | some a =>
    obtain ⟨u, hu, hreplace⟩ := replaceServed_enters (old := old) (new := new) ha
    obtain ⟨pending, htracker⟩ := hu.tracker
    have hreplaced : FiguresFit u := h.of_figures (hu.route ▸ hroute) hu.figures (by rw [htracker])
    rw [hreplace]
    split
    · exact figuresFit_enterStop hreplaced
    · exact hreplaced

theorem figuresFit_changePortion {s : State} (h : FiguresFit s) {r : ActiveRoute} (hr : r.copy.Fits) (p : Portion) :
    FiguresFit (changePortion r p s) := by
  have hmismatch (b : Bool) : FiguresFit (setRoute { s.route with mismatch := b } s) :=
    h.of_setRoute (h.marks.congr rfl rfl)
  unfold changePortion
  dsimp only
  split
  · exact (hmismatch true).of_eq (by simp) (by simp) (by simp)
  · split
    · exact (hmismatch false).of_eq (by simp) (by simp) (by simp)
    · exact figuresFit_replaceServed h r hr

theorem figuresFit_takeConsist {s : State} (h : FiguresFit s) (k : Consist) : FiguresFit (takeConsist k s) := by
  have hheld : FiguresFit (consistHeld k s) := by
    refine h.of_figures ?_ (by simp) (by simp)
    rw [consistHeld_route]
    exact h.marks.congr rfl rfl
  cases hr : s.route.active with
  | none =>
    rw [takeConsist_same (.inl hr)]
    exact hheld.of_alike (carried_composePanels _).alike
  | some r =>
    by_cases hp : k.portion = s.route.consist.portion
    · rw [takeConsist_same (.inr hp)]
      exact hheld.of_alike (carried_composePanels _).alike
    · rw [takeConsist_portion hr hp]
      exact figuresFit_changePortion hheld (h.marks.active r hr) _

/-! ## Reports and coast steps -/

theorem keptByPass_figuresFit : KeptByPass FiguresFit where
  carried h hs := hs.of_alike h.alike
  stop := figuresFit_enterStop

/-- A report whose figures are clamped and fit their fields (R22, Table 12-4). -/
structure ReportFits (r : Report) : Prop where
  distance : r.distance < 2 ^ 24
  speed : r.speed ≤ 15000
  day : r.daySeconds ≤ 172799

theorem reportOf_fits (g : ReportStaging) : ReportFits (reportOf g) :=
  ⟨field_lt _ 0 24, Nat.min_le_right _ _, Nat.min_le_right _ _⟩

theorem smooth_le {n v b : Nat} (hn : n ≤ b) (hv : v ≤ b) : smooth n v ≤ b := by
  unfold smooth ceilDiv
  split <;> omega

theorem lockJudged_runs {f : Filter} (h : FigureRange f) (i : Items) (v : Verdict) :
    (lockJudged i v f).consistentRun ≤ 31 ∧ (lockJudged i v f).inconsistentRun ≤ 31 := by
  cases v with
  | reference => exact ⟨h.consistent, h.inconsistent⟩
  | duplicate => exact ⟨h.consistent, h.inconsistent⟩
  | restart => exact ⟨Nat.zero_le _, Nat.min_le_left _ _⟩
  | consistent => exact ⟨Nat.min_le_left _ _, Nat.zero_le _⟩
  | inconsistent => exact ⟨Nat.zero_le _, Nat.min_le_left _ _⟩

theorem offer_door_run_le (d : DoorDeglitch) (count : Nat) (v : DoorState) : (d.offer count v).run ≤ 15 := by
  unfold DoorDeglitch.offer
  dsimp only
  split <;> omega

theorem offer_ambient_run_le (d : AmbientDeglitch) (count : Nat) (v : Ambient) : (d.offer count v).run ≤ 15 := by
  unfold AmbientDeglitch.offer
  dsimp only
  split <;> omega

theorem figureRange_settled {s : State} (h : FigureRange s.filter) {r : Report} (hr : ReportFits r) {v : Verdict}
    {n p : Nat} (hn : smoothedAfter v r s.filter n) (hp : progressAfter r s.filter p) :
    FigureRange ((Filter.reported v r s).settled r s.items n p) where
  progress := by
    have hdistance := hr.distance
    have hprogress := h.progress
    show p ≤ 16777215000
    rcases hp with rfl | rfl <;> omega
  consistent := (lockJudged_runs h s.items v).1
  inconsistent := (lockJudged_runs h s.items v).2
  smoothed := by
    show n ≤ 15000
    rcases hn with rfl | ⟨-, rfl⟩
    · exact smooth_le h.smoothed hr.speed
    · exact h.smoothed
  last := hr.speed
  day := hr.day
  previous o ho := by
    cases ho
    exact ⟨hr.speed, hr.distance⟩
  door := offer_door_run_le _ _ _
  ambient := offer_ambient_run_le _ _ _

theorem figuresFit_takeReport {s : State} (h : FiguresFit s) {r : Report} (hr : ReportFits r) :
    FiguresFit (takeReport r s) := by
  by_cases hd : classify s.items s.filter r = .duplicate
  · rw [takeReport_duplicate hd]
    exact h.of_eq (by simp) (by simp) (by simp)
  · obtain ⟨release, htake⟩ := takeReport_taken hd
    obtain ⟨n, p, hn, hp, hfigures⟩ := reportJudged_figures (classify s.items s.filter r) r s
    rw [htake]
    refine keptByPass_figuresFit.evaluateReport release ⟨?_, ?_, ?_⟩
    · exact (figureRange_settled h.range hr hn hp).of_figures (by simpa using hfigures)
    · simp only [setTracker_tracker, Tracker.counted, nextStill]
      split <;> omega
    · simpa [reportJudged] using h.marks

theorem figuresFit_readCap {s : State} (h : FiguresFit s) : FiguresFit (readCap s) :=
  h.of_alike (carried_readCap s).alike

theorem figuresFit_advanceTo {s : State} (h : FiguresFit s) (t : Time) : FiguresFit (advanceTo t s) :=
  h.of_eq (by simp) (by simp) (by simp)

theorem figuresFit_expireFreshness {s : State} (h : FiguresFit s) : FiguresFit (expireFreshness s) := by
  unfold expireFreshness
  split
  · split
    · refine FiguresFit.of_alike ?_ (carried_moveBy _ _).alike
      exact ⟨by simpa using { h.range with }, by simpa using h.still, by simpa using h.marks⟩
    · exact h
  · exact h

theorem coastProgress_le {s : State} (h : s.filter.progress ≤ 16777215000) : coastProgress s ≤ 16777215000 := by
  unfold coastProgress
  dsimp only
  omega

theorem figuresFit_fireCoastStep {s : State} (h : FiguresFit s) : FiguresFit (fireCoastStep s) := by
  unfold fireCoastStep
  split
  · rename_i t _
    have hcap : FiguresFit (readCap (advanceTo t s)) := figuresFit_readCap (figuresFit_advanceTo h t)
    have hmoved (due : Option Time) : FiguresFit (setFilter { (readCap (advanceTo t s)).filter with
        progress := coastProgress (readCap (advanceTo t s)), coastStep := due } (readCap (advanceTo t s))) := by
      refine ⟨?_, by simpa using hcap.still, by simpa using hcap.marks⟩
      rw [setFilter_filter]
      exact { hcap.range with progress := coastProgress_le hcap.range.progress }
    split
    · dsimp only
      split
      · split
        · exact hmoved _
        · exact (hmoved _).of_alike (carried_evaluateCoast _).alike
      · exact hcap
    · exact h
  · exact h

end Sys2Proof.Machine
end

section
/-! PROOFS. Every step keeps memory canonical and the counters, the starvation count and the figures in their ranges. -/

namespace Sys2Proof.Machine

/-! ## What keeps the ranges -/

/-- What keeps memory canonical (log 4), and the counters, the starvation count and the figures in their ranges. -/
structure KeepsRanges (s t : State) : Prop where
  memory : Memory.wf s.mem = true → Memory.wf t.mem = true
  counts : CountersFit s.status.counts → CountersFit t.status.counts
  starvation : s.port.starvation ≤ 16 → t.port.starvation ≤ 16
  figures : FiguresFit s → FiguresFit t

theorem KeepsRanges.refl (s : State) : KeepsRanges s s := ⟨id, id, id, id⟩

theorem KeepsRanges.trans {s t u : State} (h : KeepsRanges s t) (k : KeepsRanges t u) : KeepsRanges s u :=
  ⟨fun x => k.memory (h.memory x), fun x => k.counts (h.counts x), fun x => k.starvation (h.starvation x),
    fun x => k.figures (h.figures x)⟩

/-- What a block does while memory and the port stay as they are. -/
theorem KeepsRanges.of_block {s t : State} (hm : t.mem = s.mem ∧ t.port = s.port)
    (hc : CountersFit s.status.counts → CountersFit t.status.counts) (hf : FiguresFit s → FiguresFit t) :
    KeepsRanges s t := ⟨fun x => hm.1 ▸ x, hc, fun x => hm.2 ▸ x, hf⟩

/-- What the links, the reservation engine and the composer do apart from the filter, the tracker and the route. -/
theorem KeepsRanges.of_aside {s t : State} (h : t.mem = s.mem ∧ t.port = s.port ∧ t.route = s.route ∧
    t.filter = s.filter ∧ t.tracker = s.tracker) (hc : CountersFit s.status.counts → CountersFit t.status.counts) :
    KeepsRanges s t := by
  obtain ⟨hmem, hport, hroute, hfilter, htracker⟩ := h
  exact .of_block ⟨hmem, hport⟩ hc fun hs => hs.of_eq hroute hfilter htracker

theorem keepsRanges_foldl {α : Type} {f : State → α → State} (h : ∀ s x, KeepsRanges s (f s x)) (xs : List α)
    (s : State) : KeepsRanges s (xs.foldl f s) :=
  List.foldlRecOn (motive := KeepsRanges s) xs f (.refl s) fun _ hu x _ => hu.trans (h _ x)

/-! ## Events of the links -/

theorem keepsRanges_startEnumeration (l : LinkId) (s : State) : KeepsRanges s (startEnumeration l s) :=
  .of_aside (by simp) fun h => by simpa using h

theorem keepsRanges_clearTransaction (l : LinkId) (s : State) : KeepsRanges s (clearTransaction l s) :=
  .of_aside (by simp) fun h => by simpa using h

theorem keepsRanges_ended {f : State → State} (h : ∀ s, KeepsRanges s (f s)) (l : LinkId) (s : State) :
    KeepsRanges s (ended l f s) := by
  refine (keepsRanges_clearTransaction l s).trans ?_
  unfold ended
  dsimp only
  split
  · exact keepsRanges_startEnumeration l _
  · exact h _

theorem keepsRanges_onTransaction {f : Transaction → State → State} (h : ∀ t s, KeepsRanges s (f t s)) (l : LinkId)
    (s : State) : KeepsRanges s (onTransaction l f s) := by
  unfold onTransaction
  split
  · exact h _ s
  · exact .refl s

theorem keepsRanges_onUnit {f : UnitEntry → State → State} (h : ∀ u s, KeepsRanges s (f u s)) (l : LinkId) (a : Nat)
    (s : State) : KeepsRanges s (onUnit l a f s) := by
  unfold onUnit
  split
  · exact h _ s
  · exact .refl s

theorem keepsRanges_missTransaction (l : LinkId) (t : Transaction) (s : State) :
    KeepsRanges s (missTransaction l t s) := .of_aside (by simp) fun h => countersFit_missTransaction h l t

theorem keepsRanges_countMiss (l : LinkId) (s : State) : KeepsRanges s (countMiss l s) :=
  .of_aside (by simp) fun h => countersFit_countMiss h l

theorem keepsRanges_addressTaken (l : LinkId) (p : Page) (s : State) : KeepsRanges s (addressTaken l p s) :=
  .of_aside (by simp) fun h => countersFit_addressTaken h l p

theorem keepsRanges_takeMalformed (l : LinkId) (t : Transaction) (r : Reply) (s : State) :
    KeepsRanges s (takeMalformed l t r s) := .of_aside (by simp) fun h => countersFit_takeMalformed h l t r

/-- A wake probe answered, in time or late (R129, R133). -/
theorem keepsRanges_wakeAnswered (l : LinkId) (a : Nat) (timely busy : Bool) (s : State) :
    KeepsRanges s (afterWake l (if timely then wakeUnit l a busy s
      else wakeMissed l a (if busy then s else endEpisode l a s))) := by
  cases timely with
  | true => exact .of_aside (by simp) fun h => by simp [h]
  | false => cases busy <;> exact .of_aside (by simp) fun h => by simp [h]

theorem keepsRanges_wakeMissed (l : LinkId) (a : Nat) (s : State) : KeepsRanges s (wakeMissed l a s) :=
  .of_aside (by simp) fun h => countersFit_wakeMissed h l a

theorem keepsRanges_advanceWake (l : LinkId) (except : Option Nat) (s : State) :
    KeepsRanges s (advanceWake l except s) := .of_aside (by simp) fun h => by simp [h]

theorem keepsRanges_finishRousing (l : LinkId) (s : State) : KeepsRanges s (finishRousing l s) :=
  .of_aside (by simp) fun h => by simp [h]

/-- The wake expiry of every unit not yet probed, from the time it is due (R133). -/
theorem keepsRanges_expireWake (l : LinkId) (t : Time) (s : State) : KeepsRanges s (expireWake l t s) := by
  unfold expireWake
  dsimp only
  refine KeepsRanges.trans ?_ (keepsRanges_finishRousing l _)
  refine KeepsRanges.trans ?_ (keepsRanges_advanceWake l _ _)
  refine KeepsRanges.trans ?_ (keepsRanges_foldl (fun s a => keepsRanges_wakeMissed l a s) _ _)
  exact .of_aside (by simp) fun h => by simp [h]

theorem keepsRanges_expireRelease (x : ReleaseEntry) (s : State) :
    KeepsRanges s (expireRelease x (advanceTo x.expiry s)) := .of_aside (by simp) fun h => by simp [h]

theorem keepsRanges_expireFreshness (s : State) : KeepsRanges s (expireFreshness s) := by
  refine .of_block (by simp) (fun h => ?_) figuresFit_expireFreshness
  unfold expireFreshness
  split
  · split
    · exact (counted_setMode _ _).fit (by simpa using h)
    · exact h
  · exact h

theorem keepsRanges_fireCoastStep (s : State) : KeepsRanges s (fireCoastStep s) :=
  .of_block (by simp) (rises_fireCoastStep s).counted.fit figuresFit_fireCoastStep

/-! ## Events -/

theorem beginOwn_starvation (s : State) : (beginOwn s).port.starvation = s.port.starvation := by
  unfold beginOwn
  split
  · rfl
  · split <;> rfl

theorem keepsRanges_beginOwn (s : State) : KeepsRanges s (beginOwn s) :=
  ⟨fun h => by simpa using h, fun h => by simpa using h, fun h => (beginOwn_starvation s).symm ▸ h,
    fun h => h.of_eq (by simp) (by simp) (by simp)⟩

theorem keepsRanges_ready (s : State) : KeepsRanges s s.ready := by
  unfold State.ready
  split
  · exact keepsRanges_beginOwn s
  · exact .refl s

theorem keepsRanges_onEvent {f : State → State} (h : ∀ s, KeepsRanges s (f s)) (s : State) :
    KeepsRanges s (onEvent f s) := by
  unfold onEvent
  split
  · exact .refl s
  · exact (keepsRanges_ready s).trans (h _)

/-- An event that finds no transaction in flight, or one of another purpose, does nothing (log 3). -/
theorem keepsRanges_transactionEvent {f : Transaction → State → State} (h : ∀ t s, KeepsRanges s (f t s)) (l : LinkId)
    (s : State) : KeepsRanges s (onEvent (onTransaction l f) s) :=
  keepsRanges_onEvent (keepsRanges_onTransaction h l) s

/-- A handler that acts aside from the filter, the tracker and the route. -/
theorem keepsRanges_aside {f : State → State} (hf : ∀ s, (f s).mem = s.mem ∧ (f s).port = s.port ∧
      (f s).route = s.route ∧ (f s).filter = s.filter ∧ (f s).tracker = s.tracker)
    (hc : ∀ s, CountersFit s.status.counts → CountersFit (f s).status.counts) (s : State) : KeepsRanges s (f s) :=
  .of_aside (hf s) (hc s)

theorem keepsRanges_endedAside {f : State → State} (hf : ∀ s, (f s).mem = s.mem ∧ (f s).port = s.port ∧
      (f s).route = s.route ∧ (f s).filter = s.filter ∧ (f s).tracker = s.tracker)
    (hc : ∀ s, CountersFit s.status.counts → CountersFit (f s).status.counts) (l : LinkId) (s : State) :
    KeepsRanges s (ended l f s) := keepsRanges_ended (keepsRanges_aside hf hc) l s

/-- The events of the blocks: the timers, the next frame, and the ways a transaction ends. -/
theorem keepsRanges_event {c : Instr} {s t : State} (h : blockEvent c = true) (he : exec c s = .next t) :
    KeepsRanges s t := by
  cases c
  case freshnessExpiry => cases he; exact keepsRanges_onEvent keepsRanges_expireFreshness s
  case coastStep => cases he; exact keepsRanges_onEvent keepsRanges_fireCoastStep s
  case releaseExpiry =>
    cases he
    refine keepsRanges_onEvent (fun s => ?_) s
    split
    · exact keepsRanges_expireRelease _ s
    · exact .refl s
  case probeDeadlineExpiry l a =>
    cases he
    exact keepsRanges_onEvent (keepsRanges_onUnit (fun u => keepsRanges_aside (by simp) (by simp)) l a) s
  case backoffExpiry l a =>
    cases he
    refine keepsRanges_onEvent (keepsRanges_onUnit (fun u s => ?_) l a) s
    split
    · exact keepsRanges_aside (f := expireBackoff l a _) (by simp) (by simp) s
    · exact .refl s
  case ePaperHoldExpiry l a =>
    cases he
    refine keepsRanges_onEvent (keepsRanges_onUnit (fun u s => ?_) l a) s
    split
    · exact keepsRanges_aside (f := expireHold l a _) (by simp) (by simp) s
    · exact .refl s
  case quietDelayExpiry l =>
    cases he
    refine keepsRanges_onEvent (fun s => ?_) s
    split
    · exact keepsRanges_aside (f := expireQuiet l _) (by simp) (by simp) s
    · exact .refl s
  case wakeExpiry l =>
    cases he
    refine keepsRanges_onEvent (fun s => ?_) s
    split
    · split
      · exact keepsRanges_expireWake l _ s
      · exact .refl s
    · exact .refl s
  case nextFrameSelect l =>
    cases he
    exact keepsRanges_onEvent (keepsRanges_aside (by simp) (by simp)) s
  case openChainSent l =>
    cases he
    refine keepsRanges_transactionEvent (fun t s => ?_) l s
    split; exacts [keepsRanges_endedAside (by simp) (by simp) l s, .refl s]
  case setLevelSent l =>
    cases he
    refine keepsRanges_transactionEvent (fun t s => ?_) l s
    split; exacts [keepsRanges_endedAside (by simp) (by simp) l s, .refl s]
  case restSent l =>
    cases he
    refine keepsRanges_transactionEvent (fun t s => ?_) l s
    split; exacts [keepsRanges_endedAside (by simp) (by simp) l s, .refl s]
  case rouseSent l =>
    cases he
    refine keepsRanges_transactionEvent (fun t s => ?_) l s
    split; exacts [keepsRanges_endedAside (by simp) (by simp) l s, .refl s]
  case pageReply l _ _ _ _ =>
    cases he
    refine keepsRanges_transactionEvent (fun t s => ?_) l s
    split
    · exact keepsRanges_endedAside (by simp) (fun s h => countersFit_takeBasePage h l _) l s
    · exact keepsRanges_endedAside (by simp) (by simp) l s
    · exact .refl s
  case setAddressOk l =>
    cases he
    refine keepsRanges_transactionEvent (fun t s => ?_) l s
    split; exacts [keepsRanges_ended (keepsRanges_addressTaken l _) l s, .refl s]
  case checkProbeReply l code =>
    cases he
    refine keepsRanges_transactionEvent (fun t s => ?_) l s
    split
    · split
      · exact keepsRanges_missTransaction l t s
      · split
        · exact (keepsRanges_countMiss l s).trans (keepsRanges_ended (keepsRanges_addressTaken l _) l _)
        · exact keepsRanges_ended (keepsRanges_addressTaken l _) l s
    · exact .refl s
  case showOk l =>
    cases he
    refine keepsRanges_transactionEvent (fun t s => ?_) l s
    split; exacts [keepsRanges_endedAside (by simp) (by simp) l s, .refl s]
  case showBusy l =>
    cases he
    refine keepsRanges_transactionEvent (fun t s => ?_) l s
    split; exacts [keepsRanges_endedAside (by simp) (by simp) l s, .refl s]
  case probeReply l busy =>
    cases he
    refine keepsRanges_transactionEvent (fun t s => ?_) l s
    split
    · cases busy
      · exact keepsRanges_endedAside (f := probeOk l _) (by simp) (by simp) l s
      · exact keepsRanges_endedAside (f := probeBusy l _) (by simp) (by simp) l s
    · exact .refl s
  case backoffProbeReply l _ =>
    cases he
    refine keepsRanges_transactionEvent (fun t s => ?_) l s
    split; exacts [keepsRanges_endedAside (by simp) (fun s h => countersFit_recoverUnit h l _) l s, .refl s]
  case wakeProbeReply l busy began =>
    cases he
    refine keepsRanges_transactionEvent (fun t s => ?_) l s
    split; exacts [keepsRanges_ended (keepsRanges_wakeAnswered l _ _ busy) l s, .refl s]
  case unassignedShowEnd l ending =>
    cases he
    refine keepsRanges_transactionEvent (fun t s => ?_) l s
    split
    · cases ending
      · exact keepsRanges_ended .refl l s
      · exact keepsRanges_ended .refl l s
      · exact keepsRanges_missTransaction l t s
    · exact .refl s
  case malformedReply l r =>
    cases he
    exact keepsRanges_transactionEvent (fun t s => keepsRanges_takeMalformed l t r s) l s
  case replyWindowExpiry l =>
    cases he
    refine keepsRanges_transactionEvent (fun t s => ?_) l s
    split; exacts [keepsRanges_missTransaction l t s, .refl s]
  all_goals cases h

end Sys2Proof.Machine
end

section
/-! PROOFS. The words of the coach computer and the cycles of the memory port keep the ranges; so does every step. -/

namespace Sys2Proof.Machine

/-! ## Configuration and resets -/

theorem countersFit_reset : CountersFit State.reset.status.counts :=
  ⟨countsInRange_reset.counters, countsInRange_reset.counts⟩

theorem keepsRanges_softReset (s : State) : KeepsRanges s (softReset s) :=
  ⟨id, fun _ => countersFit_reset, fun _ => Nat.zero_le 16, fun _ => figuresFit_reset.of_eq rfl rfl rfl⟩

theorem keepsRanges_pinReset (straps : BitVec 4) (s : State) : KeepsRanges s (pinReset straps s) :=
  ⟨id, fun _ => countersFit_reset, fun _ => Nat.zero_le 16, fun _ => figuresFit_reset.of_eq rfl rfl rfl⟩

theorem keepsRanges_takeSoftReset (hold : Bool) (s : State) : KeepsRanges s (takeSoftReset hold s) := by
  unfold takeSoftReset
  split
  · exact keepsRanges_softReset s
  · split
    · exact ⟨id, id, id, fun h => h.of_eq rfl rfl rfl⟩
    · exact .refl s

theorem keepsRanges_bump (c : Counter) (s : State) : KeepsRanges s (bump c s) :=
  .of_aside (by simp) fun h => countersFit_bump h c

theorem keepsRanges_readCap (s : State) : KeepsRanges s (readCap s) :=
  .of_block (by simp) (counted_readCap s).fit figuresFit_readCap

theorem keepsRanges_takeConfig (w : Fin 32) (v : Word) (s : State) : KeepsRanges s (takeConfig w v s) := by
  have hheld : KeepsRanges s (holdItems w v s) := .of_aside ⟨rfl, rfl, rfl, rfl, rfl⟩ id
  unfold takeConfig
  split
  · exact keepsRanges_bump .configParity s
  · dsimp only
    split
    · exact keepsRanges_takeSoftReset _ s
    · refine hheld.trans (keepsRanges_foldl (fun s l => ?_) _ _)
      exact .of_aside (by simp) fun h => by simpa using h
    · refine hheld.trans (keepsRanges_foldl (fun s l => ?_) _ _)
      exact .of_aside (by simp) fun h => by simpa using h
    · exact hheld.trans (keepsRanges_readCap _)
    · exact hheld

/-! ## Requests and records -/

theorem keepsRanges_answer (tag : Byte) (kind : RequestKind) (code : ResultCode) (reason : Option InvalidReason)
    (s : State) : KeepsRanges s (answer tag kind code reason s) := .of_aside (by simp) fun h => by simpa using h

/-- A route of the same copies. -/
theorem keepsRanges_setRoute {r : Route} {s : State} (h : RouteFits s.route → RouteFits r) :
    KeepsRanges s (setRoute r s) :=
  .of_block (by simp) (fun x => by simpa using x) fun x => x.of_setRoute (h x.marks)

theorem keepsRanges_request (q : RequestUnit) (s : State) : KeepsRanges s { s with request := q } :=
  .of_aside ⟨rfl, rfl, rfl, rfl, rfl⟩ id

theorem keepsRanges_judgeActivate (v : Word) (s : State) : KeepsRanges s (judgeActivate v s) := by
  unfold judgeActivate
  split
  · split
    · exact keepsRanges_answer _ _ _ _ s
    · split
      · exact keepsRanges_answer _ _ _ _ s
      · refine KeepsRanges.trans (keepsRanges_setRoute fun h => ?_) (keepsRanges_request _ _)
        exact ⟨h.active, fun _ _ _ _ hc => nomatch hc⟩
  · exact keepsRanges_answer _ _ _ _ s

theorem keepsRanges_judgePreview (v : Word) (s : State) : KeepsRanges s (judgePreview v s) := by
  unfold judgePreview
  split
  · split
    · exact keepsRanges_answer _ _ _ _ s
    · refine KeepsRanges.trans (keepsRanges_setRoute fun h => ?_) (keepsRanges_request _ _)
      exact h.congr rfl rfl
  · exact keepsRanges_answer _ _ _ _ s

theorem keepsRanges_judgeCancel (v : Word) (s : State) : KeepsRanges s (judgeCancel v s) := by
  unfold judgeCancel
  split
  · exact KeepsRanges.trans (keepsRanges_setRoute fun h => h.released) (keepsRanges_answer _ _ _ _ _)
  · exact keepsRanges_answer _ _ _ _ s

theorem keepsRanges_judgeLinkRequest (kind : RequestKind) {act : LinkId → State → State}
    (h : ∀ l s, KeepsRanges s (act l s)) (v : Word) (s : State) : KeepsRanges s (judgeLinkRequest kind act v s) := by
  unfold judgeLinkRequest
  split
  · exact keepsRanges_answer _ _ _ _ s
  · split
    · exact keepsRanges_answer _ _ _ _ s
    · exact (keepsRanges_answer _ _ _ _ s).trans (h _ _)

theorem keepsRanges_issueRequest (kind : RequestKind) (v : Word) (s : State) :
    KeepsRanges s (issueRequest kind v s) := by
  unfold issueRequest
  split
  · exact keepsRanges_answer _ _ _ _ s
  · cases kind with
    | activateRoute => exact keepsRanges_judgeActivate v s
    | previewRoute => exact keepsRanges_judgePreview v s
    | cancelRoute => exact keepsRanges_judgeCancel v s
    | seatConfirm => exact .of_aside (by simp) fun h => by simpa using h
    | clearSeats => exact .of_aside (by simp [judgeClear]) fun h => by simpa [judgeClear] using h
    | reenumerate =>
      exact keepsRanges_judgeLinkRequest _ (fun l s => .of_aside (by simp) fun h => by simpa using h) v s
    | refresh =>
      exact keepsRanges_judgeLinkRequest _ (fun l s => .of_aside (by simp) fun h => by simpa using h) v s

theorem keepsRanges_commitReport (v : Word) (s : State) : KeepsRanges s (commitReport v s) := by
  unfold commitReport
  split
  · exact .of_block (by simp) (fun h => countersFit_takeReport h _) fun h => figuresFit_takeReport h (reportOf_fits _)
  · exact keepsRanges_bump .mailboxBad s

theorem keepsRanges_takeConsist (k : Consist) (s : State) : KeepsRanges s (takeConsist k s) :=
  .of_block (by simp) (fun h => countersFit_takeConsist h k) fun h => figuresFit_takeConsist h k

theorem keepsRanges_commitConsist (v : Word) (s : State) : KeepsRanges s (commitConsist v s) := by
  unfold commitConsist
  split
  · split
    · refine (keepsRanges_takeConsist _ s).trans (keepsRanges_foldl (fun s l => ?_) _ _)
      exact .of_aside (by simp) fun h => by simpa using h
    · exact keepsRanges_bump .mailboxBad s
  · exact keepsRanges_bump .mailboxBad s

theorem keepsRanges_commitJournal (slot : Fin 512) (v : Word) (s : State) : KeepsRanges s (commitJournal slot v s) := by
  unfold commitJournal
  split
  · exact .of_aside (by simp) fun h => countersFit_takeCommit h _
  · exact .refl s

theorem keepsRanges_takeConsumer (v : Word) (s : State) : KeepsRanges s (takeConsumer v s) := by
  unfold takeConsumer
  dsimp only
  split
  · exact .of_aside ⟨rfl, rfl, rfl, rfl, rfl⟩ id
  · exact keepsRanges_bump .consumerError s

theorem keepsRanges_handCaptured (w : CapturedWord) (v : Word) (s : State) : KeepsRanges s (handCaptured w v s) := by
  cases w with
  | config w => exact keepsRanges_takeConfig w v s
  | request w => exact keepsRanges_issueRequest _ v s
  | mailbox w =>
    unfold handCaptured
    dsimp only
    split
    · exact .of_block ⟨rfl, rfl⟩ id fun h => ⟨{ h.range with }, h.still, h.marks⟩
    · exact keepsRanges_commitReport v s
  | consist w =>
    unfold handCaptured
    dsimp only
    split
    · exact .of_block ⟨rfl, rfl⟩ id fun h => ⟨h.range, h.still, h.marks.congr rfl rfl⟩
    · exact keepsRanges_commitConsist v s
  | commit slot => exact keepsRanges_commitJournal slot v s
  | consumer => exact keepsRanges_takeConsumer v s

theorem keepsRanges_capture (w : CapturedWord) (v : Word) (s : State) : KeepsRanges s (capture w v s) := by
  unfold capture
  split
  · exact keepsRanges_handCaptured w v s
  · exact .refl s

/-! ## Cycles of the port -/

theorem keepsRanges_writeWord (a : Nat) (v : Word) (s : State) : KeepsRanges s (s.writeWord a v) :=
  ⟨fun h => writeWord_wf h a v, id, id, fun h => h.of_eq rfl rfl rfl⟩

theorem keepsRanges_writeTap (offset : Nat) (v : Word) (s : State) : KeepsRanges s (s.writeTap offset v) :=
  keepsRanges_writeWord _ v s

theorem keepsRanges_setProgress (a : Option OwnAccess) (s : State) : KeepsRanges s (setProgress a s) :=
  ⟨id, id, id, fun h => h.of_eq rfl rfl rfl⟩

theorem keepsRanges_setStarvation {n : Nat} (h : n ≤ 16) (s : State) : KeepsRanges s (setStarvation n s) :=
  ⟨id, id, fun _ => h, fun h => h.of_eq rfl rfl rfl⟩

theorem keepsRanges_countStarvation (s : State) : KeepsRanges s (countStarvation s) := by
  unfold countStarvation
  split
  · exact keepsRanges_setStarvation (Nat.min_le_left _ _) s
  · exact .refl s

theorem keepsRanges_notices (n : NoticeWriter) (s : State) : KeepsRanges s { s with notices := n } :=
  .of_aside ⟨rfl, rfl, rfl, rfl, rfl⟩ id

theorem keepsRanges_writeVisible (s : State) : KeepsRanges s (writeVisible s) := keepsRanges_writeTap _ _ s

theorem keepsRanges_writeEntry (s : State) : KeepsRanges s (writeEntry s) := by
  unfold writeEntry
  split
  · exact keepsRanges_foldl (fun s x => keepsRanges_writeTap _ _ s) _ s
  · exact .refl s

theorem keepsRanges_writeProducer (s : State) : KeepsRanges s (writeProducer s) := by
  unfold writeProducer
  split
  · exact (keepsRanges_writeTap _ _ s).trans (keepsRanges_notices _ _)
  · exact .refl s

theorem keepsRanges_writeBack (w : ViewWord) (s : State) : KeepsRanges s (writeBack w s) := by
  refine (keepsRanges_writeTap (viewOffset w) (currentValue s w) s).trans ?_
  exact .of_aside ⟨rfl, rfl, rfl, rfl, rfl⟩ id

theorem keepsRanges_completeFetch (s : State) : KeepsRanges s (completeFetch s) :=
  .of_aside (by simp) countersFit_completeFetch

theorem keepsRanges_completeImage (s : State) : KeepsRanges s (completeImage s) := by
  unfold completeImage
  split
  · exact .of_block (by simp) (fun h => countersFit_completeActivation h _) fun h =>
      figuresFit_completeActivation h (copyOf_fits s _)
  · split
    · exact .of_block (by simp) (fun h => countersFit_completePreview h _) fun h => figuresFit_completePreview h _
    · exact .refl s

theorem keepsRanges_takeReread (n : Nat) (s : State) : KeepsRanges s (takeReread n s) :=
  keepsRanges_foldl (fun u w => keepsRanges_takeConfig w _ u) _ s

theorem keepsRanges_performCycle (a : OwnAccess) (s : State) : KeepsRanges s (performCycle a s) := by
  cases a with
  | producerReset =>
    refine (keepsRanges_writeVisible s).trans ?_
    exact ⟨id, id, id, fun h => h.of_eq rfl rfl rfl⟩
  | noticeEntry => exact (keepsRanges_writeEntry s).trans (keepsRanges_setProgress _ _)
  | noticeProducer => exact (keepsRanges_writeProducer s).trans (keepsRanges_setProgress _ _)
  | producerOnly =>
    exact ((keepsRanges_writeVisible s).trans (keepsRanges_notices _ _)).trans (keepsRanges_setProgress _ _)
  | fetch => exact (keepsRanges_setProgress _ s).trans (keepsRanges_completeFetch _)
  | image n =>
    unfold performCycle
    dsimp only
    split
    · exact keepsRanges_setProgress _ s
    · split
      · exact (keepsRanges_setProgress _ s).trans (keepsRanges_completeImage _)
      · exact keepsRanges_setProgress _ s
  | status w => exact (keepsRanges_writeBack w s).trans (keepsRanges_setProgress _ _)
  | config n => exact (keepsRanges_setProgress _ s).trans (keepsRanges_takeReread n _)

/-! ## Words restored and cleared -/

theorem keepsRanges_restoreView (w : ViewWord) (s : State) : KeepsRanges s (restoreView w s) :=
  .of_aside (by simp) fun h => by simpa using h

theorem keepsRanges_restoreProducer (s : State) : KeepsRanges s (restoreProducer s) :=
  .of_aside (by simp) fun h => by simpa using h

theorem keepsRanges_clearCounter (c : Counter) (v : Word) (s : State) : KeepsRanges s (clearCounter c v s) := by
  refine .of_aside (by simp) fun h => ?_
  have hset := countersFit_setCount (c := c) h ((Nat.sub_le _ (field v 0 16)).trans (count_le_of_fit h c))
  simpa [clearCounter] using hset

theorem keepsRanges_clearLink (l : LinkId) (v : Word) (s : State) : KeepsRanges s (clearLink l v s) :=
  .of_aside (by simp) fun h => by simpa using h

/-! ## Every step -/

theorem keepsRanges_setTimebase (t : Time) (s : State) : KeepsRanges s (setTimebase t s) :=
  .of_aside (by simp) fun h => by simpa using h

/-- What is kept from a state on is kept by every part of a step. -/
theorem keptByParts_keepsRanges (s : State) : KeptByParts (KeepsRanges s) where
  queue _ _ hu := hu.trans (.of_aside ⟨rfl, rfl, rfl, rfl, rfl⟩ id)
  cutOff l u hu := hu.trans (keepsRanges_clearTransaction l u)
  bus _ _ hu := hu.trans (.of_aside ⟨rfl, rfl, rfl, rfl, rfl⟩ id)
  release straps u hu := hu.trans (keepsRanges_pinReset straps u)
  clock t u hu := hu.trans (keepsRanges_setTimebase t u)
  choice u hu := hu.trans (keepsRanges_beginOwn u)
  burst _ _ hu := hu.trans ⟨id, id, id, fun h => h.of_eq rfl rfl rfl⟩
  starvation u hu := hu.trans (keepsRanges_countStarvation u)
  cycle a u hu := (hu.trans (keepsRanges_setStarvation (Nat.zero_le 16) u)).trans (keepsRanges_performCycle a _)
  image u hu := ((hu.trans (keepsRanges_setStarvation (Nat.zero_le 16) u)).trans (keepsRanges_setProgress none _)).trans
    (keepsRanges_completeImage _)
  blocked u hu := hu.trans (keepsRanges_bump .guardBlocked u)
  word a v u hu := hu.trans (keepsRanges_writeWord a v u)
  captured w v u hu := hu.trans (keepsRanges_capture w v u)
  partly u hu := hu.trans (keepsRanges_bump .tapPartial u)
  view w u hu := hu.trans (keepsRanges_restoreView w u)
  producer u hu := hu.trans (keepsRanges_restoreProducer u)
  clearedCounter c v u hu := hu.trans (keepsRanges_clearCounter c v u)
  clearedLink l v u hu := hu.trans (keepsRanges_clearLink l v u)
  event _ _ _ hc hu _ _ he := hu.trans (keepsRanges_event hc he)

theorem keepsRanges_step {s t : State} (h : step s = .next t) : KeepsRanges s t :=
  (keptByParts_keepsRanges s).step (.refl s) h

/-- Settles O10: every part of a step keeps memory canonical and each figure in its range, and so does the step. -/
theorem stepKeepsMemoryAndFigures : Obligations.StepKeepsMemoryAndFigures := by
  intro s t h
  have hkeeps := keepsRanges_step h
  refine ⟨hkeeps.memory, fun hs => ?_, fun hrange hmarks => ?_⟩
  · have hfit := hkeeps.counts ⟨hs.counters, hs.counts⟩
    exact ⟨hfit.length, hfit.bounded, hkeeps.starvation hs.starvation⟩
  · exact (figuresFit_iff t).mp (hkeeps.figures ((figuresFit_iff s).mpr ⟨hrange, hmarks⟩))

end Sys2Proof.Machine
end

section
/-! PROOFS. The transitions of a pass: when each test of Table 3-2 is met, the round in which it is, and what the
transition leaves. -/

namespace Sys2Proof.Machine

/-! ## The tests -/

section
variable {s : State} {r : ActiveRoute} {n : Nat}

theorem beyondBerth_iff : beyondBerth s r n = true ↔ r.mark n + s.items.berthDistance < s.filter.progress / 1000 :=
  decide_eq_true_iff

theorem inBerth_iff : inBerth s r n = true ↔
    distanceTo (r.mark n) (s.filter.progress / 1000) ≤ s.items.berthDistance := decide_eq_true_iff

theorem approachMet_iff : approachMet s r n = true ↔
    r.mark n ≤ s.filter.progress / 1000 + max s.items.approachDistance (s.items.berthDistance + 1) :=
  decide_eq_true_iff

theorem departs_iff {a : Approach} : departs s r a = true ↔
    (s.filter.door.taken = .closed ∧ s.items.departSpeed < s.filter.lastSpeed) ∨
      r.mark a.current + s.items.berthDistance < s.filter.progress / 1000 := by
  rw [departs, Bool.or_eq_true, beyondBerth_iff]
  simp

theorem arrives_iff {a : Approach} {release : Bool} : arrives s r a release = true ↔
    distanceTo (r.mark (a.current + 1)) (s.filter.progress / 1000) ≤ s.items.berthDistance ∧
      (s.items.stillCount ≤ s.tracker.stillRun ∨ release = true) := by
  rw [arrives, Bool.and_eq_true, inBerth_iff]
  simp

end

/-! ## The rounds of a pass -/

section
variable {release : Bool} {x : Pass} {r : ActiveRoute} {a : Approach}

/-- The round of a pass in which the train departs (Table 3-2). -/
theorem passRound_departs (hr : x.state.route.active = some r) (ha : x.state.tracker.approach = some a)
    (hstate : a.state = .standing) (hdeparts : departs x.state r a = true) :
    passRound release x = { x with state := depart r a x.state } := by
  simp [passRound, hr, ha, hstate, hdeparts]

/-- The round of a pass in which the train comes within the approach distance (Table 3-2). -/
theorem passRound_approaches (hr : x.state.route.active = some r) (ha : x.state.tracker.approach = some a)
    (hstate : a.state = .cruising) (hbeyond : beyondBerth x.state r (a.current + 1) = false)
    (hnear : approachMet x.state r (a.current + 1) = true) :
    passRound release x = { x with state := beginApproach r a x.state } := by
  simp [passRound, hr, ha, hstate, hbeyond, hnear]

/-- The round of a pass in which the train comes within the berth (Table 3-2). -/
theorem passRound_nears (hr : x.state.route.active = some r) (ha : x.state.tracker.approach = some a)
    (hstate : a.state = .approaching) (hbeyond : beyondBerth x.state r (a.current + 1) = false)
    (hinside : inBerth x.state r (a.current + 1) = true) :
    passRound release x = { x with state := beginArriving r a x.state } := by
  simp [passRound, hr, ha, hstate, hbeyond, hinside]

/-- No test of Table 3-2 is met. -/
def NoTestMet (release : Bool) (s : State) (r : ActiveRoute) (a : Approach) : Prop :=
  match a.state with
  | .standing => departs s r a = false
  | .cruising => beyondBerth s r (a.current + 1) = false ∧ approachMet s r (a.current + 1) = false
  | .approaching => beyondBerth s r (a.current + 1) = false ∧ inBerth s r (a.current + 1) = false
  | .arriving => beyondBerth s r (a.current + 1) = false ∧ arrives s r a release = false
  | .terminated => True

/-- The round of a pass that meets no test stops it (R42). -/
theorem passRound_stays (hr : x.state.route.active = some r) (ha : x.state.tracker.approach = some a)
    (h : NoTestMet release x.state r a) : passRound release x = { x with stopped := true } := by
  unfold NoTestMet at h
  cases hstate : a.state <;> simp_all [passRound]

/-- What a round of a pass does: a departure, a passing, the beginning of an approach or of an arrival, or the end of
the pass (Table 3-2, R42). -/
theorem passRound_cases (release : Bool) (hr : x.state.route.active = some r)
    (ha : x.state.tracker.approach = some a) :
    (a.state = .standing ∧ (passRound release x).state = depart r a x.state) ∨
    (a.state ≠ .standing ∧ r.last (a.current + 1) = false ∧ (passRound release x).state = passStop r a x.state) ∨
    (a.state = .cruising ∧ (passRound release x).state = beginApproach r a x.state) ∨
    (a.state = .approaching ∧ (passRound release x).state = beginArriving r a x.state) ∨
    (passRound release x).stopped = true := by
  have hstays (h : NoTestMet release x.state r a) : (passRound release x).stopped = true := by
    rw [passRound_stays hr ha h]
  have hpasses (hmoving : a.state = .cruising ∨ a.state = .approaching ∨ a.state = .arriving)
      (hbeyond : beyondBerth x.state r (a.current + 1) = true) :
      (r.last (a.current + 1) = false ∧ (passRound release x).state = passStop r a x.state) ∨
        (passRound release x).stopped = true := by
    rw [passRound_passes hr ha hmoving hbeyond]
    cases r.last (a.current + 1) <;> simp
  cases hstate : a.state with
  | standing =>
    cases hdeparts : departs x.state r a with
    | true => rw [passRound_departs hr ha hstate hdeparts]; simp
    | false => simp [hstays (by simpa [NoTestMet, hstate] using hdeparts)]
  | cruising =>
    cases hbeyond : beyondBerth x.state r (a.current + 1) with
    | true => simpa using (hpasses (.inl hstate) hbeyond).imp_right .inr
    | false =>
      cases hnear : approachMet x.state r (a.current + 1) with
      | true => rw [passRound_approaches hr ha hstate hbeyond hnear]; simp
      | false => simp [hstays (by simpa [NoTestMet, hstate] using ⟨hbeyond, hnear⟩)]
  | approaching =>
    cases hbeyond : beyondBerth x.state r (a.current + 1) with
    | true => simpa using (hpasses (.inr (.inl hstate)) hbeyond).imp_right .inr
    | false =>
      cases hinside : inBerth x.state r (a.current + 1) with
      | true => rw [passRound_nears hr ha hstate hbeyond hinside]; simp
      | false => simp [hstays (by simpa [NoTestMet, hstate] using ⟨hbeyond, hinside⟩)]
  | arriving =>
    cases hbeyond : beyondBerth x.state r (a.current + 1) with
    | true => simpa using hpasses (.inr (.inr hstate)) hbeyond
    | false =>
      cases harrives : arrives x.state r a release with
      | true =>
        have hinside : inBerth x.state r (a.current + 1) = true := inBerth_iff.mpr (arrives_iff.mp harrives).1
        rw [passRound_arrives hr ha hstate hinside harrives]
        simp
      | false => simp [hstays (by simpa [NoTestMet, hstate] using ⟨hbeyond, harrives⟩)]
  | terminated => simp [hstays (by simp [NoTestMet, hstate])]

end

/-! ## Figures and notices -/

/-- The ETA is the time to the stop at no less than the floor speed, in whole seconds rounded up (R54). -/
theorem etaOf_eq (s : State) (d : Nat) :
    etaOf s d = min 65535 ((d * 100 + max s.filter.smoothed s.items.speedFloor - 1) /
      max s.filter.smoothed s.items.speedFloor) := by
  unfold etaOf
  split
  · rename_i hzero
    generalize max s.filter.smoothed s.items.speedFloor = v
    have hv : (v - 1) / v = 0 := by
      rcases Nat.eq_zero_or_pos v with rfl | hpos
      · rfl
      · exact Nat.div_eq_of_lt (Nat.sub_one_lt_of_lt hpos)
    simp [hzero, hv]
  · rfl

theorem raiseIf_notices (b : Bool) (n : Notice) (s : State) :
    (raiseIf b n s).notices = s.givenAll (if b then [n] else []) := by
  cases b with
  | true => exact raise_notices n s
  | false => rfl

/-- Two notices given one after the other, the second on a condition. -/
theorem raiseIf_raise_notices (b : Bool) (m n : Notice) (s : State) :
    (raiseIf b m (raise n s)).notices = s.givenAll (n :: if b then [m] else []) := by
  simp [raiseIf_notices, State.givenAll, raise_notices, State.given]

/-! ## Transitions -/

@[simp] theorem setApproach_tracker (a : Approach) (s : State) :
    (setApproach a s).tracker = { s.tracker with approach := some a } := setTracker_tracker _ s

/-- The notices of the stop ahead: NEXT_STOP, and DIVIDE_AHEAD where the stop divides (R43). -/
def aheadNotices (s : State) (r : ActiveRoute) (n : Nat) : List Notice :=
  .nextStop (r.stop n).code (etaOf s (toGo s r n)) (doorSide s.route.consist.orientation (r.stop n).side)
      s.tracker.heldEstimated ::
    if (r.stop n).divide then [.divideAhead (r.stop n).code (r.stop (r.served.length - 1)).code] else []

section
variable {r : ActiveRoute} {n : Nat} {s : State}

theorem announceNext_marked (h : s.tracker.nextStopMarks.getLsbD (r.index n) = true) : announceNext r n s = s :=
  if_pos h

theorem announceNext_unmarked (h : s.tracker.nextStopMarks.getLsbD (r.index n) = false) :
    (announceNext r n s).tracker =
      { s.tracker with nextStopMarks := setNoticeMark s.tracker.nextStopMarks (r.index n) } ∧
    (announceNext r n s).notices = s.givenAll (aheadNotices s r n) := by
  simp [announceNext, h, raiseIf_raise_notices, State.givenAll, aheadNotices]

end

@[simp] theorem announceNext_approach (r : ActiveRoute) (n : Nat) (s : State) :
    (announceNext r n s).tracker.approach = s.tracker.approach := by
  cases h : s.tracker.nextStopMarks.getLsbD (r.index n) with
  | true => rw [announceNext_marked h]
  | false => rw [(announceNext_unmarked h).1]

theorem beginApproach_approach (r : ActiveRoute) (a : Approach) (s : State) :
    (beginApproach r a s).tracker.approach = some ⟨.approaching, a.current⟩ := by
  simp [beginApproach]

theorem beginArriving_approach (r : ActiveRoute) (a : Approach) (s : State) :
    (beginArriving r a s).tracker.approach = some ⟨.arriving, a.current⟩ := by
  unfold beginArriving
  dsimp only
  split <;> simp

theorem depart_approach (r : ActiveRoute) (a : Approach) (s : State) :
    (depart r a s).tracker.approach =
      some ⟨if approachMet s r (a.current + 1) then .approaching else .cruising, a.current⟩ := by
  unfold depart
  dsimp only
  split <;> simp

/-- A passing short of the last stop leaves the train CRUISING from the stop passed (R50). -/
theorem passStop_on {r : ActiveRoute} {a : Approach} (s : State) (h : r.last (a.current + 1) = false) :
    (passStop r a s).route = s.route ∧ (passStop r a s).request = s.request ∧
      (passStop r a s).tracker.approach = some ⟨.cruising, a.current + 1⟩ := by
  simp [passStop, h]

end Sys2Proof.Machine
end

section
/-! PROOFS. The pass of a report evaluation reaches its end (O32). -/

namespace Sys2Proof.Machine

/-- The transitions an approach state has ahead of it before its next stop is passed or arrived at (Table 3-2). -/
def ApproachState.ahead : ApproachState → Nat
  | .standing => 3
  | .cruising => 2
  | .approaching => 1
  | .arriving => 0
  | .terminated => 0

/-- The rounds of a pass that can still make a transition and not stop it: three for each stop that can be passed short
of the last, and those ahead of the approach state. -/
def roundsLeft (r : ActiveRoute) (a : Approach) : Nat := 3 * (r.served.length - 2 - a.current) + a.state.ahead

/-- A round stops the pass, or leaves the route and fewer rounds (R42). -/
theorem passRound_roundsLeft (release : Bool) {x : Pass} {r : ActiveRoute} {a : Approach}
    (hr : x.state.route.active = some r) (ha : x.state.tracker.approach = some a) :
    (passRound release x).stopped = true ∨
      ((passRound release x).state.route.active = some r ∧
        ∃ b, (passRound release x).state.tracker.approach = some b ∧ roundsLeft r b < roundsLeft r a) := by
  rcases passRound_cases release hr ha with ⟨hstate, hround⟩ | ⟨-, hlast, hround⟩ | ⟨hstate, hround⟩ |
    ⟨hstate, hround⟩ | hstopped
  · refine .inr ⟨by simp [hround, hr], _, by rw [hround, depart_approach], ?_⟩
    cases approachMet x.state r (a.current + 1) <;> simp [roundsLeft, hstate, ApproachState.ahead]
  · obtain ⟨hroute, -, happroach⟩ := passStop_on x.state hlast
    refine .inr ⟨by rw [hround, hroute, hr], _, by rw [hround, happroach], ?_⟩
    have hshort : a.current + 2 < r.served.length := by simpa [ActiveRoute.last] using hlast
    simp only [roundsLeft, ApproachState.ahead]
    omega
  · refine .inr ⟨by simp [hround, hr], _, by rw [hround, beginApproach_approach], ?_⟩
    simp [roundsLeft, hstate, ApproachState.ahead]
  · refine .inr ⟨by simp [hround, hr], _, by rw [hround, beginArriving_approach], ?_⟩
    simp [roundsLeft, hstate, ApproachState.ahead]
  · exact .inl hstopped

/-- A pass without a route or without an approach state stops in its first round. -/
theorem passRound_stopped_of_none (release : Bool) {x : Pass}
    (h : x.state.route.active = none ∨ x.state.tracker.approach = none) : (passRound release x).stopped = true := by
  rcases h with h | h <;> simp [passRound, h]

theorem runPass_of_stopped (release : Bool) (n : Nat) {x : Pass} (h : x.stopped = true) :
    runPass release n x = x := by
  cases n with
  | zero => rfl
  | succ n => exact if_pos h

/-- A pass that stops in its first round has reached its end. -/
theorem runPass_stopped_of_passRound {release : Bool} (n : Nat) {x : Pass}
    (h : (passRound release x).stopped = true) : (runPass release (n + 1) x).stopped = true := by
  unfold runPass
  split
  · assumption
  · rwa [runPass_of_stopped release n h]

/-- A pass reaches its end within more rounds than it has left. -/
theorem runPass_stopped (release : Bool) {n : Nat} {x : Pass} {r : ActiveRoute} {a : Approach}
    (hr : x.state.route.active = some r) (ha : x.state.tracker.approach = some a) (hn : roundsLeft r a < n) :
    (runPass release n x).stopped = true := by
  induction n generalizing x a with
  | zero => exact absurd hn (Nat.not_lt_zero _)
  | succ n ih =>
    rcases passRound_roundsLeft release hr ha with hstopped | ⟨hroute, b, hb, hlt⟩
    · exact runPass_stopped_of_passRound n hstopped
    · unfold runPass
      split
      · assumption
      · exact ih hroute hb (by omega)

/-- Settles O32: at most 189 of the 256 rounds make a transition that does not stop the pass. -/
theorem reportPassReachesItsEnd : Obligations.ReportPassReachesItsEnd := by
  unfold Obligations.ReportPassReachesItsEnd
  intro release s hlength
  have hrounds : passRounds = 255 + 1 := rfl
  rw [hrounds]
  cases hr : s.route.active with
  | none => exact runPass_stopped_of_passRound 255 (passRound_stopped_of_none release (.inl hr))
  | some r =>
    cases ha : s.tracker.approach with
    | none => exact runPass_stopped_of_passRound 255 (passRound_stopped_of_none release (.inr ha))
    | some a =>
      refine runPass_stopped release hr ha ?_
      have hahead : a.state.ahead ≤ 3 := by cases a.state <;> decide
      have hserved := hlength r hr
      simp only [roundsLeft]
      omega

end Sys2Proof.Machine
end

section
/-! PROOFS. A round that passes a stop, arrives at it or departs from it (O33). -/

namespace Sys2Proof.Machine

/-! ## Frames of the transitions -/

/-- A transition that makes no entry into a stop changes the tracker, the panels and the notices only (R43, R44). -/
theorem changesOnly_tracking {s t : State} (h : t.pending = s.pending ∧ t.timebase = s.timebase ∧ t.bus = s.bus ∧
    t.mem = s.mem ∧ t.port = s.port ∧ t.items = s.items ∧ t.request = s.request ∧ t.route = s.route ∧
    t.filter = s.filter ∧ t.res = s.res ∧ t.status.clearPending = s.status.clearPending ∧ t.link .a = s.link .a ∧
    t.link .b = s.link .b) : ChangesOnly [.tracker, .link .p, .notices, .dirty, .counts] s t := by
  intro p hp
  cases p with
  | link l => cases l <;> simp_all [Part.same]
  | _ => simp_all [Part.same]

/-- A change of c reaches the filter, the tracker, the reservations, the links and the notices, and with no switch
waiting nothing else (R47, R50). -/
theorem changesOnly_stop {s t : State} (h : t.pending = s.pending ∧ t.timebase = s.timebase ∧ t.bus = s.bus ∧
    t.mem = s.mem ∧ t.port = s.port ∧ t.items = s.items ∧ t.status.clearPending = s.status.clearPending)
    (hroute : t.route = s.route) (hrequest : t.request = s.request) :
    ChangesOnly [.filter, .tracker, .res, .link .a, .link .b, .link .p, .notices, .dirty, .counts] s t := by
  intro p hp
  cases p with
  | link l => cases l <;> simp at hp
  | _ => simp_all [Part.same]

theorem changesOnly_depart (r : ActiveRoute) (a : Approach) (s : State) :
    ChangesOnly [.tracker, .res, .link .p, .notices, .dirty, .counts] s (depart r a s) := by
  intro p hp
  cases p with
  | link l => cases l <;> simp_all [Part.same]
  | _ => simp_all [Part.same]

/-! ## Stops passed and arrived at -/

section
variable {r : ActiveRoute} {a : Approach} {s : State}

/-- With no switch waiting, a passing leaves the route engine and the requests alone, and takes the next stop (R50). -/
theorem passStop_not_waiting (h : ∀ i st g copy, s.route.pendingSwitch ≠ .waiting i st g copy) :
    (passStop r a s).route = s.route ∧ (passStop r a s).request = s.request ∧
      (passStop r a s).tracker.approach =
        some ⟨if r.last (a.current + 1) then .terminated else .cruising, a.current + 1⟩ := by
  cases hlast : r.last (a.current + 1) with
  | false => exact passStop_on s hlast
  | true =>
    obtain ⟨u, hpass, halike, hrequest, happroach⟩ := passStop_enters s hlast
    rw [hpass, enterStop_of_not_waiting (halike.route.symm ▸ h)]
    exact ⟨halike.route, hrequest, happroach⟩

/-- With no switch waiting, an arrival leaves the route engine and the requests alone, and the tracker as its own
transition sets it (R47). -/
theorem arrive_not_waiting (h : ∀ i st g copy, s.route.pendingSwitch ≠ .waiting i st g copy) :
    (arrive r a s).route = s.route ∧ (arrive r a s).request = s.request ∧
      (arrive r a s).tracker = { s.tracker with
        approach := some ⟨if r.last (a.current + 1) then .terminated else .standing, a.current + 1⟩
        rawDelay := standingDelay s (r.stop (a.current + 1))
        standingPending := false
        arrivedMarks := setNoticeMark s.tracker.arrivedMarks (r.index (a.current + 1)) } := by
  unfold arrive
  dsimp only
  rw [enterStop_of_not_waiting (by simpa using h)]
  simp

end

/-- Settles O33: the test met names the round, and the round's transition what it leaves. -/
theorem roundPassesArrivesOrDeparts : Obligations.RoundPassesArrivesOrDeparts := by
  unfold Obligations.RoundPassesArrivesOrDeparts
  intro release x r ap s n p final hr ha hwait
  refine ⟨fun hmoving hbeyond => ?_, fun harriving hberth hstill => ?_, fun hstanding hdeparts => ?_⟩
  · rw [passRound_passes hr ha hmoving (beyondBerth_iff.mpr hbeyond)]
    obtain ⟨hroute, hrequest, happroach⟩ := passStop_not_waiting (r := r) (a := ap) hwait
    exact ⟨happroach, rfl, rfl, changesOnly_stop (passStop_keeps r ap s) hroute hrequest⟩
  · rw [passRound_arrives hr ha harriving (inBerth_iff.mpr hberth) (arrives_iff.mpr ⟨hberth, hstill⟩)]
    obtain ⟨hroute, hrequest, htracker⟩ := arrive_not_waiting (r := r) (a := ap) hwait
    exact ⟨congrArg Tracker.approach htracker, congrArg Tracker.rawDelay htracker,
      congrArg Tracker.arrivedMarks htracker, rfl, rfl, changesOnly_stop (arrive_keeps r ap s) hroute hrequest⟩
  · rw [passRound_departs hr ha hstanding (departs_iff.mpr hdeparts)]
    refine ⟨?_, rfl, changesOnly_depart r ap s⟩
    rw [depart_approach]
    simp only [approachMet_iff]
    rfl

end Sys2Proof.Machine
end

section
/-! PROOFS. A round that begins an approach or an arrival, or meets no test, and DOORS_AWAY after the pass (O34). -/

namespace Sys2Proof.Machine

/-! ## Approaches begun -/

section
variable {r : ActiveRoute} {a : Approach} {s : State}

theorem changesOnly_beginApproach (r : ActiveRoute) (a : Approach) (s : State) :
    ChangesOnly [.tracker, .link .p, .notices, .dirty, .counts] s (beginApproach r a s) :=
  changesOnly_tracking (by simp)

theorem changesOnly_beginArriving (r : ActiveRoute) (a : Approach) (s : State) :
    ChangesOnly [.tracker, .link .p, .notices, .dirty, .counts] s (beginArriving r a s) :=
  changesOnly_tracking (by simp)

theorem beginApproach_marked (h : s.tracker.nextStopMarks.getLsbD (r.index (a.current + 1)) = true) :
    (beginApproach r a s).tracker = { s.tracker with approach := some ⟨.approaching, a.current⟩ } ∧
    (beginApproach r a s).notices = s.notices := by
  unfold beginApproach
  rw [announceNext_marked (by simpa using h)]
  simp

theorem beginApproach_unmarked (h : s.tracker.nextStopMarks.getLsbD (r.index (a.current + 1)) = false) :
    (beginApproach r a s).tracker = { s.tracker with
      approach := some ⟨.approaching, a.current⟩
      nextStopMarks := setNoticeMark s.tracker.nextStopMarks (r.index (a.current + 1)) } ∧
    (beginApproach r a s).notices = s.givenAll (aheadNotices s r (a.current + 1)) := by
  obtain ⟨htracker, hnotices⟩ := announceNext_unmarked
    (s := composePanels (setApproach { a with state := .approaching } s)) (by simpa using h)
  unfold beginApproach
  rw [htracker, hnotices]
  simp [aheadNotices, State.givenAll, etaOf_eq, toGo]

theorem beginArriving_marked (h : s.tracker.arrivingMarks.getLsbD (r.index (a.current + 1)) = true) :
    (beginArriving r a s).tracker = { s.tracker with approach := some ⟨.arriving, a.current⟩ } ∧
    (beginArriving r a s).notices = s.notices := by
  simp [beginArriving, h]

theorem beginArriving_unmarked (h : s.tracker.arrivingMarks.getLsbD (r.index (a.current + 1)) = false) :
    (beginArriving r a s).tracker = { s.tracker with
      approach := some ⟨.arriving, a.current⟩
      arrivingMarks := setNoticeMark s.tracker.arrivingMarks (r.index (a.current + 1)) } ∧
    (beginArriving r a s).notices =
      s.given (.arriving (r.stop (a.current + 1)).code s.tracker.heldEstimated) := by
  simp [beginArriving, h, raise_notices, State.given]

end

/-! ## Doors away -/

section
variable {release : Bool} {x : Pass} {r : ActiveRoute} {a : Approach}

theorem changesOnly_doorsAway (release : Bool) (x : Pass) :
    ChangesOnly [.notices, .dirty, .counts] x.state (doorsAway release x) := by
  intro p hp
  cases p <;> simp_all [Part.same]

/-- A door release that brought no arrival, on a train with a next stop it does not stand before, gives DOORS_AWAY
(R48). -/
theorem doorsAway_given (hr : x.state.route.active = some r) (ha : x.state.tracker.approach = some a)
    (hrelease : release = true) (harrived : x.arrived = false) (hstanding : a.state ≠ .standing)
    (hterminated : a.state ≠ .terminated) :
    (doorsAway release x).notices = x.state.given (.doorsAway (r.stop (a.current + 1)).code
      x.state.filter.door.taken (toGo x.state r (a.current + 1))) := by
  have hmoving : a.state = .cruising ∨ a.state = .approaching ∨ a.state = .arriving := by
    cases hstate : a.state <;> simp_all
  rcases hmoving with h | h | h <;> simp [doorsAway, hr, ha, hrelease, harrived, h, raiseIf, raise_notices]

theorem doorsAway_none (hr : x.state.route.active = some r) (ha : x.state.tracker.approach = some a)
    (h : release = false ∨ x.arrived = true ∨ a.state = .standing ∨ a.state = .terminated) :
    doorsAway release x = x.state := by
  rcases h with h | h | h | h <;> simp [doorsAway, hr, ha, h, raiseIf]

end

/-- Settles O34: the test met names the round, the mark whether its notices are given; then the doors. -/
theorem roundApproachesAndNearsTheNextStop : Obligations.RoundApproachesAndNearsTheNextStop := by
  unfold Obligations.RoundApproachesAndNearsTheNextStop
  refine ⟨?_, fun o => by cases o <;> decide⟩
  intro release x r ap s n st p togo effective eta beyond near inside y hr ha
  have hbeyond (h : ¬ beyond) : beyondBerth s r n = false := Bool.eq_false_iff.mpr (mt beyondBerth_iff.mp h)
  have heta : etaOf s (toGo s r n) = eta := etaOf_eq s _
  refine ⟨fun hcruising hshort hnear => ?_, fun happroaching hshort hinside => ?_, fun hnone => ?_,
    fun hrelease harrived hstanding hterminated => ?_, doorsAway_none hr ha⟩
  · have hround : y = { x with state := beginApproach r ap s } :=
      passRound_approaches hr ha hcruising (hbeyond hshort) (approachMet_iff.mpr hnear)
    rw [hround]
    refine ⟨rfl, rfl, rfl, changesOnly_beginApproach r ap s, beginApproach_marked, fun hmark => ?_⟩
    obtain ⟨htracker, hnotices⟩ := beginApproach_unmarked hmark
    rw [aheadNotices, heta] at hnotices
    exact ⟨htracker, hnotices⟩
  · have hround : y = { x with state := beginArriving r ap s } :=
      passRound_nears hr ha happroaching (hbeyond hshort) (inBerth_iff.mpr hinside)
    rw [hround]
    exact ⟨rfl, rfl, rfl, changesOnly_beginArriving r ap s, beginArriving_marked, beginArriving_unmarked⟩
  · refine passRound_stays hr ha ?_
    unfold NoTestMet
    rcases hnone with ⟨hstate, hshort, hfar⟩ | ⟨hstate, hshort, hfar⟩ | ⟨hstate, hshort, hfar⟩ |
      ⟨hstate, hdoors, hberth⟩ | hstate <;> rw [hstate]
    · exact ⟨hbeyond hshort, Bool.eq_false_iff.mpr (mt approachMet_iff.mp hfar)⟩
    · exact ⟨hbeyond hshort, Bool.eq_false_iff.mpr (mt inBerth_iff.mp hfar)⟩
    · exact ⟨hbeyond hshort, Bool.eq_false_iff.mpr (mt arrives_iff.mp hfar)⟩
    · exact Bool.eq_false_iff.mpr fun h => (departs_iff.mp h).elim hdoors hberth
    · trivial
  · exact ⟨doorsAway_given hr ha hrelease harrived hstanding hterminated, changesOnly_doorsAway release x⟩

end Sys2Proof.Machine
end

section
/-! PROOFS. The arrival arithmetic toward the next stop (O35). -/

namespace Sys2Proof.Machine

/-! ## The delay displayed -/

/-- A change of the displayed delay marks the word that shows it (R56). -/
theorem isDirty_setTracker_delay {k : Tracker} {s : State} (h : s.tracker.delay ≠ k.delay) :
    (setTracker k s).isDirty (.status 5) = true :=
  dirtyRises_markStatusIf _ 2 _ _ (isDirty_markStatusIf (by simp [h]) 5 _)

section
variable {code d : Nat} {raw : Int} {s : State}

theorem showDelay_unknown (h : s.tracker.rawDelay = none) (b : Bool) (code : Nat) : showDelay b code s = s := by
  simp [showDelay, h]

theorem showDelay_same (h : s.tracker.rawDelay = some raw)
    (hsame : nextDelay s.items.delayShow s.tracker.delay raw = s.tracker.delay) (b : Bool) (code : Nat) :
    showDelay b code s = s := by
  simp [showDelay, h, hsame]

/-- A displayed delay that changes is composed and given (R56). -/
theorem showDelay_changed (h : s.tracker.rawDelay = some raw)
    (hd : nextDelay s.items.delayShow s.tracker.delay raw = d) (hne : d ≠ s.tracker.delay) :
    showDelay true code s =
      composePanels (raise (.delayChanged code d raw) (setTracker { s.tracker with delay := d } s)) := by
  simp [showDelay, h, hd, hne]

theorem showDelay_tracker (h : s.tracker.rawDelay = some raw) (code : Nat) :
    (showDelay true code s).tracker =
      { s.tracker with delay := nextDelay s.items.delayShow s.tracker.delay raw } := by
  by_cases hsame : nextDelay s.items.delayShow s.tracker.delay raw = s.tracker.delay
  · rw [showDelay_same h hsame, hsame]
  · rw [showDelay_changed h rfl hsame]
    simp

theorem showDelay_gives (h : s.tracker.rawDelay = some raw)
    (hne : nextDelay s.items.delayShow s.tracker.delay raw ≠ s.tracker.delay) (code : Nat) :
    (showDelay true code s).notices =
        s.given (.delayChanged code (nextDelay s.items.delayShow s.tracker.delay raw) raw) ∧
      (showDelay true code s).isDirty (.status 5) = true := by
  rw [showDelay_changed h rfl hne]
  refine ⟨by simp [raise_notices, State.given], ?_⟩
  exact dirtyRises_composePanels _ _ (dirtyRises_raise _ _ _ (isDirty_setTracker_delay (Ne.symm hne)))

end

/-- The displayed delay has a hysteresis of two minutes (R56). -/
theorem nextDelay_hysteresis {threshold d : Nat} {raw : Int} (hshow : 2 ≤ threshold) :
    (d = 0 → (nextDelay threshold d raw : Int) = if (threshold : Int) ≤ raw then raw else 0) ∧
    (0 < d → raw ≤ (threshold : Int) - 2 → nextDelay threshold d raw = 0) ∧
    (0 < d → (threshold : Int) - 2 < raw → (nextDelay threshold d raw : Int) = max raw 0) := by
  unfold nextDelay
  refine ⟨fun hd => ?_, fun hd hlow => ?_, fun hd hhigh => ?_⟩
  · rw [if_pos hd]
    split <;> omega
  · rw [if_neg (by omega), if_pos hlow]
  · rw [if_neg (by omega), if_neg (by omega)]
    omega

/-! ## The arithmetic -/

/-- The minute at which the train is predicted at a served position, rounded to the nearest (R55). -/
def minuteToward (s : State) (r : ActiveRoute) (n : Nat) : Nat :=
  min 2879 ((s.filter.lastDaySeconds + etaOf s (toGo s r n) + 30) / 60)

/-- The tracker with the figures toward a served position, before the displayed delay (R54, R55). -/
def Tracker.toward (s : State) (r : ActiveRoute) (n : Nat) : Tracker :=
  { s.tracker with
    distanceToGo := toGo s r n
    eta := etaOf s (toGo s r n)
    predictedMinute := minuteToward s r n
    rawDelay := delayAgainst (r.stop n) (minuteToward s r n)
    standingPending := false }

theorem arithmetic_moving {s : State} {r : ActiveRoute} {a : Approach} (standing : Bool)
    (hr : s.route.active = some r) (ha : s.tracker.approach = some a)
    (hmoving : a.state = .cruising ∨ a.state = .approaching ∨ a.state = .arriving) :
    arithmetic standing s =
      showDelay true (r.stop (a.current + 1)).code (setTracker (Tracker.toward s r (a.current + 1)) s) := by
  have hsettled : a.settled = false := by
    rcases hmoving with h | h | h <;> simp [Approach.settled, h]
  simp only [arithmetic, hr, ha, hsettled]
  rfl

/-- The arithmetic updates the displayed delay last, and leaves the other figures it has set (R54 to R56). -/
theorem showDelay_figures (b : Bool) (code : Nat) (s : State) :
    (showDelay b code s).tracker.approach = s.tracker.approach ∧
    (showDelay b code s).tracker.distanceToGo = s.tracker.distanceToGo ∧
    (showDelay b code s).tracker.eta = s.tracker.eta ∧
    (showDelay b code s).tracker.rawDelay = s.tracker.rawDelay := by
  unfold showDelay
  split
  · exact ⟨rfl, rfl, rfl, rfl⟩
  · dsimp only
    split <;> simp

theorem changesOnly_arithmetic (standing : Bool) (s : State) :
    ChangesOnly [.tracker, .link .p, .notices, .dirty, .counts] s (arithmetic standing s) :=
  changesOnly_tracking (by simp)

theorem delayAgainst_unscheduled {st : Stop} (h : 2879 < st.scheduled) (minute : Nat) :
    delayAgainst st minute = none := by
  simp [delayAgainst, Stop.scheduledStop, Nat.not_le.mpr h]

theorem delayAgainst_scheduled {st : Stop} (h : st.scheduled ≤ 2879) (minute : Nat) :
    delayAgainst st minute = some (max (-99) (min 999 ((minute : Int) - st.scheduled))) := by
  simp [delayAgainst, Stop.scheduledStop, h, clampInt]

/-- Settles O35: the figures first, then the displayed delay by the raw delay they give. -/
theorem arithmeticTowardTheNextStop : Obligations.ArithmeticTowardTheNextStop := by
  unfold Obligations.ArithmeticTowardTheNextStop
  intro s r ap standing st togo effective eta minute hr ha hfloor hshow hmoving t
  have ht : t = showDelay true st.code (setTracker (Tracker.toward s r (ap.current + 1)) s) :=
    arithmetic_moving standing hr ha hmoving
  have heta : etaOf s (toGo s r (ap.current + 1)) = eta := etaOf_eq s _
  have hminute : minuteToward s r (ap.current + 1) = minute := by rw [minuteToward, heta]
  have hraw : (Tracker.toward s r (ap.current + 1)).rawDelay = delayAgainst st minute := by
    rw [← hminute]
    rfl
  obtain ⟨happroach, hdistance, hetas, hraws⟩ :=
    showDelay_figures true st.code (setTracker (Tracker.toward s r (ap.current + 1)) s)
  rw [← ht, setTracker_tracker] at happroach hdistance hetas hraws
  rw [hraw] at hraws
  refine ⟨changesOnly_arithmetic standing s, happroach.trans ha, hdistance, hetas.trans heta, fun hnone => ?_,
    fun hscheduled => ?_⟩
  · have hunknown : (Tracker.toward s r (ap.current + 1)).rawDelay = none :=
      hraw.trans (delayAgainst_unscheduled hnone minute)
    rw [showDelay_unknown (by simpa using hunknown)] at ht
    exact ⟨by simpa [ht] using hunknown, by rw [ht, setTracker_tracker]; rfl⟩
  · have hknown := hraw.trans (delayAgainst_scheduled hscheduled minute)
    rw [delayAgainst_scheduled hscheduled] at hraws
    refine ⟨_, hraws, rfl, ?_⟩
    generalize max (-99) (min 999 ((minute : Int) - st.scheduled)) = d at hknown
    have hset : (setTracker (Tracker.toward s r (ap.current + 1)) s).tracker.rawDelay = some d := by
      rw [setTracker_tracker, hknown]
    have hdelay : t.tracker.delay = nextDelay s.items.delayShow s.tracker.delay d := by
      rw [ht, showDelay_tracker hset]
      simp [Tracker.toward]
    obtain ⟨hzero, hlow, hhigh⟩ := nextDelay_hysteresis (d := s.tracker.delay) (raw := d) hshow
    rw [hdelay]
    refine ⟨hzero, hlow, hhigh, fun hne => ?_⟩
    obtain ⟨hnotices, hdirty⟩ := showDelay_gives hset (by simpa [Tracker.toward] using hne) st.code
    rw [← ht] at hnotices hdirty
    exact ⟨by simpa [State.given, Tracker.toward] using hnotices, hdirty⟩

end Sys2Proof.Machine
end

section
/-! PROOFS. The reservation engine: what each of its operations makes of the seats, the release list and the rest. -/

namespace Sys2Proof.Machine

/-! ## Parts of the engine replaced -/

@[simp] theorem setSeats_res (es : List SeatEntry) (s : State) : (setSeats es s).res = { s.res with seats := es } := by
  unfold setSeats
  simp

@[simp] theorem setReleaseList_res (rs : List ReleaseEntry) (s : State) :
    (setReleaseList rs s).res = { s.res with releaseList := rs } := by
  unfold setReleaseList
  simp

@[simp] theorem setSeat_res (n : Nat) (e : SeatEntry) (s : State) :
    (setSeat n e s).res = { s.res with seats := s.res.seats.set (n - 1) e } := by
  unfold setSeat
  split
  · rename_i heq
    have hsame : s.res.seats.set (n - 1) e = s.res.seats := by
      refine List.ext_getElem? fun i => ?_
      rw [List.getElem?_set]
      split
      · rename_i hi
        subst hi
        split
        · rename_i hlt
          simp [heq, State.seat, hlt]
        · rename_i hge
          simp [List.getElem?_eq_none (Nat.le_of_not_lt hge)]
      · rfl
    rw [hsame]
  · simp

@[simp] theorem putSeat_res (n : Nat) (e : SeatEntry) (s : State) :
    (putSeat n e s).res = { s.res with seats := s.res.seats.set (n - 1) (resolved s e) } := by
  unfold putSeat
  simp

@[simp] theorem dropRelease_res (n : Nat) (s : State) :
    (dropRelease n s).res = { s.res with releaseList := s.res.releaseList.filter fun x => x.seat != n } :=
  setReleaseList_res _ s

/-! ## The status resolved afresh -/

/-- A status is resolved from the route in force, the current stop and the unverified flag (R76 to R78). -/
theorem resolve_congr {s t : State} (hroute : t.route = s.route) (htracker : t.tracker = s.tracker)
    (hflag : t.res.unverified = s.res.unverified) : resolve t = resolve s := by
  have hposition : position t = position s := by simp only [position, hroute, htracker]
  funext e
  simp only [resolve, decidingSegment, marksOf, hposition, hflag]

theorem resolved_congr {s t : State} (hroute : t.route = s.route) (htracker : t.tracker = s.tracker)
    (hflag : t.res.unverified = s.res.unverified) : resolved t = resolved s := by
  funext e
  simp only [resolved, resolve_congr hroute htracker hflag]

@[simp] theorem resolveAll_res (s : State) :
    (resolveAll s).res = { s.res with seats := s.res.seats.map (resolved s) } := setSeats_res _ s

/-- The unverified flag changed resolves every seat under its new value; set to what it is, it changes nothing (R66). -/
theorem setUnverified_res (b : Bool) (s : State) : (setUnverified b s).res = { s.res with
    unverified := b
    seats := if s.res.unverified = b then s.res.seats
      else s.res.seats.map (resolved { s with res := { s.res with unverified := b } }) } := by
  unfold setUnverified
  split
  · rename_i hb
    rw [← hb]
  · simp only [composeSeats_keeps, resolveAll_res, markStatus_keeps]
    rw [resolved_congr (s := { s with res := { s.res with unverified := b } }) (by simp) (by simp) (by simp)]

/-- A seat entry but for its segments and its status: what a re-tagging leaves of it. -/
def SeatEntry.bare (e : SeatEntry) : SeatEntry := { e with segments := [], resolved := .free }

/-! ## The release entries that stand -/

/-- Whether a release entry stands is read off the route in force, the current stop and the segments (R75, R80). -/
theorem releaseStands_congr {s t : State} (hroute : t.route = s.route) (htracker : t.tracker = s.tracker)
    (hsegments : t.res.seats.map SeatEntry.segments = s.res.seats.map SeatEntry.segments) :
    releaseStands t = releaseStands s := by
  have hposition : position t = position s := by simp only [position, hroute, htracker]
  have hseat (n : Nat) : (t.seat n).segments = (s.seat n).segments := by
    have hget (u : State) :
        (u.seat n).segments = (u.res.seats.map SeatEntry.segments).getD (n - 1) SeatEntry.empty.segments := by
      rw [State.seat, List.getD_map]
    rw [hget, hget, hsegments]
  funext x
  simp only [releaseStands, releaseSegment, hposition, hseat]

@[simp] theorem pruneReleases_res (s : State) :
    (pruneReleases s).res = { s.res with releaseList := s.res.releaseList.filter (releaseStands s) } :=
  setReleaseList_res _ s

/-- The engine's act at a change of the current stop (R75). -/
theorem rejudge_res (s : State) : (rejudge s).res = { s.res with
    seats := s.res.seats.map (resolved s), releaseList := s.res.releaseList.filter (releaseStands s) } := by
  unfold rejudge
  simp only [composeSeats_keeps, resolveAll_res, pruneReleases_res]
  rw [resolved_congr (s := s) (by simp) (by simp) (by simp)]

/-- What is read of the entries apart from their statuses stays. -/
theorem rejudge_seats_map {β : Type} (f : SeatEntry → β) (hf : ∀ u e, f (resolved u e) = f e) (s : State) :
    (rejudge s).res.seats.map f = s.res.seats.map f := by
  rw [rejudge_res, List.map_map]
  exact List.map_congr_left fun e _ => hf s e

/-! ## Segments tagged again -/

/-- An entry once the segments of a removed service are gone and those examined are tagged again (R69, R70). -/
def SeatEntry.retagged (examined : Segment → Bool) (r : ActiveRoute) (removed : Option Nat) (e : SeatEntry) :
    SeatEntry :=
  { e with segments := (dropService removed e).segments.map (retagSegment examined r) }

/-- What a re-tagging leaves: the segments tagged again, each entry as it was otherwise but for its status, and the
release entries that stand (R69, R70). -/
structure Retagged (examined : Segment → Bool) (r : ActiveRoute) (removed : Option Nat) (s t : State) : Prop where
  segments : t.res.seats.map SeatEntry.segments =
    s.res.seats.map fun e => (e.retagged examined r removed).segments
  bare : t.res.seats.map SeatEntry.bare = s.res.seats.map SeatEntry.bare
  releases : t.res.releaseList = s.res.releaseList.filter (releaseStands t)
  fetches : t.res.fetchQueue = s.res.fetchQueue
  unverified : t.res.unverified = s.res.unverified

/-- A map over the entries of a list with their places that leaves what `f` reads of each leaves it of the list. -/
theorem map_map_zipIdx {α β : Type} (f : α → β) (g : α × Nat → α) (h : ∀ x, f (g x) = f x.1) (xs : List α) (n : Nat) :
    ((xs.zipIdx n).map g).map f = xs.map f := by
  have hcomp : f ∘ g = f ∘ Prod.fst := funext h
  rw [List.map_map, hcomp, ← List.map_map, List.zipIdx_map_fst]

/-- What is read of the entries apart from their statuses is read of the entries tagged again. -/
theorem retag_seats_map {β : Type} (f : SeatEntry → β) (hf : ∀ u e, f (resolved u e) = f e)
    (examined : Segment → Bool) (r : ActiveRoute) (removed : Option Nat) (s : State) :
    (retag examined r removed s).res.seats.map f = s.res.seats.map fun e => f (e.retagged examined r removed) := by
  simp only [retag, composeSeats_keeps, setSeats_res]
  rw [map_map_zipIdx f _ fun x => by split; exacts [hf _ _, rfl]]
  simp only [pruneReleases_res, raiseMisrouted_keeps, setSeats_res, List.map_map]
  rfl

theorem retag_retagged (examined : Segment → Bool) (r : ActiveRoute) (removed : Option Nat) (s : State) :
    Retagged examined r removed s (retag examined r removed s) where
  segments := retag_seats_map SeatEntry.segments (fun _ _ => rfl) examined r removed s
  bare := retag_seats_map SeatEntry.bare (fun _ _ => rfl) examined r removed s
  releases := by
    have hpruned : (retag examined r removed s).res.releaseList =
        s.res.releaseList.filter (releaseStands (raiseMisrouted examined r (s.res.seats.map (dropService removed))
          (setSeats (s.res.seats.map (SeatEntry.retagged examined r removed)) s))) := by
      simp only [retag, composeSeats_keeps, setSeats_res, pruneReleases_res, raiseMisrouted_keeps, List.map_map]
      rfl
    rw [hpruned, releaseStands_congr (s := retag examined r removed s) (by simp) (by simp)]
    rw [retag_seats_map SeatEntry.segments fun _ _ => rfl]
    simp
  fetches := by simp [retag]
  unverified := by simp [retag]

/-- A re-tagging judged afterwards leaves what the re-tagging leaves. -/
theorem rejudge_retag_retagged (examined : Segment → Bool) (r : ActiveRoute) (removed : Option Nat) (s : State) :
    Retagged examined r removed s (rejudge (retag examined r removed s)) := by
  obtain ⟨hsegments, hbare, hreleases, hfetches, hflag⟩ := retag_retagged examined r removed s
  have hkept := rejudge_seats_map SeatEntry.segments (fun _ _ => rfl) (retag examined r removed s)
  have hstands := releaseStands_congr (s := retag examined r removed s) (t := rejudge (retag examined r removed s))
    (by simp) (by simp) hkept
  refine ⟨hkept.trans hsegments, (rejudge_seats_map SeatEntry.bare (fun _ _ => rfl) _).trans hbare, ?_, ?_, ?_⟩
  · rw [hstands, rejudge_res]
    simp [hreleases]
  · rw [rejudge_res]
    exact hfetches
  · rw [rejudge_res]
    exact hflag

end Sys2Proof.Machine
end

section
/-! PROOFS. A commit taken, a record applied, and what the acts on one seat make of the reservation engine. -/

namespace Sys2Proof.Machine

/-! ## Records -/

theorem insertSegment_perm (g : Segment) (gs : List Segment) : (insertSegment g gs).Perm (g :: gs) := by
  induction gs with
  | nil => exact .refl _
  | cons h rest ih =>
    unfold insertSegment
    split
    · exact .refl _
    · exact (ih.cons h).trans (.swap g h rest)

/-- The segment of a record as the seat table takes it: unconfirmed, unreleased, tagged against the route in force
(R63). -/
def RawSegment.taken (active : Option ActiveRoute) (g : RawSegment) : Segment :=
  ⟨g.service, g.fromIndex, g.toIndex, g.category.getD .standard, tagFor active g.service g.fromIndex g.toIndex, false,
    false⟩

theorem foldr_insertSegment_perm (gs : List Segment) : (gs.foldr insertSegment []).Perm gs := by
  induction gs with
  | nil => exact .refl _
  | cons g rest ih => exact (insertSegment_perm g _).trans (ih.cons g)

theorem newSegments_perm (active : Option ActiveRoute) (r : Record) :
    (newSegments active r).Perm (r.segments.map (RawSegment.taken active)) := foldr_insertSegment_perm _

/-- A record holds at most four segments (R59). -/
theorem newSegments_length_le (active : Option ActiveRoute) (r : Record) : (newSegments active r).length ≤ 4 := by
  rw [(newSegments_perm active r).length_eq, List.length_map, Record.segments, List.length_take]
  exact Nat.min_le_right _ _

/-- The entry of a seat after a newer record (R63). -/
def recordEntry (r : Record) (s : State) : SeatEntry :=
  { s.seat r.seat with version := some r.version, prioritySeating := r.w0.getLsbD 24, quietZone := r.w0.getLsbD 25,
                       segments := newSegments s.route.active r }

/-- The SEAT_MISROUTED notices of a record applied change neither the engine nor what a status is resolved from. -/
theorem foldl_raise_keeps {α : Type} (n : α → Notice) (xs : List α) (s : State) :
    (xs.foldl (fun s x => raise (n x) s) s).res = s.res ∧ (xs.foldl (fun s x => raise (n x) s) s).route = s.route ∧
    (xs.foldl (fun s x => raise (n x) s) s).tracker = s.tracker :=
  ⟨foldl_keeps State.res _ (by simp) xs s, foldl_keeps State.route _ (by simp) xs s,
    foldl_keeps State.tracker _ (by simp) xs s⟩

/-- A record applied replaces the entry of its seat, and the seat's release entry goes (R63, R83). -/
theorem applyRecord_res (r : Record) (s : State) : (applyRecord r s).res = { s.res with
    seats := s.res.seats.set (r.seat - 1) (resolved s (recordEntry r s))
    releaseList := s.res.releaseList.filter fun x => x.seat != r.seat } := by
  unfold applyRecord
  dsimp only
  simp only [composeSeat_keeps, putSeat_res]
  split
  · rename_i a ha
    obtain ⟨hres, hroute, htracker⟩ := foldl_raise_keeps (misroutedNotice a r.seat)
      ((newSegments (dropRelease r.seat s).route.active r).filter fun g => g.tag == .misrouted) (dropRelease r.seat s)
    rw [hres, resolved_congr (s := s) (by rw [hroute]; simp) (by rw [htracker]; simp) (by rw [hres]; simp)]
    simp [recordEntry, State.seat]
  · rw [resolved_congr (s := s) (by simp) (by simp) (by simp)]
    simp [recordEntry, State.seat]

/-! ## CLEAR_SEATS -/

/-- CLEAR_SEATS leaves of the engine its fetch queue and the bindings (R68). -/
theorem clearSeats_res (s : State) : (clearSeats s).res =
    ⟨s.res.fetchQueue, s.res.seats.map fun e => { SeatEntry.empty with bound := e.bound }, [], false⟩ := by
  unfold clearSeats
  simp

/-! ## Release entries inserted -/

theorem insertRelease_perm (now : Time) (x : ReleaseEntry) (xs : List ReleaseEntry) :
    (insertRelease now x xs).Perm (x :: xs) := by
  induction xs with
  | nil => exact .refl _
  | cons y rest ih =>
    unfold insertRelease
    split
    · exact .refl _
    · exact (ih.cons y).trans (.swap x y rest)

end Sys2Proof.Machine
end

section
/-! PROOFS. The operations keep the bounds of the reservation engine (R58, R61, R73, R80). -/

namespace Sys2Proof.Machine

/-! ## What keeps the bounds -/

/-- What leads from one state to another keeps the bounds of the reservation engine. -/
def KeepsBounds (s t : State) : Prop := ReservationsBounded s → ReservationsBounded t

theorem KeepsBounds.refl (s : State) : KeepsBounds s s := id

theorem KeepsBounds.trans {s t u : State} (h : KeepsBounds s t) (k : KeepsBounds t u) : KeepsBounds s u :=
  fun hs => k (h hs)

theorem KeepsBounds.of_res {s t : State} (h : t.res = s.res) : KeepsBounds s t := by
  rintro ⟨hseats, hsegments, hfetches, hreleases, hnamed⟩
  rw [← h] at *
  exact ⟨hseats, hsegments, hfetches, hreleases, hnamed⟩

/-- What leaves each entry no more segments than it had, and adds neither a commit entry nor a release entry. -/
theorem KeepsBounds.of_segments {s t : State} {f : SeatEntry → List Segment}
    (hf : ∀ e, (f e).length ≤ e.segments.length)
    (hsegments : t.res.seats.map SeatEntry.segments = s.res.seats.map f)
    (hfetches : t.res.fetchQueue.length ≤ s.res.fetchQueue.length)
    (hreleases : t.res.releaseList.Sublist s.res.releaseList) : KeepsBounds s t := by
  intro h
  refine ⟨?_, fun e he => ?_, hfetches.trans h.fetches, h.releases.sublist hreleases,
    fun x hx => h.named x (hreleases.subset hx)⟩
  · simpa [h.seats] using congrArg List.length hsegments
  · obtain ⟨d, hd, hde⟩ := List.mem_map.mp (hsegments ▸ List.mem_map_of_mem (f := SeatEntry.segments) he)
    rw [← hde]
    exact (hf d).trans (h.segments d hd)

theorem keepsBounds_foldl {α : Type} {f : State → α → State} (h : ∀ s x, KeepsBounds s (f s x)) (xs : List α)
    (s : State) : KeepsBounds s (xs.foldl f s) :=
  List.foldlRecOn (motive := KeepsBounds s) xs f (.refl s) fun _ hu x _ => hu.trans (h _ x)

theorem keepsBounds_raise (n : Notice) (s : State) : KeepsBounds s (raise n s) := .of_res (by simp)

theorem keepsBounds_bump (c : Counter) (s : State) : KeepsBounds s (bump c s) := .of_res (by simp)

theorem keepsBounds_markStatus (w : Fin 256) (s : State) : KeepsBounds s (markStatus w s) := .of_res (by simp)

theorem keepsBounds_markStatusIf (b : Bool) (w : Fin 256) (s : State) : KeepsBounds s (markStatusIf b w s) :=
  .of_res (by simp)

theorem keepsBounds_composeSeat (s : State) (n : Nat) : KeepsBounds s (composeSeat s n) := .of_res (by simp)

theorem keepsBounds_answer (tag : Byte) (kind : RequestKind) (code : ResultCode) (reason : Option InvalidReason)
    (s : State) : KeepsBounds s (answer tag kind code reason s) := .of_res (by simp)

theorem ReservationsBounded.seat_segments {s : State} (h : ReservationsBounded s) (n : Nat) :
    (s.seat n).segments.length ≤ 4 := by
  by_cases hn : n - 1 < s.res.seats.length
  · rw [State.seat, List.getD_eq_getElem _ _ hn]
    exact h.segments _ (List.getElem_mem hn)
  · rw [State.seat, List.getD_eq_default _ _ (Nat.le_of_not_lt hn)]
    decide

/-- One seat entry replaced by one of at most four segments. -/
theorem ReservationsBounded.of_set {s t : State} (h : ReservationsBounded s) {i : Nat} {e : SeatEntry}
    (he : e.segments.length ≤ 4) (hseats : t.res.seats = s.res.seats.set i e)
    (hfetches : t.res.fetchQueue = s.res.fetchQueue) (hreleases : t.res.releaseList.Sublist s.res.releaseList) :
    ReservationsBounded t := by
  refine ⟨?_, fun d hd => ?_, hfetches ▸ h.fetches, h.releases.sublist hreleases,
    fun x hx => h.named x (hreleases.subset hx)⟩
  · rw [hseats, List.length_set, h.seats]
  · rw [hseats] at hd
    rcases List.mem_or_eq_of_mem_set hd with hd | rfl
    · exact h.segments d hd
    · exact he

/-! ## Seats and segments -/

theorem keepsBounds_dropRelease (n : Nat) (s : State) : KeepsBounds s (dropRelease n s) :=
  .of_segments (f := SeatEntry.segments) (fun _ => le_rfl) (by simp) (by simp) (by simp)

theorem keepsBounds_rejudge (s : State) : KeepsBounds s (rejudge s) := by
  refine .of_segments (fun _ => le_rfl) (rejudge_seats_map SeatEntry.segments (fun _ _ => rfl) s) ?_ ?_
  · simp [rejudge_res]
  · simp [rejudge_res]

theorem keepsBounds_retag (examined : Segment → Bool) (r : ActiveRoute) (removed : Option Nat) (s : State) :
    KeepsBounds s (retag examined r removed s) := by
  obtain ⟨hsegments, -, hreleases, hfetches, -⟩ := retag_retagged examined r removed s
  refine .of_segments (fun e => ?_) hsegments (by rw [hfetches]) (hreleases ▸ List.filter_sublist)
  rw [SeatEntry.retagged, List.length_map]
  exact List.length_filter_le _ _

theorem keepsBounds_setUnverified (b : Bool) (s : State) : KeepsBounds s (setUnverified b s) := by
  refine .of_segments (f := SeatEntry.segments) (fun _ => le_rfl) ?_ ?_ ?_
  · rw [setUnverified_res]
    dsimp only
    split
    · rfl
    · rw [List.map_map]
      rfl
  · simp [setUnverified_res]
  · simp [setUnverified_res]

theorem keepsBounds_clearSeats (s : State) : KeepsBounds s (clearSeats s) := by
  refine .of_segments (f := fun _ => []) (fun _ => Nat.zero_le _) ?_ ?_ ?_
  · rw [clearSeats_res, List.map_map]
    rfl
  · simp [clearSeats_res]
  · simp [clearSeats_res]

/-! ## Commits and records -/

theorem keepsBounds_takeCommit (e : CommitEntry) (s : State) : KeepsBounds s (takeCommit e s) := by
  unfold takeCommit
  split
  · rename_i hroom
    exact fun h => ⟨h.seats, h.segments, by simpa using hroom, h.releases, h.named⟩
  · refine KeepsBounds.trans ?_ (keepsBounds_raise _ _)
    exact (keepsBounds_bump .journalOverrun s).trans (keepsBounds_setUnverified true _)

theorem keepsBounds_judgeRecord (e : CommitEntry) (r : Record) (s : State) : KeepsBounds s (judgeRecord e r s) := by
  unfold judgeRecord
  split
  · refine KeepsBounds.trans ?_ (keepsBounds_raise _ _)
    exact (keepsBounds_bump .journalTorn s).trans (keepsBounds_setUnverified true _)
  · split
    · exact keepsBounds_bump .resMalformed s
    · split
      · intro h
        refine h.of_set (i := r.seat - 1) (e := resolved s (recordEntry r s)) ?_ ?_ ?_ ?_
        · exact newSegments_length_le s.route.active r
        · simp [applyRecord_res]
        · simp [applyRecord_res]
        · simp [applyRecord_res]
      · exact keepsBounds_bump .resSuperseded s

theorem keepsBounds_completeFetch (s : State) : KeepsBounds s (completeFetch s) := by
  unfold completeFetch
  split
  · exact .refl s
  · rename_i e rest hqueue
    refine KeepsBounds.trans (fun h => ?_) (keepsBounds_judgeRecord _ _ _)
    exact ⟨h.seats, h.segments, (Nat.le_succ _).trans (by simpa [hqueue] using h.fetches), h.releases, h.named⟩

/-! ## Confirms, releases and departures -/

theorem mapSegment_length (e : SeatEntry) (g : Segment) (f : Segment → Segment) :
    (mapSegment e g f).segments.length = e.segments.length := List.length_map _

/-- A seat's entry with a segment of it changed. -/
theorem keepsBounds_putSeat_mapSegment {n : Nat} {e : SeatEntry} {s : State} (he : e = s.seat n) (g : Segment)
    (f : Segment → Segment) : KeepsBounds s (putSeat n (mapSegment e g f) s) := by
  intro h
  refine h.of_set (i := n - 1) (e := resolved s (mapSegment e g f)) ?_ (by simp) (by simp) (by simp)
  calc (mapSegment e g f).segments.length = (s.seat n).segments.length := by rw [mapSegment_length, he]
    _ ≤ 4 := h.seat_segments n

theorem keepsBounds_expireRelease (x : ReleaseEntry) (s : State) : KeepsBounds s (expireRelease x s) := by
  refine (keepsBounds_dropRelease x.seat s).trans ?_
  unfold expireRelease
  dsimp only
  split
  · exact .refl _
  · split
    · exact .refl _
    · refine KeepsBounds.trans ?_ (keepsBounds_composeSeat _ _)
      refine KeepsBounds.trans ?_ (keepsBounds_markStatus 9 _)
      refine (keepsBounds_raise _ _).trans (keepsBounds_putSeat_mapSegment ?_ _ _)
      simp [State.seat]

theorem keepsBounds_confirmSeat (tag : Byte) (n : Nat) (s : State) : KeepsBounds s (confirmSeat tag n s) := by
  unfold confirmSeat
  split
  · exact keepsBounds_answer _ _ _ _ s
  · dsimp only
    split
    · exact keepsBounds_answer _ _ _ _ s
    · rename_i g hg
      have hdrop : KeepsBounds s (if g.released then s else dropRelease n s) := by
        split
        · exact .refl s
        · exact keepsBounds_dropRelease n s
      have hseat : s.seat n = (if g.released then s else dropRelease n s).seat n := by
        split
        · rfl
        · simp [State.seat]
      refine KeepsBounds.trans ?_ (keepsBounds_answer _ _ _ _ _)
      refine KeepsBounds.trans ?_ (keepsBounds_markStatusIf _ _ _)
      split
      · exact hdrop
      · exact (hdrop.trans (keepsBounds_putSeat_mapSegment hseat _ _)).trans (keepsBounds_composeSeat _ _)

/-- A release list has at most one entry for a seat, and each names a seat (R80). -/
structure ReleasesSound (rs : List ReleaseEntry) : Prop where
  single : rs.Pairwise fun x y => x.seat ≠ y.seat
  named : ∀ x ∈ rs, 1 ≤ x.seat ∧ x.seat ≤ 128

theorem ReleasesSound.insert {rs : List ReleaseEntry} (h : ReleasesSound rs) (now : Time) {x : ReleaseEntry}
    (hnew : ∀ y ∈ rs, y.seat ≠ x.seat) (hx : 1 ≤ x.seat ∧ x.seat ≤ 128) : ReleasesSound (insertRelease now x rs) := by
  have hperm := insertRelease_perm now x rs
  refine ⟨?_, fun y hy => ?_⟩
  · rw [hperm.pairwise_iff fun hne => Ne.symm hne]
    exact List.pairwise_cons.mpr ⟨fun y hy => (hnew y hy).symm, h.single⟩
  · rcases List.mem_cons.mp (hperm.mem_iff.mp hy) with rfl | hy
    · exact hx
    · exact h.named y hy

theorem mem_seatNumbers {n : Nat} (h : n ∈ seatNumbers) : 1 ≤ n ∧ n ≤ 128 := by
  obtain ⟨i, hi, rfl⟩ := List.mem_map.mp h
  have := List.mem_range.mp hi
  omega

/-- A departure adds an entry only for a seat that has none (R81). -/
theorem releasesAfter_sound {s : State} (h : ReleasesSound s.res.releaseList) (served : List Nat) (c : Nat) :
    ReleasesSound (releasesAfter s served c) := by
  unfold releasesAfter
  refine List.foldlRecOn (motive := ReleasesSound) seatNumbers _ h fun rs hrs n hn => ?_
  split
  · split
    · exact hrs
    · rename_i hnone
      refine hrs.insert _ (fun y hy hyn => hnone ?_) (mem_seatNumbers hn)
      exact List.any_eq_true.mpr ⟨y, hy, beq_iff_eq.mpr hyn⟩
  · exact hrs

theorem keepsBounds_departed (c : Nat) (k : Lock) (s : State) : KeepsBounds s (departed c k s) := by
  unfold departed
  split
  · split
    · intro h
      obtain ⟨hsingle, hnamed⟩ := releasesAfter_sound ⟨h.releases, h.named⟩ _ c
      refine ⟨by simpa using h.seats, by simpa using h.segments, by simpa using h.fetches, ?_, ?_⟩
      · rw [setReleaseList_res]
        exact hsingle
      · rw [setReleaseList_res]
        exact hnamed
    · exact .refl s
  · exact .refl s

/-! ## Bindings -/

theorem keepsBounds_unbind (l : LinkId) (s : State) : KeepsBounds s (unbind l s) := by
  refine .of_segments (f := SeatEntry.segments) (fun _ => le_rfl) ?_ (by simp [unbind]) (by simp [unbind])
  simp only [unbind, setSeats_res, List.map_map]
  refine List.map_congr_left fun e _ => ?_
  simp only [Function.comp_apply]
  split <;> rfl

theorem keepsBounds_startEnumeration (l : LinkId) (s : State) : KeepsBounds s (startEnumeration l s) :=
  (keepsBounds_unbind l s).trans (.of_res (by simp [startEnumeration]))

theorem keepsBounds_disableLink (l : LinkId) (s : State) : KeepsBounds s (disableLink l s) :=
  (keepsBounds_unbind l s).trans (.of_res (by simp [disableLink]))

theorem keepsBounds_switchLink (before after : Bool) (l : LinkId) (s : State) :
    KeepsBounds s (switchLink before after l s) := by
  unfold switchLink
  split
  · split
    · exact keepsBounds_startEnumeration l s
    · exact .refl s
  · split
    · exact keepsBounds_disableLink l s
    · exact .refl s

theorem keepsBounds_reenumerateLink (l : LinkId) (s : State) : KeepsBounds s (reenumerateLink l s) := by
  unfold reenumerateLink
  dsimp only
  split
  · exact .of_res (by simp)
  · exact KeepsBounds.trans (.of_res (by simp)) (keepsBounds_startEnumeration l _)

theorem keepsBounds_bindSeats (l : LinkId) (a : Nat) (p : Page) (s : State) : KeepsBounds s (bindSeats l a p s) := by
  refine keepsBounds_foldl (fun s x h => ?_) _ s
  exact h.of_set (i := x.1 - 1) (e := { s.seat x.1 with bound := some ⟨l, a, x.2⟩ }) (h.seat_segments x.1) (by simp)
    (by simp) (by simp)

theorem keepsBounds_enterUnit (l : LinkId) (p : Page) (s : State) : KeepsBounds s (enterUnit l p s) := by
  have hentered : KeepsBounds s (markMany (unitBit l (s.link l).nextAddress) (onLink l (fun k => { k with
      units := k.units ++ [newEntry s l (s.link l).nextAddress p], nextAddress := (s.link l).nextAddress + 1 }) s)) :=
    .of_res (by simp)
  unfold enterUnit
  dsimp only
  split
  · split
    · exact hentered
    · exact hentered.trans (keepsBounds_bindSeats l _ p _)
  · exact hentered.trans (.of_res (by simp))
  · exact hentered

theorem keepsBounds_addressTaken (l : LinkId) (p : Page) (s : State) : KeepsBounds s (addressTaken l p s) :=
  (keepsBounds_enterUnit l p s).trans (.of_res (by simp [addressTaken]))

end Sys2Proof.Machine
end

section
/-! PROOFS. Switches, consists and reports keep the bounds of the reservation engine. -/

namespace Sys2Proof.Machine

/-! ## Switches and consists -/

theorem keepsBounds_composePanels (s : State) : KeepsBounds s (composePanels s) := .of_res (by simp)

theorem keepsBounds_readCap (s : State) : KeepsBounds s (readCap s) := .of_res (by simp)

theorem keepsBounds_setRoute (r : Route) (s : State) : KeepsBounds s (setRoute r s) := .of_res (by simp)

theorem keepsBounds_setTracker (k : Tracker) (s : State) : KeepsBounds s (setTracker k s) := .of_res (by simp)

theorem keepsBounds_setFilter (f : Filter) (s : State) : KeepsBounds s (setFilter f s) := .of_res (by simp)

theorem keepsBounds_switchRoute (image : ImageId) (start : Start) (copy : RouteCopy) (s : State) :
    KeepsBounds s (switchRoute image start copy s) := by
  unfold switchRoute
  refine KeepsBounds.trans ?_ (keepsBounds_raise _ _)
  refine KeepsBounds.trans ?_ (keepsBounds_composePanels _)
  refine KeepsBounds.trans ?_ (keepsBounds_rejudge _)
  refine KeepsBounds.trans ?_ (keepsBounds_retag _ _ _ _)
  refine KeepsBounds.trans ?_ (keepsBounds_readCap _)
  exact ((keepsBounds_setRoute _ s).trans (keepsBounds_setTracker _ _)).trans (keepsBounds_setFilter _ _)

theorem keepsBounds_abandonSwitch (tag : Byte) (reason : InvalidReason) (s : State) :
    KeepsBounds s (abandonSwitch tag reason s) := .of_res (by simp)

theorem keepsBounds_enterStop (s : State) : KeepsBounds s (enterStop s) := by
  unfold enterStop
  split
  · split
    · exact keepsBounds_switchRoute _ _ _ s
    · exact keepsBounds_abandonSwitch _ _ s
  · exact .refl s

theorem keepsBounds_idled (s : State) : KeepsBounds s s.idled := .of_res rfl

theorem keepsBounds_completeActivation (copy : RouteCopy) (s : State) :
    KeepsBounds s (completeActivation copy s) := by
  unfold completeActivation
  split
  · refine (keepsBounds_idled s).trans ?_
    dsimp only
    split
    · exact keepsBounds_abandonSwitch _ _ s.idled
    · split
      · exact (keepsBounds_switchRoute _ _ _ _).trans (keepsBounds_answer _ _ _ _ _)
      · exact (keepsBounds_setRoute _ _).trans (keepsBounds_answer _ _ _ _ _)
  · exact .refl s

theorem keepsBounds_replaceServed (old new : ActiveRoute) (s : State) :
    KeepsBounds s (replaceServed old new s) := by
  unfold replaceServed
  split
  · exact (keepsBounds_setRoute _ s).trans (keepsBounds_composePanels _)
  · have hreplaced (r : Route) (k : Tracker) : KeepsBounds s (composePanels (rejudge
        (retag (fun g => g.tag != .dormant) new none (readCap (setTracker k (setRoute r s)))))) :=
      (((((keepsBounds_setRoute r s).trans (keepsBounds_setTracker k _)).trans (keepsBounds_readCap _)).trans
        (keepsBounds_retag _ _ _ _)).trans (keepsBounds_rejudge _)).trans (keepsBounds_composePanels _)
    dsimp only
    split
    · exact (hreplaced _ _).trans (keepsBounds_enterStop _)
    · exact hreplaced _ _

theorem keepsBounds_changePortion (r : ActiveRoute) (p : Portion) (s : State) :
    KeepsBounds s (changePortion r p s) := by
  unfold changePortion
  dsimp only
  split
  · exact ((keepsBounds_setRoute _ s).trans (keepsBounds_raise _ _)).trans (keepsBounds_composePanels _)
  · split
    · exact (((keepsBounds_setRoute _ s).trans (keepsBounds_retag _ _ _ _)).trans (keepsBounds_rejudge _)).trans
        (keepsBounds_composePanels _)
    · exact keepsBounds_replaceServed _ _ s

theorem keepsBounds_consistHeld (k : Consist) (s : State) : KeepsBounds s (consistHeld k s) := .of_res (by simp)

theorem keepsBounds_takeConsist (k : Consist) (s : State) : KeepsBounds s (takeConsist k s) := by
  refine (keepsBounds_consistHeld k s).trans ?_
  unfold takeConsist
  dsimp only
  split
  · split
    · exact keepsBounds_composePanels _
    · exact keepsBounds_changePortion _ _ _
  · exact keepsBounds_composePanels _

/-! ## Transitions of the approach -/

theorem keepsBounds_handCurrent (s : State) : KeepsBounds s (handCurrent s) :=
  ((keepsBounds_rejudge s).trans (keepsBounds_composePanels _)).trans (keepsBounds_readCap _)

theorem keepsBounds_announceNext (r : ActiveRoute) (n : Nat) (s : State) : KeepsBounds s (announceNext r n s) :=
  .of_res (by simp)

theorem keepsBounds_depart (r : ActiveRoute) (a : Approach) (s : State) : KeepsBounds s (depart r a s) := by
  have hdepart (k : Tracker) (n : Notice) (c : Nat) (lock : Lock) :
      KeepsBounds s (departed c lock (composePanels (raise n (setTracker k s)))) :=
    (((keepsBounds_setTracker k s).trans (keepsBounds_raise _ _)).trans (keepsBounds_composePanels _)).trans
      (keepsBounds_departed _ _ _)
  unfold depart
  dsimp only
  split
  · exact (hdepart _ _ _ _).trans (keepsBounds_announceNext _ _ _)
  · exact hdepart _ _ _ _

theorem keepsBounds_raiseIf (b : Bool) (n : Notice) (s : State) : KeepsBounds s (raiseIf b n s) := .of_res (by simp)

theorem keepsBounds_arrive (r : ActiveRoute) (a : Approach) (s : State) : KeepsBounds s (arrive r a s) := by
  refine KeepsBounds.trans ?_ (keepsBounds_enterStop _)
  refine KeepsBounds.trans ?_ (keepsBounds_handCurrent _)
  exact (keepsBounds_setTracker _ s).trans (keepsBounds_raiseIf _ _ _)

theorem keepsBounds_passStop (r : ActiveRoute) (a : Approach) (s : State) : KeepsBounds s (passStop r a s) := by
  have hpassed (k : Tracker) (n : Notice) (c : Nat) (lock : Lock) :
      KeepsBounds s (departed c lock (handCurrent (raise n (setTracker k s)))) :=
    (((keepsBounds_setTracker k s).trans (keepsBounds_raise _ _)).trans (keepsBounds_handCurrent _)).trans
      (keepsBounds_departed _ _ _)
  cases hfinal : r.last (a.current + 1) with
  | true =>
    simp only [passStop, hfinal, if_true]
    exact (hpassed _ _ _ _).trans (keepsBounds_enterStop _)
  | false =>
    simp only [passStop, hfinal, Bool.false_eq_true, if_false]
    exact hpassed _ _ _ _

theorem keepsBounds_beginApproach (r : ActiveRoute) (a : Approach) (s : State) :
    KeepsBounds s (beginApproach r a s) := .of_res (by simp)

theorem keepsBounds_beginArriving (r : ActiveRoute) (a : Approach) (s : State) :
    KeepsBounds s (beginArriving r a s) := .of_res (by simp)

/-- A round of the pass makes one transition, or none (R42). -/
theorem keepsBounds_passRound (release : Bool) (x : Pass) : KeepsBounds x.state (passRound release x).state := by
  unfold passRound
  dsimp only
  split
  · rename_i r a hr ha
    split
    case h_1 => split; exacts [keepsBounds_depart r a _, .refl _]
    case h_2 =>
      split
      · exact keepsBounds_passStop r a _
      · split; exacts [keepsBounds_beginArriving r a _, .refl _]
    case h_3 =>
      split
      · exact keepsBounds_passStop r a _
      · split; exacts [keepsBounds_arrive r a _, .refl _]
    case h_4 =>
      split
      · exact keepsBounds_passStop r a _
      · split; exacts [keepsBounds_beginApproach r a _, .refl _]
    case h_5 => exact .refl _
  · exact .refl _

theorem keepsBounds_runPass (release : Bool) (n : Nat) (x : Pass) :
    KeepsBounds x.state (runPass release n x).state := by
  induction n generalizing x with
  | zero => exact .refl _
  | succ n ih =>
    unfold runPass
    split
    · exact .refl _
    · exact (keepsBounds_passRound release x).trans (ih _)

/-! ## Evaluations -/

theorem keepsBounds_arithmetic (b : Bool) (s : State) : KeepsBounds s (arithmetic b s) := .of_res (by simp)

theorem keepsBounds_doorsAway (release : Bool) (x : Pass) : KeepsBounds x.state (doorsAway release x) :=
  .of_res (by simp)

theorem keepsBounds_evaluateReport (release : Bool) (s : State) : KeepsBounds s (evaluateReport release s) := by
  unfold evaluateReport
  dsimp only
  refine (keepsBounds_setTracker (Tracker.counted s) s).trans ?_
  split
  · exact .refl _
  · refine KeepsBounds.trans ?_ (keepsBounds_arithmetic _ _)
    exact (keepsBounds_runPass release passRounds ⟨_, false, false, false⟩).trans (keepsBounds_doorsAway _ _)

theorem keepsBounds_evaluateCoast (s : State) : KeepsBounds s (evaluateCoast s) := by
  unfold evaluateCoast
  split
  · rename_i r a hr ha
    refine KeepsBounds.trans ?_ (keepsBounds_arithmetic _ _)
    cases a.state with
    | standing => dsimp only; split; exacts [keepsBounds_depart r a s, .refl s]
    | cruising => dsimp only; split; exacts [keepsBounds_beginApproach r a s, .refl s]
    | approaching => exact .refl s
    | arriving => exact .refl s
    | terminated => exact .refl s
  · exact .refl s

theorem keepsBounds_takeReport (r : Report) (s : State) : KeepsBounds s (takeReport r s) := by
  unfold takeReport
  dsimp only
  split
  · exact keepsBounds_bump .reportDuplicate s
  · exact KeepsBounds.trans (.of_res (by simp)) (keepsBounds_evaluateReport _ (offerStates r (moveFigures _ r
      (judgeMode s.filter.lock _ (judgeLock _ (freshen (keepReport _ r s)))))))

theorem keepsBounds_advanceTo (t : Time) (s : State) : KeepsBounds s (advanceTo t s) := .of_res (by simp)

theorem keepsBounds_fireCoastStep (s : State) : KeepsBounds s (fireCoastStep s) := by
  unfold fireCoastStep
  split
  · rename_i due hdue
    split
    · refine ((keepsBounds_advanceTo due s).trans (keepsBounds_readCap _)).trans ?_
      dsimp only
      split
      · split
        · exact keepsBounds_setFilter _ _
        · exact (keepsBounds_setFilter _ _).trans (keepsBounds_evaluateCoast _)
      · exact .refl _
    · exact .refl s
  · exact .refl s

end Sys2Proof.Machine
end

section
/-! PROOFS. Every step keeps the bounds of the reservation engine (O8). -/

namespace Sys2Proof.Machine

/-! ## Events -/

theorem keepsBounds_clearTransaction (l : LinkId) (s : State) : KeepsBounds s (clearTransaction l s) :=
  .of_res (by simp)

theorem keepsBounds_countMiss (l : LinkId) (s : State) : KeepsBounds s (countMiss l s) := .of_res (by simp)

/-- A transaction ended: its handler acts, or a waiting re-enumeration starts (R105). -/
theorem keepsBounds_ended {f : State → State} (h : ∀ s, KeepsBounds s (f s)) (l : LinkId) (s : State) :
    KeepsBounds s (ended l f s) := by
  refine (keepsBounds_clearTransaction l s).trans ?_
  unfold ended
  dsimp only
  split
  · exact keepsBounds_startEnumeration l _
  · exact h _

/-- A transaction ended whose handler leaves the reservation engine alone. -/
theorem keepsBounds_endedAside {f : State → State} (h : ∀ s, (f s).res = s.res) (l : LinkId) (s : State) :
    KeepsBounds s (ended l f s) := keepsBounds_ended (fun s => .of_res (h s)) l s

theorem keepsBounds_onEvent {f : State → State} (h : ∀ s, KeepsBounds s (f s)) (s : State) :
    KeepsBounds s (onEvent f s) := by
  unfold onEvent
  split
  · exact .refl s
  · exact KeepsBounds.trans (.of_res (by simp)) (h s.ready)

theorem keepsBounds_transactionEvent {f : Transaction → State → State} (h : ∀ t s, KeepsBounds s (f t s)) (l : LinkId)
    (s : State) : KeepsBounds s (onEvent (onTransaction l f) s) := by
  refine keepsBounds_onEvent (fun s => ?_) s
  unfold onTransaction
  split
  · exact h _ s
  · exact .refl s

/-- An event of a unit that leaves the reservation engine alone. -/
theorem keepsBounds_unitEvent {f : UnitEntry → State → State} (h : ∀ u s, (f u s).res = s.res) (l : LinkId) (a : Nat)
    (s : State) : KeepsBounds s (onEvent (onUnit l a f) s) := by
  refine keepsBounds_onEvent (fun s => ?_) s
  unfold onUnit
  split
  · exact .of_res (h _ s)
  · exact .refl s

theorem keepsBounds_missTransaction (l : LinkId) (t : Transaction) (s : State) :
    KeepsBounds s (missTransaction l t s) := by
  refine (keepsBounds_countMiss l s).trans (keepsBounds_endedAside (fun s => ?_) l _)
  split <;> simp

theorem keepsBounds_takeMalformed (l : LinkId) (t : Transaction) (r : Reply) (s : State) :
    KeepsBounds s (takeMalformed l t r s) := by
  unfold takeMalformed
  split
  · exact .refl s
  · split
    · split
      · exact (keepsBounds_countMiss l s).trans (keepsBounds_ended (keepsBounds_addressTaken l _) l _)
      · exact keepsBounds_missTransaction l t s
    · exact keepsBounds_missTransaction l t s

theorem expireWake_res (l : LinkId) (t : Time) (s : State) : (expireWake l t s).res = s.res := by
  simp only [expireWake, finishRousing_keeps, advanceWake_keeps]
  rw [foldl_keeps State.res _ (by simp)]
  simp

/-- The events of the blocks: the timers, the next frame, and the ways a transaction ends. -/
theorem keepsBounds_event {c : Instr} {s t : State} (h : blockEvent c = true) (he : exec c s = .next t) :
    KeepsBounds s t := by
  cases c
  case freshnessExpiry => cases he; exact keepsBounds_onEvent (fun s => .of_res (by simp)) s
  case coastStep => cases he; exact keepsBounds_onEvent keepsBounds_fireCoastStep s
  case releaseExpiry =>
    cases he
    refine keepsBounds_onEvent (fun s => ?_) s
    split
    · exact (keepsBounds_advanceTo _ s).trans (keepsBounds_expireRelease _ _)
    · exact .refl s
  case probeDeadlineExpiry l a => cases he; exact keepsBounds_unitEvent (by simp) l a s
  case backoffExpiry l a | ePaperHoldExpiry l a =>
    cases he
    refine keepsBounds_unitEvent (fun u s => ?_) l a s
    split <;> simp
  case quietDelayExpiry l =>
    cases he
    refine keepsBounds_onEvent (fun s => .of_res ?_) s
    split <;> simp
  case wakeExpiry l =>
    cases he
    refine keepsBounds_onEvent (fun s => .of_res ?_) s
    split
    · split
      · exact expireWake_res l _ s
      · rfl
    · rfl
  case nextFrameSelect l => cases he; exact keepsBounds_onEvent (fun s => .of_res (by simp)) s
  case openChainSent l | setLevelSent l | restSent l | rouseSent l | showOk l | showBusy l | backoffProbeReply l _ =>
    cases he
    refine keepsBounds_transactionEvent (fun t s => ?_) l s
    split; exacts [keepsBounds_endedAside (by simp) l s, .refl s]
  case pageReply l _ _ _ _ =>
    cases he
    refine keepsBounds_transactionEvent (fun t s => ?_) l s
    split
    · exact keepsBounds_endedAside (by simp) l s
    · exact keepsBounds_endedAside (by simp) l s
    · exact .refl s
  case setAddressOk l =>
    cases he
    refine keepsBounds_transactionEvent (fun t s => ?_) l s
    split; exacts [keepsBounds_ended (keepsBounds_addressTaken l _) l s, .refl s]
  case checkProbeReply l code =>
    cases he
    refine keepsBounds_transactionEvent (fun t s => ?_) l s
    split
    · split
      · exact keepsBounds_missTransaction l t s
      · split
        · exact (keepsBounds_countMiss l s).trans (keepsBounds_ended (keepsBounds_addressTaken l _) l _)
        · exact keepsBounds_ended (keepsBounds_addressTaken l _) l s
    · exact .refl s
  case probeReply l busy =>
    cases he
    refine keepsBounds_transactionEvent (fun t s => ?_) l s
    split; exacts [keepsBounds_endedAside (fun s => by cases busy <;> simp) l s, .refl s]
  case wakeProbeReply l busy began =>
    cases he
    refine keepsBounds_transactionEvent (fun t s => ?_) l s
    split; exacts [keepsBounds_endedAside (fun s => by split <;> cases busy <;> simp) l s, .refl s]
  case unassignedShowEnd l ending =>
    cases he
    refine keepsBounds_transactionEvent (fun t s => ?_) l s
    split
    · cases ending
      · exact keepsBounds_ended .refl l s
      · exact keepsBounds_ended .refl l s
      · exact keepsBounds_missTransaction l t s
    · exact .refl s
  case malformedReply l r =>
    cases he
    exact keepsBounds_transactionEvent (fun t s => keepsBounds_takeMalformed l t r s) l s
  case replyWindowExpiry l =>
    cases he
    refine keepsBounds_transactionEvent (fun t s => ?_) l s
    split; exacts [keepsBounds_missTransaction l t s, .refl s]
  all_goals cases h

/-! ## Words of the coach computer -/

theorem keepsBounds_of_reset {t : State} (h : t.res = .reset) (s : State) : KeepsBounds s t :=
  fun _ => KeepsBounds.of_res (s := State.reset) h reservationsBounded_reset

theorem keepsBounds_takeConfig (w : Fin 32) (v : Word) (s : State) : KeepsBounds s (takeConfig w v s) := by
  have hheld : KeepsBounds s (holdItems w v s) := .of_res rfl
  unfold takeConfig
  split
  · exact keepsBounds_bump .configParity s
  · dsimp only
    split
    · unfold takeSoftReset
      split
      · exact keepsBounds_of_reset rfl s
      · split
        · exact .of_res rfl
        · exact .refl s
    · exact hheld.trans (keepsBounds_foldl (fun s l => keepsBounds_switchLink _ _ l s) _ _)
    · exact hheld.trans (keepsBounds_foldl (fun s l => .of_res (by simp)) _ _)
    · exact hheld.trans (keepsBounds_readCap _)
    · exact hheld

theorem keepsBounds_judgeLinkRequest (kind : RequestKind) {act : LinkId → State → State}
    (h : ∀ l s, KeepsBounds s (act l s)) (v : Word) (s : State) : KeepsBounds s (judgeLinkRequest kind act v s) := by
  unfold judgeLinkRequest
  split
  · exact keepsBounds_answer _ _ _ _ s
  · split
    · exact keepsBounds_answer _ _ _ _ s
    · exact (keepsBounds_answer _ _ _ _ s).trans (h _ _)

/-- The route requests and the judgements of their arguments leave the reservation engine alone. -/
theorem judgeRouteRequests_res (v : Word) (s : State) : (judgeActivate v s).res = s.res ∧
    (judgePreview v s).res = s.res ∧ (judgeCancel v s).res = s.res := by
  refine ⟨?_, ?_, ?_⟩
  · unfold judgeActivate
    split
    · split
      · simp
      · split <;> simp
    · simp
  · unfold judgePreview
    split
    · split <;> simp
    · simp
  · unfold judgeCancel
    split <;> simp

theorem keepsBounds_issueRequest (kind : RequestKind) (v : Word) (s : State) :
    KeepsBounds s (issueRequest kind v s) := by
  obtain ⟨hactivate, hpreview, hcancel⟩ := judgeRouteRequests_res v s
  unfold issueRequest
  split
  · exact keepsBounds_answer _ _ _ _ s
  · cases kind with
    | activateRoute => exact .of_res hactivate
    | previewRoute => exact .of_res hpreview
    | cancelRoute => exact .of_res hcancel
    | seatConfirm => exact keepsBounds_confirmSeat _ _ s
    | clearSeats => exact (keepsBounds_clearSeats s).trans (keepsBounds_answer _ _ _ _ _)
    | reenumerate => exact keepsBounds_judgeLinkRequest _ keepsBounds_reenumerateLink v s
    | refresh => exact keepsBounds_judgeLinkRequest _ (fun l s => .of_res (by simp)) v s

theorem keepsBounds_commitConsist (v : Word) (s : State) : KeepsBounds s (commitConsist v s) := by
  unfold commitConsist
  split
  · split
    · exact (keepsBounds_takeConsist _ s).trans (keepsBounds_foldl (fun s l => .of_res (by simp)) _ _)
    · exact keepsBounds_bump .mailboxBad s
  · exact keepsBounds_bump .mailboxBad s

theorem keepsBounds_handCaptured (w : CapturedWord) (v : Word) (s : State) : KeepsBounds s (handCaptured w v s) := by
  cases w with
  | config w => exact keepsBounds_takeConfig w v s
  | request w => exact keepsBounds_issueRequest _ v s
  | mailbox w =>
    unfold handCaptured commitReport
    dsimp only
    split
    · exact .of_res rfl
    · split
      · exact keepsBounds_takeReport _ s
      · exact keepsBounds_bump .mailboxBad s
  | consist w =>
    unfold handCaptured
    dsimp only
    split
    · exact .of_res rfl
    · exact keepsBounds_commitConsist v s
  | commit slot =>
    unfold handCaptured commitJournal
    dsimp only
    split
    · exact keepsBounds_takeCommit _ s
    · exact .refl s
  | consumer =>
    unfold handCaptured takeConsumer
    dsimp only
    split
    · exact .of_res rfl
    · exact keepsBounds_bump .consumerError s

theorem keepsBounds_capture (w : CapturedWord) (v : Word) (s : State) : KeepsBounds s (capture w v s) := by
  unfold capture
  split
  · exact keepsBounds_handCaptured w v s
  · exact .refl s

/-! ## Cycles of the port -/

theorem keepsBounds_completeImage (s : State) : KeepsBounds s (completeImage s) := by
  unfold completeImage
  split
  · exact keepsBounds_completeActivation _ s
  · split
    · exact .of_res (by simp)
    · exact .refl s

theorem writeEntry_res (s : State) : (writeEntry s).res = s.res := by
  unfold writeEntry
  split
  · exact foldl_keeps State.res _ (by simp) _ s
  · rfl

theorem keepsBounds_performCycle (a : OwnAccess) (s : State) : KeepsBounds s (performCycle a s) := by
  have hprogress (p : Option OwnAccess) : KeepsBounds s (setProgress p s) := .of_res (by simp)
  cases a with
  | producerReset => exact .of_res (by simp [performCycle])
  | noticeEntry => exact .of_res (by simp [performCycle, writeEntry_res])
  | noticeProducer => exact .of_res (by simp [performCycle])
  | producerOnly => exact .of_res (by simp [performCycle])
  | fetch => exact (hprogress none).trans (keepsBounds_completeFetch _)
  | image n =>
    unfold performCycle
    dsimp only
    split
    · exact hprogress none
    · split
      · exact (hprogress none).trans (keepsBounds_completeImage _)
      · exact hprogress _
  | status w => exact .of_res (by simp [performCycle])
  | config n => exact (hprogress _).trans (keepsBounds_foldl (fun u w => keepsBounds_takeConfig w _ u) _ _)

/-! ## Every step -/

/-- Every part of a step keeps the bounds. -/
theorem keptByParts_reservationsBounded : KeptByParts ReservationsBounded where
  queue _ _ := KeepsBounds.of_res rfl
  cutOff l s := keepsBounds_clearTransaction l s
  bus _ _ := KeepsBounds.of_res rfl
  release straps s := keepsBounds_of_reset rfl s
  clock t s := KeepsBounds.of_res (by simp)
  choice s := KeepsBounds.of_res (by simp)
  burst b s := KeepsBounds.of_res (by simp)
  starvation s := KeepsBounds.of_res (by unfold countStarvation; split <;> simp)
  cycle a s := KeepsBounds.trans (.of_res (by simp)) (keepsBounds_performCycle a (setStarvation 0 s))
  image s := KeepsBounds.trans (.of_res (by simp)) (keepsBounds_completeImage (setProgress none (setStarvation 0 s)))
  blocked s := keepsBounds_bump .guardBlocked s
  word a v s := KeepsBounds.of_res (by simp)
  captured w v s := keepsBounds_capture w v s
  partly s := keepsBounds_bump .tapPartial s
  view w s := KeepsBounds.of_res (by simp)
  producer s := KeepsBounds.of_res (by simp)
  clearedCounter c v s := KeepsBounds.of_res (by simp)
  clearedLink l v s := KeepsBounds.of_res (by simp)
  event _ _ _ hc hs _ _ he := keepsBounds_event hc he hs

/-- Settles O8: every part of a step keeps the bounds of the reservation engine, and so does the step. -/
theorem stepKeepsTheReservationBounds : Obligations.StepKeepsTheReservationBounds :=
  fun _ _ h he => keptByParts_reservationsBounded.step h he

end Sys2Proof.Machine
end

section
/-! PROOFS. The phase of a segment, the deciding segment of a seat and the status it gives (O27). -/

namespace Sys2Proof.Machine

/-! ## Phases -/

section
variable {served : List Nat} {c : Nat} {g : Segment}

/-- The phase that a place against the current stop gives (Table 5-1). -/
def phaseAt (c fp tp : Nat) : Phase := if c < fp then .upcoming else if c < tp then .now else .ended

theorem phaseAt_upcoming_iff {c fp tp : Nat} : phaseAt c fp tp = .upcoming ↔ c < fp := by
  unfold phaseAt
  grind

theorem phaseAt_now_iff {c fp tp : Nat} : phaseAt c fp tp = .now ↔ fp ≤ c ∧ c < tp := by
  unfold phaseAt
  grind

theorem phaseAt_ended_iff {c fp tp : Nat} : phaseAt c fp tp = .ended ↔ fp ≤ c ∧ tp ≤ c := by
  unfold phaseAt
  grind

/-- A segment has a phase where it is LIVE and both its stops are served (R74). -/
theorem segmentPhase_eq_some_iff {p : Phase} : segmentPhase served c g = some p ↔ g.tag = .live ∧
    ∃ fp tp, served.idxOf? g.fromIndex = some fp ∧ served.idxOf? g.toIndex = some tp ∧ phaseAt c fp tp = p := by
  unfold segmentPhase positionIn
  split
  · rename_i htag
    rcases hfrom : served.idxOf? g.fromIndex with _ | fp
    · simp
    · rcases hto : served.idxOf? g.toIndex with _ | tp
      · simp
      · simp [htag, phaseAt]
  · rename_i htag
    simp [htag]

theorem segmentPhase_now_iff : segmentPhase served c g = some .now ↔ g.isNow served c := by
  simp only [segmentPhase_eq_some_iff, phaseAt_now_iff, Segment.isNow]

theorem segmentPhase_ended_iff : segmentPhase served c g = some .ended ↔ g.hasEnded served c := by
  simp only [segmentPhase_eq_some_iff, phaseAt_ended_iff, Segment.hasEnded]

theorem segmentPhase_upcoming_iff : segmentPhase served c g = some .upcoming ↔ ∃ fp, g.isUpcoming served c fp := by
  simp only [segmentPhase_eq_some_iff, phaseAt_upcoming_iff, Segment.isUpcoming]
  constructor
  · rintro ⟨htag, fp, tp, hfrom, hto, hahead⟩
    exact ⟨fp, htag, ⟨tp, hto⟩, hfrom, hahead⟩
  · rintro ⟨fp, htag, ⟨tp, hto⟩, hfrom, hahead⟩
    exact ⟨htag, fp, tp, hfrom, hto, hahead⟩

end

/-! ## The segments looked for -/

theorem FirstOf.met {p : Segment → Prop} {gs : List Segment} {g : Segment} (h : FirstOf p gs g) : p g := by
  obtain ⟨-, -, -, hp, -⟩ := h
  exact hp

/-- The first segment that meets a condition is the one found by its test. -/
theorem firstOf_iff_find? {p : Segment → Prop} {q : Segment → Bool} (h : ∀ g, q g = true ↔ p g) {gs : List Segment}
    {g : Segment} : FirstOf p gs g ↔ gs.find? q = some g := by
  rw [List.find?_eq_some_iff_append]
  constructor
  · rintro ⟨before, after, hgs, hp, hbefore⟩
    exact ⟨(h g).mpr hp, before, after, hgs, fun a ha => by simpa [← h a] using hbefore a ha⟩
  · rintro ⟨hq, before, after, hgs, hbefore⟩
    exact ⟨before, after, hgs, (h g).mp hq, fun a ha => by simpa [← h a] using hbefore a ha⟩

section
variable {served : List Nat} {c : Nat} {gs : List Segment} {g : Segment}

theorem nowSegment_eq_some_iff : nowSegment served c gs = some g ↔ FirstOf (fun g => g.isNow served c) gs g :=
  (firstOf_iff_find? fun g => by rw [beq_iff_eq, segmentPhase_now_iff]).symm

theorem nowSegment_eq_none_iff : nowSegment served c gs = none ↔ ∀ h ∈ gs, ¬ h.isNow served c := by
  simp only [nowSegment, List.find?_eq_none, beq_iff_eq, segmentPhase_now_iff]

/-- The better of the nearest UPCOMING segment so far and the next of the list (R74). -/
def nearerUpcoming (served : List Nat) (c : Nat) (best : Option Segment) (g : Segment) : Option Segment :=
  if segmentPhase served c g = some .upcoming then
    match best with
    | none => some g
    | some b => if (positionIn served g.fromIndex).getD 0 < (positionIn served b.fromIndex).getD 0 then some g else best
  else best

theorem nearestUpcoming_eq_foldl : nearestUpcoming served c gs = gs.foldl (nearerUpcoming served c) none := rfl

theorem nearerUpcoming_of_not_upcoming (h : ∀ fp, ¬ g.isUpcoming served c fp) (best : Option Segment) :
    nearerUpcoming served c best g = best :=
  if_neg fun hphase => (segmentPhase_upcoming_iff.mp hphase).elim h

theorem nearerUpcoming_none {fp : Nat} (h : g.isUpcoming served c fp) : nearerUpcoming served c none g = some g :=
  if_pos (segmentPhase_upcoming_iff.mpr ⟨fp, h⟩)

theorem nearerUpcoming_some {b : Segment} {fp x : Nat} (h : g.isUpcoming served c fp) (hb : b.isUpcoming served c x) :
    nearerUpcoming served c (some b) g = if fp < x then some g else some b := by
  have hg : positionIn served g.fromIndex = some fp := h.2.2.1
  have hx : positionIn served b.fromIndex = some x := hb.2.2.1
  rw [nearerUpcoming, if_pos (segmentPhase_upcoming_iff.mpr ⟨fp, h⟩)]
  simp only [hg, hx, Option.getD_some]

/-- The search holds nothing, or an UPCOMING segment whose from-stop lies beyond a served position. -/
def HeldBeyond (served : List Nat) (c fp : Nat) (best : Option Segment) : Prop :=
  best = none ∨ ∃ b x, best = some b ∧ b.isUpcoming served c x ∧ fp < x

theorem heldBeyond_nearerUpcoming {fp : Nat} {best : Option Segment} (hbest : HeldBeyond served c fp best)
    (h : ∀ x, g.isUpcoming served c x → fp < x) : HeldBeyond served c fp (nearerUpcoming served c best g) := by
  by_cases hup : ∃ x, g.isUpcoming served c x
  · obtain ⟨x, hx⟩ := hup
    have hheld : HeldBeyond served c fp (some g) := .inr ⟨g, x, rfl, hx, h x hx⟩
    rcases hbest with rfl | ⟨b, y, rfl, hb, hy⟩
    · rwa [nearerUpcoming_none hx]
    · rw [nearerUpcoming_some hx hb]
      split
      · exact hheld
      · exact .inr ⟨b, y, rfl, hb, hy⟩
  · rwa [nearerUpcoming_of_not_upcoming (not_exists.mp hup)]

/-- The search ends at the nearest UPCOMING segment: what it held before lies beyond it, and nothing after it lies
nearer (R74). -/
theorem nearestUpcoming_eq_some (h : NearestUpcoming served c gs g) : nearestUpcoming served c gs = some g := by
  obtain ⟨before, after, fp, rfl, hg, hbefore, hafter⟩ := h
  have hheld : HeldBeyond served c fp (before.foldl (nearerUpcoming served c) none) :=
    List.foldlRecOn (motive := HeldBeyond served c fp) before _ (.inl rfl) fun best hbest h hh =>
      heldBeyond_nearerUpcoming hbest (hbefore h hh)
  have htaken : nearerUpcoming served c (before.foldl (nearerUpcoming served c) none) g = some g := by
    rcases hheld with hnone | ⟨b, x, hb, hup, hx⟩
    · rw [hnone, nearerUpcoming_none hg]
    · rw [hb, nearerUpcoming_some hg hup, if_pos hx]
  rw [nearestUpcoming_eq_foldl, List.foldl_append, List.foldl_cons, htaken]
  refine List.foldlRecOn (motive := (· = some g)) after _ rfl fun best hbest h hh => ?_
  rw [hbest]
  by_cases hup : ∃ x, h.isUpcoming served c x
  · obtain ⟨x, hx⟩ := hup
    rw [nearerUpcoming_some hx hg, if_neg (Nat.not_lt.mpr (hafter h hh x hx))]
  · exact nearerUpcoming_of_not_upcoming (not_exists.mp hup) _

theorem nearestUpcoming_eq_none (h : ∀ h ∈ gs, ∀ fp, ¬ h.isUpcoming served c fp) :
    nearestUpcoming served c gs = none :=
  List.foldlRecOn (motive := (· = none)) gs (nearerUpcoming served c) rfl fun _ hbest g hg => by
    rw [hbest, nearerUpcoming_of_not_upcoming (h g hg)]

end

/-! ## The deciding segment -/

theorem position_of_active {s : State} {r : ActiveRoute} {ap : Approach} (hr : s.route.active = some r)
    (ha : s.tracker.approach = some ap) : position s = some (r, ap.current) := by
  simp only [position, hr, ha]

theorem position_eq_none {s : State} (h : s.route.active = none ∨ s.tracker.approach = none) : position s = none := by
  unfold position
  rcases h with h | h <;> simp [h]

/-- Without a route a seat is FREE, and a confirm applies to nothing (Table 5-2, R85). -/
theorem resolve_no_position {s : State} (h : position s = none) (e : SeatEntry) :
    resolve s e = ⟨.free, none, none, none, ⟨s.res.unverified, e.prioritySeating, e.quietZone, false⟩⟩ ∧
    confirmable s e = none := by
  refine ⟨?_, ?_⟩
  · simp only [resolve, h]
    rfl
  · simp only [confirmable, h]

section
variable {s : State} {e : SeatEntry} {r : ActiveRoute} {c : Nat} {g : Segment}

/-- The NOW segment decides first (Table 5-2). -/
theorem decidingSegment_now (hp : position s = some (r, c)) (h : nowSegment r.served c e.segments = some g) :
    decidingSegment s e = some g := by
  simp only [decidingSegment, hp, h]

theorem find?_misrouted_eq_some_iff {gs : List Segment} : gs.find? (fun g => g.tag == .misrouted) = some g ↔
    FirstOf (fun h => h.tag = .misrouted) gs g :=
  (firstOf_iff_find? fun _ => beq_iff_eq).symm

/-- Then the first MISROUTED one (Table 5-2). -/
theorem decidingSegment_misrouted (hp : position s = some (r, c)) (hnow : nowSegment r.served c e.segments = none)
    (h : FirstOf (fun h => h.tag = .misrouted) e.segments g) : decidingSegment s e = some g := by
  simp only [decidingSegment, hp, hnow, find?_misrouted_eq_some_iff.mpr h]

/-- And failing both the nearest UPCOMING one, or none (Table 5-2). -/
theorem decidingSegment_upcoming (hp : position s = some (r, c)) (hnow : nowSegment r.served c e.segments = none)
    (h : ∀ h ∈ e.segments, h.tag ≠ .misrouted) :
    decidingSegment s e = nearestUpcoming r.served c e.segments := by
  have hnone : e.segments.find? (fun g => g.tag == .misrouted) = none := by simpa using h
  simp only [decidingSegment, hp, hnow, hnone]

theorem confirmable_eq (hp : position s = some (r, c)) (e : SeatEntry) : confirmable s e =
    (nowSegment r.served c e.segments).or (nearestUpcoming r.served c e.segments) := by
  simp only [confirmable, hp]

/-- The status that a deciding segment gives, with its stop, category and marks (R76 to R78). -/
theorem resolve_of_deciding (hp : position s = some (r, c)) (hd : decidingSegment s e = some g) : resolve s e =
    if g.tag = .misrouted then
      ⟨.misrouted, some (misroutedStop r.served g), shortCodeAt r (misroutedStop r.served g), none, marksOf s e g⟩
    else if segmentPhase r.served c g = some .now then
      if g.released then ⟨.released, none, none, none, marksOf s e g⟩
      else ⟨.reservedNow, some g.toIndex, shortCodeAt r g.toIndex, some g.category, marksOf s e g⟩
    else ⟨.reservedFrom, some g.fromIndex, shortCodeAt r g.fromIndex, some g.category, marksOf s e g⟩ := by
  simp only [resolve, hp, hd]

theorem resolve_undecided (hp : position s = some (r, c)) (hd : decidingSegment s e = none) :
    resolve s e = ⟨.free, none, none, none, marksOf s e none⟩ := by
  simp only [resolve, hp, hd]

end

theorem tagFor_eq_tags (r : ActiveRoute) (service fromIndex toIndex : Nat) :
    tagFor (some r) service fromIndex toIndex = r.tags service fromIndex toIndex := rfl

/-- Settles O27: the searches find what the rules name, and the status is that of the segment found first. -/
theorem statusFollowsTheDecidingSegment : Obligations.StatusFollowsTheDecidingSegment := by
  refine ⟨fun _ _ _ => rfl, tagFor_eq_tags,
    fun _ _ _ => ⟨segmentPhase_now_iff, segmentPhase_upcoming_iff, segmentPhase_ended_iff⟩,
    fun s e h => resolve_no_position (position_eq_none h) e, ?_⟩
  intro s e r ap hr ha c now marks code shown
  have hp : position s = some (r, c) := position_of_active hr ha
  refine ⟨fun g hg => ?_, fun g hnone hg => ?_, fun g hnone hg => ?_, fun hnone => ?_⟩
  · have hnow := nowSegment_eq_some_iff.mpr hg
    have hphase : g.isNow r.served c := hg.met
    have hresolve := resolve_of_deciding hp (decidingSegment_now hp hnow)
    rw [if_neg (by simp [hphase.1]), if_pos (segmentPhase_now_iff.mpr hphase)] at hresolve
    refine ⟨hnow, by rw [confirmable_eq hp, hnow, Option.some_or], fun hreleased => ?_, fun hheld => ?_⟩
    · rw [hresolve, if_pos hreleased]
      rfl
    · rw [hresolve, hheld]
      rfl
  · rw [resolve_of_deciding hp (decidingSegment_misrouted hp (nowSegment_eq_none_iff.mpr hnone) hg), if_pos hg.met]
    rfl
  · have hnow := nowSegment_eq_none_iff.mpr hnone
    have hnearest := nearestUpcoming_eq_some hg
    obtain ⟨before, after, fp, hgs, hup, -, -⟩ := hg
    have hmem : g ∈ e.segments := by simp [hgs]
    refine ⟨by rw [confirmable_eq hp, hnow, hnearest, Option.none_or], fun hrouted => ?_⟩
    rw [resolve_of_deciding hp ((decidingSegment_upcoming hp hnow hrouted).trans hnearest), if_neg (hrouted g hmem),
      if_neg fun hphase => hnone g hmem (segmentPhase_now_iff.mp hphase)]
    rfl
  · have hnow := nowSegment_eq_none_iff.mpr fun h hh => (hnone h hh).1
    have hnearest := nearestUpcoming_eq_none fun h hh => (hnone h hh).2
    refine ⟨by rw [confirmable_eq hp, hnow, hnearest, Option.none_or], fun hrouted => ?_⟩
    rw [resolve_undecided hp ((decidingSegment_upcoming hp hnow hrouted).trans hnearest)]
    rfl

end Sys2Proof.Machine
end

section
/-! PROOFS. The journal: a commit taken, and a fetched record lost, refused or applied (O37, O38, O39). -/

namespace Sys2Proof.Machine

/-! ## A record lost -/

theorem dirtyRises_setUnverified (b : Bool) (s : State) : DirtyRises s (setUnverified b s) := by
  unfold setUnverified
  split
  · exact dirtyRises_refl s
  · refine dirtyRises_trans ?_ (dirtyRises_composeSeats _ _)
    refine dirtyRises_trans ?_ (dirtyRises_setSeats _ _)
    exact dirtyRises_trans (dirtyRises_of_dirty_eq rfl) (dirtyRises_markStatus 9 _)

/-- A status resolved afresh changes nothing else of the entries. -/
theorem setUnverified_seats (b : Bool) (s : State) :
    (setUnverified b s).res.seats.map (fun e => { e with resolved := Resolved.free }) =
      s.res.seats.map fun e => { e with resolved := Resolved.free } := by
  rw [setUnverified_res]
  dsimp only
  split
  · rfl
  · rw [List.map_map]
    rfl

/-- What a lost record leaves: it is counted, the unverified flag is set with the statuses that follow it, and a notice
is given (R58, R60, R66). -/
structure RecordLost (c : Counter) (n : Notice) (s t : State) : Prop where
  fetches : t.res.fetchQueue = s.res.fetchQueue
  unverified : t.res.unverified = true
  releases : t.res.releaseList = s.res.releaseList
  seats : t.res.seats.map (fun e => { e with resolved := Resolved.free }) =
    s.res.seats.map fun e => { e with resolved := Resolved.free }
  count : t.count c = oneMore (s.count c)
  notices : t.notices = s.given n
  marks : DirtyRises s t
  frame : ChangesOnly [.res, .link .a, .link .b, .link .p, .notices, .dirty, .counts] s t

theorem recordLost {c : Counter} {s : State} (hc : c ∉ noticeCounters) (h : s.status.counts.length = 20)
    (n : Notice) : RecordLost c n s (raise n (setUnverified true (bump c s))) where
  fetches := by simp [setUnverified_res]
  unverified := by simp [setUnverified_res]
  releases := by simp [setUnverified_res]
  seats := by simpa using setUnverified_seats true (bump c s)
  count := by
    have hflag : (setUnverified true (bump c s)).count c = (bump c s).count c := by simp [State.count]
    rw [(counted_raise n _).others c hc, hflag, count_bump h]
  notices := by simp [raise_notices, State.given]
  marks := dirtyRises_trans (dirtyRises_trans (dirtyRises_bump c s) (dirtyRises_setUnverified true _))
    (dirtyRises_raise n _)
  frame := by
    intro p hp
    cases p with
    | link l => cases l <;> simp at hp
    | _ => simp_all [Part.same]

/-! ## Commits (R57, R58) -/

theorem exec_journalCommit (b : Beat) (slot : Fin 512) (v : Word) {s : State} (r : s.bus.resetAsserted = false)
    (k : (s.passed b (0x4007 + 8 * slot.val) v).items.softReset = false) :
    exec (.journalCommit b slot v) s = .next (commitJournal slot v (s.passed b (0x4007 + 8 * slot.val) v)) := by
  have hoffset : 0x4007 + 8 * slot.val = capturedOffset (.commit slot) := by
    simp only [capturedOffset]
    omega
  rw [hoffset] at k ⊢
  exact congrArg Host.Outcome.next (onBus_captured (w := .commit slot) rfl r k)

theorem commitOf_eq (slot : Fin 512) (v : Word) :
    commitOf slot v = ⟨slot, v.toNat / 256 % 256, BitVec.ofNat 8 (v.toNat / 65536)⟩ := by
  have hversion : BitVec.ofNat 8 (field v 16 8) = BitVec.ofNat 8 (v.toNat / 65536) := by
    rw [field_eq]
    exact BitVec.eq_of_toNat_eq (by simp)
  have hseat : field v 8 8 = v.toNat / 256 % 256 := field_eq v 8 8
  rw [commitOf, hversion, hseat]

theorem commitJournal_marked {v : Word} (h : v.toNat % 256 = 0xC5) (slot : Fin 512) (s : State) :
    commitJournal slot v s = takeCommit (commitOf slot v) s := by
  rw [commitJournal, field_eq]
  exact if_pos (by simpa using h)

theorem takeCommit_room {e : CommitEntry} {s : State} (h : s.res.fetchQueue.length < 16) :
    takeCommit e s = { s with res := { s.res with fetchQueue := s.res.fetchQueue ++ [e] } } := if_pos h

theorem takeCommit_full {e : CommitEntry} {s : State} (h : 16 ≤ s.res.fetchQueue.length) : takeCommit e s =
    raise (.journalLoss e.seat e.slot.val .overrun) (setUnverified true (bump .journalOverrun s)) :=
  if_neg (Nat.not_lt.mpr h)

/-- Settles O37: the commit joins the queue where it has room, and is a record lost where it has none. -/
theorem commitJoinsTheQueueOrIsLost : Obligations.CommitJoinsTheQueueOrIsLost := by
  intro b slot v s r a seat k hv hcounts
  have hexec : exec (.journalCommit b slot v) s = .next (takeCommit (commitOf slot v) a) := by
    rw [exec_journalCommit b slot v r k, commitJournal_marked hv]
  rw [hexec, commitOf_eq]
  refine ⟨fun hroom => by rw [takeCommit_room hroom], fun hfull => ⟨_, rfl, ?_⟩⟩
  rw [takeCommit_full hfull]
  have hlost := recordLost (c := .journalOverrun) (by simp [noticeCounters]) hcounts
    (.journalLoss seat slot.val .overrun)
  exact ⟨hlost.fetches, hlost.unverified, hlost.releases, hlost.seats, hlost.count, hlost.notices, hlost.marks,
    hlost.frame⟩

/-! ## Fetches (R59) -/

/-- The state once a cycle of the port has gone, none in progress and the starvation count 0 (R158). -/
def State.cycled (s : State) : State := { s with port := { s.port with inProgress := none, starvation := 0 } }

/-- A fetch chosen changes the access in progress only, which its cycle ends (R59, R159). -/
theorem beginOwn_fetch {s : State} (h : (beginOwn s).port.inProgress = some .fetch) :
    setProgress none (setStarvation 0 (beginOwn s)) = s.cycled := by
  unfold beginOwn at h ⊢
  split
  · rfl
  · rename_i hnone
    rw [hnone] at h
    rcases hnext : nextOwn s with _ | o
    · rfl
    · simp only [hnext] at h ⊢
      cases h
      simp [setProgress, setStarvation, State.cycled]

theorem exec_fetchComplete {s : State} (r : s.bus.resetAsserted = false) (h : s.nextAccess = some .fetch) :
    exec .fetchComplete s = .next (completeFetch s.cycled) := by
  have hstep : exec .fetchComplete s = .next (onPort (ownStep fun o => o == .fetch) s) := rfl
  unfold State.nextAccess at h
  split at h
  · rename_i hfree
    have hready : s.ready = beginOwn s := if_pos hfree
    have hperform : performOwn (beginOwn s) = completeFetch s.cycled := by
      rw [hready] at h
      simp only [performOwn, h]
      rw [← beginOwn_fetch h]
      rfl
    rw [hstep, onPort, if_neg (by simp [r]), ownStep, hready, ← hperform]
    rw [hready] at h
    simp [hfree, h]
  · cases h

/-- The head entry of the fetch queue taken out (R59). -/
def State.fetched (s : State) (rest : List CommitEntry) : State :=
  { s.cycled with res := { s.res with fetchQueue := rest } }

/-- A fetch completed judges the record that memory holds in the slot of the head entry (R59). -/
theorem exec_fetchComplete_judges {s : State} {e : CommitEntry} {rest : List CommitEntry}
    (r : s.bus.resetAsserted = false) (h : s.nextAccess = some .fetch) (hq : s.res.fetchQueue = e :: rest) :
    exec .fetchComplete s = .next (judgeRecord e (s.recordOf e.slot) (s.fetched rest)) := by
  have hq' : s.cycled.res.fetchQueue = e :: rest := hq
  rw [exec_fetchComplete r h, completeFetch, hq']
  rfl

theorem changesOnly_fetched (s : State) (rest : List CommitEntry) : ChangesOnly [.port, .res] s (s.fetched rest) := by
  intro p hp
  cases p with
  | link l => cases l <;> rfl
  | port => simp at hp
  | res => simp at hp
  | _ => rfl

/-! ## What a record is judged by (R60 to R62) -/

theorem torn_iff (r : Record) (e : CommitEntry) : r.torn e = true ↔
    r.seat ≠ e.seat ∨ r.version ≠ e.version ∨ r.w5 ≠ r.w0 ^^^ r.w1 ^^^ r.w2 ^^^ r.w3 ^^^ r.w4 := by
  simp only [Record.torn, Bool.or_eq_true, bne_iff_ne, or_assoc]

theorem bad_iff (g : RawSegment) : g.bad = true ↔ g.toIndex ≤ g.fromIndex ∨ g.service = 0 ∨ g.category = none := by
  simp only [RawSegment.bad, Bool.or_eq_true, decide_eq_true_eq, beq_iff_eq, Option.isNone_iff_eq_none, or_assoc]

theorem overlaps_iff (g h : RawSegment) : g.overlaps h = true ↔
    g.service = h.service ∧ g.fromIndex < h.toIndex ∧ h.fromIndex < g.toIndex := by
  simp only [RawSegment.overlaps, Bool.and_eq_true, decide_eq_true_eq, beq_iff_eq, and_assoc]

theorem anyOverlap_eq_false_iff (gs : List RawSegment) :
    anyOverlap gs = false ↔ gs.Pairwise fun g h => g.overlaps h = false := by
  induction gs with
  | nil => simp [anyOverlap]
  | cons g rest ih => simp [anyOverlap, ih]

/-- Two segments of the list overlap (R61). -/
theorem anyOverlap_iff (gs : List RawSegment) : anyOverlap gs = true ↔ ∃ (i j : Nat) (g h : RawSegment),
    i < j ∧ gs[i]? = some g ∧ gs[j]? = some h ∧ g.overlaps h = true := by
  have hpairs := anyOverlap_eq_false_iff gs
  rw [List.pairwise_iff_getElem] at hpairs
  constructor
  · intro hany
    by_contra hnone
    have hfalse : anyOverlap gs = false := hpairs.mpr fun i j hi hj hij => by
      by_contra hoverlap
      exact hnone ⟨i, j, gs[i], gs[j], hij, List.getElem?_eq_getElem hi, List.getElem?_eq_getElem hj,
        by simpa using hoverlap⟩
    simp [hany] at hfalse
  · rintro ⟨i, j, g, h, hij, hg, hh, hoverlap⟩
    by_contra hnone
    obtain ⟨hi, rfl⟩ := List.getElem?_eq_some_iff.mp hg
    obtain ⟨hj, rfl⟩ := List.getElem?_eq_some_iff.mp hh
    have hclear := hpairs.mp (by simpa using hnone) i j hi hj hij
    simp [hoverlap] at hclear

theorem malformed_iff (r : Record) : r.malformed = true ↔ r.seat = 0 ∨ 128 < r.seat ∨ 4 < r.count ∨
    (∃ g ∈ r.segments, g.toIndex ≤ g.fromIndex ∨ g.service = 0 ∨ g.category = none) ∨
    (∃ (i j : Nat) (g h : RawSegment), i < j ∧ r.segments[i]? = some g ∧ r.segments[j]? = some h ∧
      g.service = h.service ∧ g.fromIndex < h.toIndex ∧ h.fromIndex < g.toIndex) := by
  simp only [Record.malformed, Bool.or_eq_true, beq_iff_eq, decide_eq_true_eq, List.any_eq_true, bad_iff,
    anyOverlap_iff, overlaps_iff, or_assoc]

theorem newer_iff (version : Byte) (held : Option Byte) : newer version held = true ↔
    ∀ h, held = some h → 1 ≤ (version - h).toNat ∧ (version - h).toNat ≤ 127 := by
  cases held with
  | none => simp [newer]
  | some h => simp [newer]

section
variable {e : CommitEntry} {r : Record} {s : State}

theorem judgeRecord_torn (h : r.torn e = true) : judgeRecord e r s =
    raise (.journalLoss e.seat e.slot.val .torn) (setUnverified true (bump .journalTorn s)) := if_pos h

theorem judgeRecord_malformed (h : ¬ r.torn e = true) (hm : r.malformed = true) :
    judgeRecord e r s = bump .resMalformed s := by
  rw [judgeRecord, if_neg h, if_pos hm]

theorem judgeRecord_newer (h : ¬ r.torn e = true) (hm : ¬ r.malformed = true)
    (hn : newer r.version (s.seat r.seat).version = true) : judgeRecord e r s = applyRecord r s := by
  rw [judgeRecord, if_neg h, if_neg hm, if_pos hn]

theorem judgeRecord_superseded (h : ¬ r.torn e = true) (hm : ¬ r.malformed = true)
    (hn : ¬ newer r.version (s.seat r.seat).version = true) : judgeRecord e r s = bump .resSuperseded s := by
  rw [judgeRecord, if_neg h, if_neg hm, if_neg hn]

end

/-- Settles O38: each refusal is one branch of `judgeRecord`, a torn record one that is lost. -/
theorem fetchedRecordIsRefusedForItsContent : Obligations.FetchedRecordIsRefusedForItsContent := by
  intro s e rest r h hq hcounts record u torn malformed isNewer
  have hexec : exec .fetchComplete s = .next (judgeRecord e record u) := exec_fetchComplete_judges r h hq
  have htorn : record.torn e = true ↔ torn := torn_iff record e
  have hmalformed : record.malformed = true ↔ malformed := malformed_iff record
  have hnewer : newer record.version (u.seat record.seat).version = true ↔ isNewer := newer_iff _ _
  rw [hexec, ← htorn, ← hmalformed, ← hnewer]
  refine ⟨fun ht => ⟨_, rfl, ?_⟩, fun ht hm => ?_, fun ht hm hn => ?_⟩
  · rw [judgeRecord_torn ht]
    have hlost := recordLost (c := .journalTorn) (s := u) (by simp [noticeCounters]) hcounts
      (.journalLoss e.seat e.slot.val .torn)
    exact ⟨hlost.fetches, hlost.unverified, hlost.releases, hlost.frame .port (by simp), hlost.seats, hlost.count,
      hlost.notices, changesOnly_trans (changesOnly_mono (by simp) (changesOnly_fetched s rest))
        (changesOnly_mono (by simp) hlost.frame)⟩
  · rw [judgeRecord_malformed ht hm]
  · rw [judgeRecord_superseded ht hm hn]

/-! ## A newer record applied (R63) -/

/-- The order of a seat's segments: by service, and then by from index (R63). -/
def Segment.before (g h : Segment) : Prop :=
  g.service < h.service ∨ (g.service = h.service ∧ g.fromIndex ≤ h.fromIndex)

theorem insertSegment_sorted {g : Segment} {gs : List Segment} (h : gs.Pairwise Segment.before) :
    (insertSegment g gs).Pairwise Segment.before := by
  induction gs with
  | nil => simp [insertSegment]
  | cons x rest ih =>
    obtain ⟨hx, hrest⟩ := List.pairwise_cons.mp h
    unfold insertSegment
    split
    · rename_i hgx
      refine List.pairwise_cons.mpr ⟨fun y hy => ?_, h⟩
      rcases List.mem_cons.mp hy with rfl | hy
      · exact hgx
      · have hxy := hx y hy
        unfold Segment.before at hxy ⊢
        omega
    · rename_i hgx
      refine List.pairwise_cons.mpr ⟨fun y hy => ?_, ih hrest⟩
      rcases List.mem_cons.mp ((insertSegment_perm g rest).mem_iff.mp hy) with rfl | hy
      · unfold Segment.before
        omega
      · exact hx y hy

theorem newSegments_sorted (active : Option ActiveRoute) (r : Record) :
    (newSegments active r).Pairwise Segment.before := by
  unfold newSegments
  induction r.segments.map _ with
  | nil => exact List.Pairwise.nil
  | cons g gs ih => exact insertSegment_sorted ih

theorem dirtyRises_putSeat (n : Nat) (e : SeatEntry) (s : State) : DirtyRises s (putSeat n e s) := by
  refine dirtyRises_trans ?_ (dirtyRises_markStatusIf _ 9 _)
  unfold setSeat
  split
  · exact dirtyRises_refl s
  · exact dirtyRises_trans (dirtyRises_of_dirty_eq rfl) (dirtyRises_markMany _ _)

theorem dirtyRises_applyRecord (r : Record) (s : State) : DirtyRises s (applyRecord r s) := by
  unfold applyRecord
  dsimp only
  refine dirtyRises_trans ?_ (dirtyRises_composeSeat _ _)
  refine dirtyRises_trans ?_ (dirtyRises_putSeat _ _ _)
  have hdrop : DirtyRises s (dropRelease r.seat s) := dirtyRises_setReleaseList _ s
  split
  · exact dirtyRises_trans hdrop (dirtyRises_foldl (fun s _ => dirtyRises_raise _ s) _ _)
  · exact hdrop

theorem changesOnly_applyRecord (r : Record) (s : State) :
    ChangesOnly [.res, .link .a, .link .b, .link .p, .notices, .dirty, .counts] s (applyRecord r s) := by
  intro p hp
  cases p with
  | link l => cases l <;> simp at hp
  | _ => simp_all [Part.same]

/-- The seat of a record is the entry it makes; every other is as it was. -/
theorem seat_applyRecord {r : Record} {s : State} (hseat : 1 ≤ r.seat ∧ r.seat ≤ 128)
    (hlength : s.res.seats.length = 128) : (applyRecord r s).seat r.seat = resolved s (recordEntry r s) ∧
    ∀ m, 1 ≤ m → m ≠ r.seat → (applyRecord r s).seat m = s.seat m := by
  have hres := applyRecord_res r s
  refine ⟨?_, fun m hm hne => ?_⟩
  · have hlt : r.seat - 1 < s.res.seats.length := by omega
    simp [State.seat, hres, hlt]
  · have hne' : r.seat - 1 ≠ m - 1 := by omega
    simp [State.seat, hres, List.getD_eq_getElem?_getD, hne']

/-- Settles O39: a record that passes every test is applied, and what it leaves is read off `applyRecord_res`. -/
theorem newerRecordReplacesTheSeatEntry : Obligations.NewerRecordReplacesTheSeatEntry := by
  intro s e rest r h hq hlength record htorn hmalformed hnewer
  have hexec : exec .fetchComplete s = .next (applyRecord record (s.fetched rest)) := by
    rw [exec_fetchComplete_judges r h hq, judgeRecord_newer (by simp [record, htorn]) (by simp [record, hmalformed])]
    exact hnewer
  have hsound := mt (malformed_iff record).mpr (by simp [hmalformed])
  simp only [not_or] at hsound
  obtain ⟨hzero, hhigh, -⟩ := hsound
  obtain ⟨hself, hother⟩ := seat_applyRecord (r := record) (s := s.fetched rest) (by omega) hlength
  have hframe := changesOnly_applyRecord record (s.fetched rest)
  refine ⟨_, hexec, ?_⟩
  rw [hself, applyRecord_res]
  refine ⟨rfl, hframe .port (by simp), rfl, rfl, rfl, rfl, newSegments_perm s.route.active record,
    newSegments_sorted s.route.active record, hother, List.filter_congr fun x _ => ?_, rfl, ?_, ?_⟩
  · rw [decide_not, bne, Bool.beq_eq_decide_eq]
  · exact dirtyRises_trans (t := s.fetched rest) (dirtyRises_of_dirty_eq rfl) (dirtyRises_applyRecord record _)
  · exact changesOnly_trans (changesOnly_mono (by simp) (changesOnly_fetched s rest))
      (changesOnly_mono (by simp) hframe)

end Sys2Proof.Machine
end

section
/-! PROOFS. CLEAR_SEATS (O24). -/

namespace Sys2Proof.Machine

theorem dirtyRises_clearSeats (s : State) : DirtyRises s (clearSeats s) ∧
    (clearSeats s).isDirty (.status 9) = true := by
  have hafter (u : State) (es : List SeatEntry) : DirtyRises (markStatus 9 u) (composeSeats seatNumbers
      (setSeats es (markStatus 9 u))) :=
    dirtyRises_trans (dirtyRises_setSeats _ _) (dirtyRises_composeSeats _ _)
  refine ⟨?_, hafter _ _ _ (isDirty_markDirty _ _)⟩
  refine dirtyRises_trans (dirtyRises_setReleaseList [] s) ?_
  refine dirtyRises_trans ?_ (hafter _ _)
  exact dirtyRises_trans (dirtyRises_of_dirty_eq rfl) (dirtyRises_markStatus 9 _)

theorem changesOnly_clearSeats (s : State) :
    ChangesOnly [.res, .link .a, .link .b, .link .p, .dirty] s (clearSeats s) := by
  intro p hp
  cases p with
  | link l => cases l <;> simp at hp
  | _ => simp_all [Part.same]

/-- Settles O24: the request is answered on what `clearSeats` leaves. -/
theorem clearSeatsKeepsOnlyTheBindings : Obligations.ClearSeatsKeepsOnlyTheBindings := by
  intro b v s r a k hidle
  have hexec : exec (.clearSeats b v) s = .next (judgeClear v a) := by
    rw [show exec (.clearSeats b v) s = _ from exec_request 4 b v r k]
    exact congrArg Host.Outcome.next (by simp [issueRequest, requestOf, a, hidle])
  obtain ⟨hrises, hsummary⟩ := dirtyRises_clearSeats a
  have hanswer := dirtyRises_answer (tagOf v) .clearSeats .done none (clearSeats a)
  refine ⟨_, hexec, ?_, isDirty_answer _ _ _ _ _, ?_, hanswer _ hsummary, dirtyRises_trans hrises hanswer, ?_⟩
  · simp [judgeClear, hidle, tagOf]
  · simp only [judgeClear, answer_keeps, clearSeats_res]
    rfl
  · exact changesOnly_trans (changesOnly_mono (by simp) (changesOnly_clearSeats a))
      (changesOnly_mono (by simp) (changesOnly_answer _ _ _ _ _))

end Sys2Proof.Machine
end

section
/-! PROOFS. The segments of a switch and of a consist of another portion (O28). -/

namespace Sys2Proof.Machine

/-! ## Notices given one after the other -/

/-- Notices given after others, the timebase and NOTICE_HIGH as they were. -/
theorem givenAll_append {s t : State} {first : List Notice} (hnotices : t.notices = s.givenAll first)
    (hitems : t.items = s.items) (htime : t.timebase = s.timebase) (ns : List Notice) :
    t.givenAll ns = s.givenAll (first ++ ns) := by
  simp only [State.givenAll, List.foldl_append, hitems, htime, hnotices]

theorem given_eq_givenAll (s : State) (n : Notice) : s.given n = s.givenAll [n] := rfl

theorem foldl_raise_notices {α : Type} (n : α → Notice) (xs : List α) (s : State) :
    (xs.foldl (fun s x => raise (n x) s) s).notices = s.givenAll (xs.map n) := by
  induction xs generalizing s with
  | nil => rfl
  | cons x xs ih =>
    rw [List.foldl_cons, ih, List.map_cons]
    exact givenAll_append (first := [n x]) (raise_notices (n x) s) (by simp) (by simp) _

/-- The notices a reading of the cap can give: none, or COAST_STARTED (R30, R32). -/
def capNotices (first : List Notice) : Prop := first = [] ∨ ∃ m, first = [.coastStarted m]

theorem readCap_notices (s : State) : ∃ first, capNotices first ∧ (readCap s).notices = s.givenAll first := by
  by_cases habove : aboveCap s = true
  · unfold readCap
    split
    · rename_i c hmode
      have hne : Mode.holding c ≠ s.filter.mode := by simp [hmode]
      refine ⟨[.coastStarted (.holding c)], .inr ⟨_, rfl⟩, ?_⟩
      rw [if_pos habove, setMode_notices _ s hne, hmode]
      rfl
    · exact ⟨[], .inl rfl, rfl⟩
  · rw [readCap_below (by simpa using habove)]
    exact ⟨[], .inl rfl, rfl⟩

/-! ## The notices of a re-tagging -/

section
variable {examined : Segment → Bool} {r : ActiveRoute}

theorem retagSegment_eq (g : Segment) :
    retagSegment examined r g = if examined g then g.taggedAgain r else g := by
  unfold retagSegment Segment.taggedAgain
  simp only [tagFor_eq_tags]
  cases examined g <;> simp

/-- The segments that take MISROUTED are the examined ones not yet so tagged that the route tags so (R65). -/
theorem newlyMisrouted_eq (e : SeatEntry) : newlyMisrouted examined r e = e.segments.filter fun g =>
    examined g && decide (g.tag ≠ .misrouted) && decide (r.tags g.service g.fromIndex g.toIndex = .misrouted) := by
  refine List.filter_congr fun g _ => ?_
  rw [retagSegment_eq]
  cases examined g with
  | false => cases htag : g.tag <;> simp [htag]
  | true =>
    unfold Segment.taggedAgain
    cases htag : g.tag <;> cases hnew : r.tags g.service g.fromIndex g.toIndex <;> simp [htag]

theorem misroutedNotice_eq (r : ActiveRoute) (n : Nat) (g : Segment) : misroutedNotice r n g =
    .seatMisrouted n ((r.copy.stops[misroutedStop r.served g]?.map Stop.code).getD 0xFFFF)
      (misroutedStop r.served g) := by
  unfold misroutedNotice
  dsimp only
  cases r.copy.stops[misroutedStop r.served g]? <;> rfl

theorem misroutings_eq (seats : List SeatEntry) : misroutings r examined seats =
    (seats.zipIdx 1).flatMap fun x => (newlyMisrouted examined r x.1).map (misroutedNotice r x.2) := by
  refine List.flatMap_congr fun x _ => ?_
  rw [newlyMisrouted_eq]
  exact List.map_congr_left fun g _ => (misroutedNotice_eq r x.2 g).symm

theorem raiseMisrouted_notices (seats : List SeatEntry) (s : State) :
    (raiseMisrouted examined r seats s).notices = s.givenAll (misroutings r examined seats) := by
  have hfold : raiseMisrouted examined r seats s =
      (misroutings r examined seats).foldl (fun s n => raise n s) s := by
    rw [misroutings_eq, List.foldl_flatMap]
    simp only [List.foldl_map]
    rfl
  rw [hfold, foldl_raise_notices (fun n => n), List.map_id']

/-- The segments of a removed service, none of them examined, give no notice. -/
theorem misroutings_dropService {removed : Option Nat} (h : ∀ g, examined g = true → some g.service ≠ removed)
    (seats : List SeatEntry) :
    misroutings r examined (seats.map (dropService removed)) = misroutings r examined seats := by
  rw [misroutings_eq, misroutings_eq, List.zipIdx_map, List.flatMap_map]
  refine List.flatMap_congr fun x _ => ?_
  have hsame : newlyMisrouted examined r (dropService removed x.1) = newlyMisrouted examined r x.1 := by
    rw [newlyMisrouted_eq, newlyMisrouted_eq, dropService, List.filter_filter]
    refine List.filter_congr fun g _ => ?_
    cases hg : examined g with
    | false => simp
    | true => simp [h g hg]
  exact congrArg (List.map (misroutedNotice r x.2)) hsame

theorem retag_notices {removed : Option Nat} (h : ∀ g, examined g = true → some g.service ≠ removed) (s : State) :
    (retag examined r removed s).notices = s.givenAll (misroutings r examined s.res.seats) := by
  have hraised (u : State) (hn : u.notices = s.notices) (hi : u.items = s.items) (ht : u.timebase = s.timebase) :
      (raiseMisrouted examined r (s.res.seats.map (dropService removed)) u).notices =
        s.givenAll (misroutings r examined s.res.seats) := by
    rw [raiseMisrouted_notices, misroutings_dropService h]
    exact givenAll_append (first := []) hn hi ht _
  simp only [retag, composeSeats_keeps, setSeats_keeps, pruneReleases_keeps]
  exact hraised _ (by simp) (by simp) (by simp)

end

/-! ## The segments settled -/

theorem dropService_none (e : SeatEntry) : dropService none e = e := by simp [dropService]

/-- What a re-tagging under a route in force leaves: each entry as it was but for its segments and status, every status
resolved, and the release entries whose segment is NOW (R69, R70, R75). -/
def SegmentsSettled (r : ActiveRoute) (s t : State) : Prop :=
  t.res.seats.map SeatEntry.bare = s.res.seats.map SeatEntry.bare ∧
  (∀ e ∈ t.res.seats, e.resolved = resolve t e) ∧
  t.res.fetchQueue = s.res.fetchQueue ∧ t.res.unverified = s.res.unverified ∧
  ∀ ap, t.tracker.approach = some ap → ∀ x, x ∈ t.res.releaseList ↔ x ∈ s.res.releaseList ∧
    ∃ g, FirstOf (fun g => g.service = x.service ∧ g.fromIndex = x.fromIndex) (t.seat x.seat).segments g ∧
      g.isNow r.served ap.current

theorem releaseStands_iff {s : State} {r : ActiveRoute} {ap : Approach} (hr : s.route.active = some r)
    (ha : s.tracker.approach = some ap) (x : ReleaseEntry) : releaseStands s x = true ↔
    ∃ g, FirstOf (fun g => g.service = x.service ∧ g.fromIndex = x.fromIndex) (s.seat x.seat).segments g ∧
      g.isNow r.served ap.current := by
  have hfind (g : Segment) : FirstOf (fun g => g.service = x.service ∧ g.fromIndex = x.fromIndex)
      (s.seat x.seat).segments g ↔ releaseSegment s x = some g := firstOf_iff_find? fun g => by simp
  simp only [hfind, releaseStands, position_of_active hr ha]
  cases releaseSegment s x with
  | none => simp
  | some g => simp [segmentPhase_now_iff]

/-- Every status is resolved by the judgement that ends a re-tagging (R75). -/
theorem rejudge_resolved (s : State) : ∀ e ∈ (rejudge s).res.seats, e.resolved = resolve (rejudge s) e := by
  intro e he
  rw [rejudge_res] at he
  obtain ⟨d, -, rfl⟩ := List.mem_map.mp he
  rw [resolve_congr (s := s) (by simp) (by simp) (by simp [rejudge_res])]
  rfl

section
variable {examined : Segment → Bool} {r : ActiveRoute} {removed : Option Nat} {s u t : State}

/-- A re-tagging judged settles the segments, whatever is composed or raised after it. -/
theorem segmentsSettled_of_retagged (hu : u.res = s.res) (hr : u.route.active = some r)
    (hres : t.res = (rejudge (retag examined r removed u)).res) (hroute : t.route = u.route)
    (htracker : t.tracker = u.tracker) : SegmentsSettled r s t := by
  obtain ⟨-, hbare, hreleases, hfetches, hflag⟩ := rejudge_retag_retagged examined r removed u
  have hresolve : resolve t = resolve (rejudge (retag examined r removed u)) :=
    resolve_congr (by simp [hroute]) (by simp [htracker]) (by rw [hres])
  have hstands : releaseStands t = releaseStands (rejudge (retag examined r removed u)) :=
    releaseStands_congr (by simp [hroute]) (by simp [htracker]) (by rw [hres])
  refine ⟨by rw [hres, hbare, hu], fun e he => ?_, by rw [hres, hfetches, hu], by rw [hres, hflag, hu],
    fun ap ha x => ?_⟩
  · rw [hresolve]
    exact rejudge_resolved _ e (hres ▸ he)
  · rw [hres, hreleases, hu, List.mem_filter, ← hstands, releaseStands_iff (hroute ▸ hr) ha]

theorem segments_of_retagged (hu : u.res = s.res) (hres : t.res = (rejudge (retag examined r removed u)).res) :
    t.res.seats.map SeatEntry.segments = s.res.seats.map fun e => ((dropService removed e).segments.map fun g =>
      if examined g then g.taggedAgain r else g) := by
  rw [hres, (rejudge_retag_retagged examined r removed u).segments, hu]
  refine List.map_congr_left fun e _ => ?_
  rw [SeatEntry.retagged, funext (retagSegment_eq (examined := examined) (r := r))]

end

/-! ## The switch (R69) -/

/-- The service whose segments a switch removes: the old one, where the new one is another (R69). -/
def removedService (old : Option Nat) (new : Nat) : Option Nat := if old = some new then none else old

theorem ne_removedService_iff (old : Option Nat) (new service : Nat) :
    some service ≠ removedService old new ↔ service = new ∨ old ≠ some service := by
  unfold removedService
  split
  · rename_i hold
    simp only [ne_eq, reduceCtorEq, not_false_eq_true, hold, Option.some.injEq, true_iff]
    omega
  · rename_i hold
    constructor
    · exact fun h => .inr (Ne.symm h)
    · rintro (rfl | h)
      · exact Ne.symm hold
      · exact Ne.symm h

/-- The route a switch puts in force (R15). -/
def switchedTo (image : ImageId) (copy : RouteCopy) (s : State) : ActiveRoute :=
  ⟨image, copy, copy.servedList s.route.consist.portion⟩

/-- The stop a switch chooses in the new list (R14). -/
def switchedStop (start : Start) (copy : RouteCopy) (s : State) : Nat :=
  chooseStop copy (copy.servedList s.route.consist.portion) start s.filter.metres

/-- The state in which a switch tags the segments again: the route in force, the tracker and the filter changed, and the
cap read (R15, R24, R46). -/
def State.switched (image : ImageId) (start : Start) (copy : RouteCopy) (s : State) : State :=
  let r := switchedTo image copy s
  let c := switchedStop start copy s
  let s1 := setRoute { s.route with active := some r, pendingSwitch := .none, mismatch := false } s
  let s2 := setTracker (s1.tracker.switched (standingAt r c)) s1
  readCap (setFilter { s2.filter with progress := r.mark c * 1000, referencePending := true } s2)

theorem switchRoute_eq (image : ImageId) (start : Start) (copy : RouteCopy) (s : State) :
    switchRoute image start copy s =
      raise (.routeActive ((switchedTo image copy s).stop (switchedStop start copy s)).code copy.service image)
        (composePanels (rejudge (retag (fun g => g.service == copy.service) (switchedTo image copy s)
          (removedService (s.route.active.map fun o => o.copy.service) copy.service)
          (s.switched image start copy)))) := rfl

@[simp] theorem switched_keeps (image : ImageId) (start : Start) (copy : RouteCopy) (s : State) :
    (s.switched image start copy).res = s.res ∧ (s.switched image start copy).items = s.items ∧
    (s.switched image start copy).timebase = s.timebase ∧
    (s.switched image start copy).route.active = some (switchedTo image copy s) ∧
    (s.switched image start copy).tracker.approach.map Approach.current = some (switchedStop start copy s) := by
  simp [State.switched, Tracker.switched, standingAt]

theorem switched_notices (image : ImageId) (start : Start) (copy : RouteCopy) (s : State) :
    ∃ first, capNotices first ∧ (s.switched image start copy).notices = s.givenAll first := by
  obtain ⟨first, hfirst, hnotices⟩ := readCap_notices (setFilter _ (setTracker _ (setRoute _ s)))
  exact ⟨first, hfirst, hnotices.trans (givenAll_append (first := []) (by simp [State.givenAll]) (by simp) (by simp) _)⟩

section
variable (image : ImageId) (start : Start) (copy : RouteCopy) (s : State)

theorem switchRoute_res : (switchRoute image start copy s).res =
    (rejudge (retag (fun g => g.service == copy.service) (switchedTo image copy s)
      (removedService (s.route.active.map fun o => o.copy.service) copy.service)
      (s.switched image start copy))).res := by
  rw [switchRoute_eq]
  simp

theorem switchRoute_settled : SegmentsSettled (switchedTo image copy s) s (switchRoute image start copy s) := by
  obtain ⟨hres, -, -, hactive, -⟩ := switched_keeps image start copy s
  refine segmentsSettled_of_retagged hres hactive (switchRoute_res image start copy s) ?_ ?_
  · rw [switchRoute_eq]
    simp
  · rw [switchRoute_eq]
    simp

theorem switchRoute_segments : (switchRoute image start copy s).res.seats.map SeatEntry.segments =
    s.res.seats.map fun e => (e.segments.filter fun g =>
      decide (g.service = copy.service ∨ (s.route.active.map fun o => o.copy.service) ≠ some g.service)).map fun g =>
        if g.service == copy.service then g.taggedAgain (switchedTo image copy s) else g := by
  obtain ⟨hres, -⟩ := switched_keeps image start copy s
  rw [segments_of_retagged hres (switchRoute_res image start copy s)]
  refine List.map_congr_left fun e _ => ?_
  simp only [dropService, ne_removedService_iff]

/-- COAST_STARTED where the cap gives it, the SEAT_MISROUTED notices, and ROUTE_ACTIVE last (R15, R65, R72). -/
theorem switchRoute_notices : ∃ first, capNotices first ∧ (switchRoute image start copy s).notices =
    s.givenAll (first ++ misroutings (switchedTo image copy s) (fun g => g.service == copy.service) s.res.seats ++
      [.routeActive ((switchedTo image copy s).stop (switchedStop start copy s)).code copy.service image]) := by
  obtain ⟨hres, hitems, htime, -, -⟩ := switched_keeps image start copy s
  obtain ⟨first, hfirst, hnotices⟩ := switched_notices image start copy s
  have hkept (g : Segment) (hg : (g.service == copy.service) = true) :
      some g.service ≠ removedService (s.route.active.map fun o => o.copy.service) copy.service :=
    (ne_removedService_iff _ _ _).mpr (.inl (beq_iff_eq.mp hg))
  have hretag := (retag_notices (r := switchedTo image copy s) hkept (s.switched image start copy)).trans
    (givenAll_append hnotices hitems htime _)
  rw [hres] at hretag
  refine ⟨first, hfirst, ?_⟩
  rw [switchRoute_eq, raise_notices, given_eq_givenAll]
  exact givenAll_append (by simpa using hretag) (by simp) (by simp) _

end

/-! ## The consist (R70) -/

/-- The state in which a consist of another portion tags the segments again. -/
structure PortionReady (new : ActiveRoute) (s u : State) : Prop where
  res : u.res = s.res
  active : u.route.active = some new
  items : u.items = s.items
  timebase : u.timebase = s.timebase
  notices : ∃ first, capNotices first ∧ u.notices = s.givenAll first

/-- A list taken up, or the one in force, has the segments tagged again under it (R19, R20, R70). -/
theorem changePortion_eq {portion : Portion} {r : ActiveRoute} {s : State} (hr : s.route.active = some r)
    (ha : s.tracker.approach.isSome = true) (hc : r.copy.checkServed (r.copy.servedList portion) = none)
    (hw : ∀ image start tag copy, s.route.pendingSwitch ≠ .waiting image start tag copy) :
    let new : ActiveRoute := ⟨r.image, r.copy, r.copy.servedList portion⟩
    ∃ u, PortionReady new s u ∧ changePortion r portion s =
      composePanels (rejudge (retag (fun g => decide (g.tag ≠ .dormant)) new none u)) := by
  intro new
  have hexamined : (fun g : Segment => decide (g.tag ≠ .dormant)) = fun g => g.tag != .dormant := by
    funext g
    rw [decide_not, bne, Bool.beq_eq_decide_eq]
  rw [hexamined]
  by_cases hsame : r.copy.servedList portion = r.served
  · have hnew : new = r := by simp only [new, hsame]
    rw [changePortion_unchanged s hc hsame, hnew]
    refine ⟨_, ⟨?_, ?_, ?_, ?_, [], .inl rfl, ?_⟩, rfl⟩
    · simp
    · simp [hr]
    · simp
    · simp
    · simp [State.givenAll]
  · obtain ⟨a, ha⟩ := Option.isSome_iff_exists.mp ha
    rw [changePortion_replaced s hc hsame, replaceServed, ha]
    dsimp only
    rw [enterStop_of_not_waiting (by simpa using hw), ite_self]
    refine ⟨_, ?_, rfl⟩
    refine ⟨by simp, by simp [new], by simp, by simp, ?_⟩
    obtain ⟨first, hfirst, hnotices⟩ := readCap_notices (setTracker _ (setRoute _ s))
    refine ⟨first, hfirst, hnotices.trans ?_⟩
    exact givenAll_append (first := []) (by simp [State.givenAll]) (by simp) (by simp) first

/-- Settles O28: a switch and a consist each tag the segments again in one `retag`, judged afterwards, from a state in
which the route, the tracker and the cap have been seen to. -/
theorem segmentsAreTaggedAgain : Obligations.SegmentsAreTaggedAgain := by
  unfold Obligations.SegmentsAreTaggedAgain
  intro settled capRead
  refine ⟨fun image start copy s => ?_, fun portion r s hr ha hc hw => ?_⟩
  · obtain ⟨first, hfirst, hnotices⟩ := switchRoute_notices image start copy s
    have htracker := congrArg (fun k => k.approach.map Approach.current) (switchRoute_tracker image start copy s)
    exact ⟨switchRoute_settled image start copy s, switchRoute_segments image start copy s, first, _, hfirst, hnotices,
      htracker⟩
  intro new examined t
  obtain ⟨u, ⟨hres, hactive, hitems, htime, first, hfirst, hnotices⟩, heq : t = _⟩ := changePortion_eq hr ha hc hw
  have ht : t.res = (rejudge (retag examined new none u)).res := by
    rw [heq]
    simp [new, examined]
  refine ⟨segmentsSettled_of_retagged hres hactive ht ?_ ?_, ?_, first, hfirst, ?_⟩
  · rw [heq]
    simp
  · rw [heq]
    simp
  · rw [segments_of_retagged hres ht]
    simp only [dropService_none]
  · have hcomposed : t.notices = (retag examined new none u).notices := by
      rw [heq]
      simp [new, examined]
    rw [hcomposed, retag_notices (by simp) u, givenAll_append hnotices hitems htime, hres]

end Sys2Proof.Machine
end

section
/-! PROOFS. The acts on one seat: a segment confirmed (O23), and a segment released at an expiry (O45). -/

namespace Sys2Proof.Machine

/-! ## One entry replaced -/

theorem position_congr {s t : State} (hroute : t.route = s.route) (htracker : t.tracker = s.tracker) :
    position t = position s := by
  simp only [position, hroute, htracker]

theorem seat_congr {s t : State} (h : t.res.seats = s.res.seats) (n : Nat) : t.seat n = s.seat n := by
  simp only [State.seat, h]

theorem seat_of_set_self {s t : State} {n : Nat} {e : SeatEntry} (hn : 1 ≤ n ∧ n ≤ 128)
    (hlength : s.res.seats.length = 128) (h : t.res.seats = s.res.seats.set (n - 1) e) : t.seat n = e := by
  have hlt : n - 1 < s.res.seats.length := by omega
  simp [State.seat, h, hlt]

theorem seat_of_set_other {s t : State} {n m : Nat} {e : SeatEntry} (hn : 1 ≤ n) (hm : 1 ≤ m) (hne : m ≠ n)
    (h : t.res.seats = s.res.seats.set (n - 1) e) : t.seat m = s.seat m := by
  have hplace : n - 1 ≠ m - 1 := by omega
  simp [State.seat, h, List.getD_eq_getElem?_getD, hplace]

/-- The release entries of the other seats, by the test of the model and by that of the rules (R83). -/
theorem filter_seat_bne (n : Nat) (xs : List ReleaseEntry) :
    (xs.filter fun x => x.seat != n) = xs.filter fun x => x.seat ≠ n :=
  List.filter_congr fun x _ => by rw [decide_not, bne, Bool.beq_eq_decide_eq]

theorem dirtyRises_dropRelease (n : Nat) (s : State) : DirtyRises s (dropRelease n s) :=
  dirtyRises_setReleaseList _ s

/-! ## Segments confirmed -/

/-- A seat's entry with a segment of it confirmed (R86). -/
def confirmedEntry (e : SeatEntry) (g : Segment) : SeatEntry :=
  mapSegment e g fun h => { h with confirmed := true, released := false }

/-- The state in which the entry of a segment to be confirmed is replaced: its release entry is gone unless the segment
had been released (R83, R86). -/
def confirmReady (g : Segment) (n : Nat) (s : State) : State := if g.released then s else dropRelease n s

/-- The state once a segment of a seat is confirmed, before the answer and the mark of LATE (R86). -/
def confirmMade (g : Segment) (n : Nat) (s : State) : State :=
  if confirmedEntry (s.seat n) g = s.seat n then confirmReady g n s
  else composeSeat (putSeat n (confirmedEntry (s.seat n) g) (confirmReady g n s)) n

theorem confirmSeat_bad {n : Nat} (h : n = 0 ∨ 128 < n) (tag : Byte) (s : State) :
    confirmSeat tag n s = answer tag .seatConfirm .badArgument none s := if_pos h

theorem confirmSeat_nothing {n : Nat} {s : State} (hn : 1 ≤ n ∧ n ≤ 128) (h : confirmable s (s.seat n) = none)
    (tag : Byte) : confirmSeat tag n s = answer tag .seatConfirm .nothingToConfirm none s := by
  rw [confirmSeat, if_neg (by omega)]
  simp only [h]

theorem confirmSeat_made {n : Nat} {s : State} {g : Segment} (hn : 1 ≤ n ∧ n ≤ 128)
    (h : confirmable s (s.seat n) = some g) (tag : Byte) : confirmSeat tag n s =
      answer tag .seatConfirm (if g.released then .late else .done) none
        (markStatusIf g.released 9 (confirmMade g n s)) := by
  rw [confirmSeat, if_neg (by omega)]
  simp only [h]
  rfl

theorem confirmReady_res (g : Segment) (n : Nat) (s : State) : (confirmReady g n s).res = { s.res with
    releaseList := if g.released then s.res.releaseList else s.res.releaseList.filter fun x => x.seat != n } := by
  unfold confirmReady
  split
  · rfl
  · exact dropRelease_res n s

@[simp] theorem confirmMade_request (g : Segment) (n : Nat) (s : State) : (confirmMade g n s).request = s.request := by
  unfold confirmMade confirmReady
  split <;> split <;> simp

/-- A confirm leaves of the rest of the engine all but the seat's release entry (R86). -/
theorem confirmMade_rest (g : Segment) (n : Nat) (s : State) :
    (confirmMade g n s).res.releaseList =
      (if g.released then s.res.releaseList else s.res.releaseList.filter fun x => x.seat != n) ∧
    (confirmMade g n s).res.fetchQueue = s.res.fetchQueue ∧
    (confirmMade g n s).res.unverified = s.res.unverified := by
  unfold confirmMade
  split
  · simp [confirmReady_res]
  · simp [confirmReady_res]

/-- The entry of a confirmed seat is the one confirmed but for its status; a confirm that changes nothing resolves no
status afresh. -/
theorem confirmMade_seat {n : Nat} {s : State} (hn : 1 ≤ n ∧ n ≤ 128) (hlength : s.res.seats.length = 128)
    (g : Segment) : (∃ d, (confirmMade g n s).seat n = { confirmedEntry (s.seat n) g with resolved := d }) ∧
      ∀ m, 1 ≤ m → m ≠ n → (confirmMade g n s).seat m = s.seat m := by
  have hready : (confirmReady g n s).res.seats = s.res.seats := by rw [confirmReady_res]
  unfold confirmMade
  split
  · rename_i hsame
    have hkept := seat_congr hready
    refine ⟨⟨(s.seat n).resolved, ?_⟩, fun m _ _ => hkept m⟩
    rw [hkept, hsame]
  · have hset : (composeSeat (putSeat n (confirmedEntry (s.seat n) g) (confirmReady g n s)) n).res.seats =
        s.res.seats.set (n - 1) (resolved (confirmReady g n s) (confirmedEntry (s.seat n) g)) := by
      simp [hready]
    exact ⟨⟨_, seat_of_set_self hn hlength hset⟩, fun m hm hne => seat_of_set_other hn.1 hm hne hset⟩

theorem dirtyRises_confirmMade (g : Segment) (n : Nat) (s : State) : DirtyRises s (confirmMade g n s) := by
  have hready : DirtyRises s (confirmReady g n s) := by
    unfold confirmReady
    split
    · exact dirtyRises_refl s
    · exact dirtyRises_dropRelease n s
  unfold confirmMade
  split
  · exact hready
  · exact dirtyRises_trans (dirtyRises_trans hready (dirtyRises_putSeat _ _ _)) (dirtyRises_composeSeat _ _)

theorem confirmSeat_res {n : Nat} {s : State} {g : Segment} (hn : 1 ≤ n ∧ n ≤ 128)
    (h : confirmable s (s.seat n) = some g) (tag : Byte) : (confirmSeat tag n s).res = (confirmMade g n s).res := by
  rw [confirmSeat_made hn h]
  simp

/-- A confirm marks the result word, and LATE marks SEAT_SUMMARY (R71, R86). -/
theorem confirmSeat_marks {n : Nat} {s : State} {g : Segment} (hn : 1 ≤ n ∧ n ≤ 128)
    (h : confirmable s (s.seat n) = some g) (tag : Byte) :
    (confirmSeat tag n s).isDirty (.status 0) = true ∧
    (g.released = true → (confirmSeat tag n s).isDirty (.status 9) = true) ∧ DirtyRises s (confirmSeat tag n s) := by
  rw [confirmSeat_made hn h]
  have hanswer := dirtyRises_answer tag .seatConfirm (if g.released then .late else .done) none
    (markStatusIf g.released 9 (confirmMade g n s))
  refine ⟨isDirty_answer _ _ _ _ _, fun hlate => hanswer _ (isDirty_markStatusIf hlate 9 _), ?_⟩
  refine dirtyRises_trans ?_ hanswer
  exact dirtyRises_trans (dirtyRises_confirmMade g n s) (dirtyRises_markStatusIf _ _ _)

theorem changesOnly_confirmSeat (tag : Byte) (n : Nat) (s : State) :
    ChangesOnly [.request, .res, .link .a, .link .b, .link .p, .dirty] s (confirmSeat tag n s) := by
  intro p hp
  cases p with
  | link l => cases l <;> simp at hp
  | _ => simp_all [Part.same]

/-- Settles O23: the request reaches `confirmSeat`, which is read off its three cases. -/
theorem confirmActsOnTheSegmentInForce : Obligations.ConfirmActsOnTheSegmentInForce := by
  intro b v s r a n said k hidle hlength
  have hexec : exec (.seatConfirm b v) s = .next (confirmSeat (tagOf v) n a) := by
    rw [show exec (.seatConfirm b v) s = _ from exec_request 3 b v r k]
    exact congrArg Host.Outcome.next (by simp [issueRequest, requestOf, a, n, hidle, field_eq])
  have hsaid (code : ResultCode) (u : State) (hu : u.request = a.request) :
      (answer (tagOf v) .seatConfirm code none u).request = said code := by
    simp [hu, hidle, said, tagOf]
  refine ⟨fun hbad => ?_, fun hlow hhigh hnone => ?_, fun g hlow hhigh hg => ⟨_, hexec, ?_⟩⟩
  · rw [confirmSeat_bad hbad] at hexec
    exact ⟨_, hexec, hsaid _ a rfl, changesOnly_answer _ _ _ _ a⟩
  · rw [confirmSeat_nothing ⟨hlow, hhigh⟩ hnone] at hexec
    exact ⟨_, hexec, hsaid _ a rfl, changesOnly_answer _ _ _ _ a⟩
  · have hn : 1 ≤ n ∧ n ≤ 128 := ⟨hlow, hhigh⟩
    obtain ⟨hreleases, hfetches, hflag⟩ := confirmMade_rest g n a
    obtain ⟨⟨d, hself⟩, hother⟩ := confirmMade_seat hn hlength g
    obtain ⟨hanswered, hlate, hrises⟩ := confirmSeat_marks hn hg (tagOf v)
    have hres := confirmSeat_res hn hg (tagOf v)
    have hseat := seat_congr (congrArg Reservations.seats hres)
    rw [hseat, hself, hres]
    refine ⟨?_, hanswered, rfl, rfl, rfl, rfl, rfl, fun m hm hne => (hseat m).trans (hother m hm hne), hlate, ?_,
      hfetches, hflag, hrises, changesOnly_confirmSeat _ n a⟩
    · rw [confirmSeat_made hn hg]
      exact hsaid _ _ (by simp)
    · simp only [hreleases, filter_seat_bne]

/-! ## Segments released -/

/-- A seat's entry with a segment of it released (R82). -/
def releasedEntry (e : SeatEntry) (g : Segment) : SeatEntry := mapSegment e g fun h => { h with released := true }

/-- A change of the segments that leaves their phases as they are leaves the same one NOW (R74). -/
theorem nowSegment_map {served : List Nat} {c : Nat} {f : Segment → Segment}
    (hf : ∀ h, segmentPhase served c (f h) = segmentPhase served c h) (gs : List Segment) :
    nowSegment served c (gs.map f) = (nowSegment served c gs).map f := by
  have htest : (fun g => segmentPhase served c g == some .now) ∘ f =
      fun g => segmentPhase served c g == some .now := by
    funext h
    simp only [Function.comp_apply, hf]
  rw [nowSegment, List.find?_map, htest]
  rfl

/-- The NOW segment of an entry is still the NOW one once it is released (R74). -/
theorem nowSegment_releasedEntry {served : List Nat} {c : Nat} {e : SeatEntry} {g : Segment}
    (h : nowSegment served c e.segments = some g) :
    nowSegment served c (releasedEntry e g).segments = some { g with released := true } := by
  have hphase (x : Segment) : segmentPhase served c { x with released := true } = segmentPhase served c x := rfl
  rw [releasedEntry, mapSegment, nowSegment_map (fun x => by split <;> simp only [hphase]), h]
  simp

/-- A seat whose NOW segment is released shows RELEASED (Table 5-2). -/
theorem resolve_releasedEntry {s : State} {r : ActiveRoute} {c : Nat} {e : SeatEntry} {g : Segment}
    (hp : position s = some (r, c)) (h : nowSegment r.served c e.segments = some g) :
    (resolve s (releasedEntry e g)).status = .released := by
  have hnow := nowSegment_releasedEntry h
  have hphase := segmentPhase_now_iff.mpr (nowSegment_eq_some_iff.mp hnow).met
  obtain ⟨hlive, -⟩ := (nowSegment_eq_some_iff.mp h).met
  rw [resolve_of_deciding hp (decidingSegment_now hp hnow), if_neg (by simp [hlive]), if_pos hphase, if_pos rfl]

section
variable {s : State} {x : ReleaseEntry} {r : ActiveRoute} {c : Nat} {g : Segment}

/-- The notice of a segment released at an expiry (R82). -/
def releaseNotice (n : Nat) (r : ActiveRoute) (g : Segment) : Notice :=
  .seatReleased n (r.copy.stop g.fromIndex).code g.fromIndex

/-- The state in which the entry of an expired seat is replaced: its release entry is gone, the notice is given
(R82). -/
def releaseReady (n : Nat) (r : ActiveRoute) (g : Segment) (s : State) : State :=
  raise (releaseNotice n r g) (dropRelease n s)

theorem expireRelease_now (hp : position s = some (r, c))
    (h : nowSegment r.served c (s.seat x.seat).segments = some g) : expireRelease x s =
      composeSeat (markStatus 9 (putSeat x.seat (releasedEntry (s.seat x.seat) g) (releaseReady x.seat r g s)))
        x.seat := by
  have hposition : position (dropRelease x.seat s) = position s := position_congr (by simp) (by simp)
  have hseat : (dropRelease x.seat s).seat x.seat = s.seat x.seat := seat_congr (by simp) _
  simp only [expireRelease, hposition, hp, hseat, h]
  rfl

/-- What an expiry makes of the engine: the seat's release entry goes and its segment is released (R82). -/
theorem expireRelease_res (hp : position s = some (r, c))
    (h : nowSegment r.served c (s.seat x.seat).segments = some g) : (expireRelease x s).res = { s.res with
      seats := s.res.seats.set (x.seat - 1) (resolved s (releasedEntry (s.seat x.seat) g))
      releaseList := s.res.releaseList.filter fun y => y.seat != x.seat } := by
  have hresolved : resolved (releaseReady x.seat r g s) = resolved s :=
    resolved_congr (by simp [releaseReady]) (by simp [releaseReady]) (by simp [releaseReady])
  rw [expireRelease_now hp h]
  simp only [composeSeat_keeps, markStatus_keeps, putSeat_res, hresolved]
  simp [releaseReady]

theorem expireRelease_notices (hp : position s = some (r, c))
    (h : nowSegment r.served c (s.seat x.seat).segments = some g) :
    (expireRelease x s).notices = s.given (releaseNotice x.seat r g) := by
  rw [expireRelease_now hp h]
  simp [releaseReady, raise_notices, State.given]

theorem isDirty_expireRelease (hp : position s = some (r, c))
    (h : nowSegment r.served c (s.seat x.seat).segments = some g) :
    (expireRelease x s).isDirty (.status 9) = true := by
  rw [expireRelease_now hp h]
  exact dirtyRises_composeSeat _ _ _ (isDirty_markDirty _ _)

theorem dirtyRises_expireRelease (hp : position s = some (r, c))
    (h : nowSegment r.served c (s.seat x.seat).segments = some g) : DirtyRises s (expireRelease x s) := by
  rw [expireRelease_now hp h]
  refine dirtyRises_trans ?_ (dirtyRises_composeSeat _ _)
  refine dirtyRises_trans ?_ (dirtyRises_markStatus 9 _)
  refine dirtyRises_trans ?_ (dirtyRises_putSeat _ _ _)
  exact dirtyRises_trans (dirtyRises_dropRelease _ s) (dirtyRises_raise _ _)

end

theorem changesOnly_expireRelease (x : ReleaseEntry) (s : State) :
    ChangesOnly [.res, .link .a, .link .b, .link .p, .notices, .dirty, .counts] s (expireRelease x s) := by
  intro p hp
  cases p with
  | link l => cases l <;> simp at hp
  | _ => simp_all [Part.same]

/-- The state when a release entry expires, before the expiry acts: the port has chosen its next own access (log 46) and
the timebase stands at the deadline (log 2). -/
def State.atExpiry (s : State) (t : Time) : State := advanceTo t s.ready

@[simp] theorem atExpiry_keeps (s : State) (t : Time) :
    (s.atExpiry t).res = s.res ∧ (s.atExpiry t).route = s.route ∧ (s.atExpiry t).tracker = s.tracker ∧
    (s.atExpiry t).items = s.items ∧ (s.atExpiry t).notices = s.notices ∧ (s.atExpiry t).timebase = s.reached t := by
  simp [State.atExpiry, advanceTo_timebase, State.reached]

theorem changesOnly_advanceTo (t : Time) (s : State) : ChangesOnly [.timebase, .dirty] s (advanceTo t s) := by
  intro p hp
  cases p <;> simp_all [Part.same]

theorem exec_releaseExpiry {s : State} {x : ReleaseEntry} {rest : List ReleaseEntry}
    (reset : s.bus.resetAsserted = false) (run : s.items.softReset = false) (h : s.res.releaseList = x :: rest) :
    exec .releaseExpiry s = .next (expireRelease x (s.atExpiry x.expiry)) := by
  have hready : s.ready.res.releaseList = x :: rest := by simpa using h
  refine congrArg Host.Outcome.next ((onEvent_run _ run reset).trans ?_)
  simp only [hready]
  rfl

/-- Settles O45: the first entry expires in a state that has the seats, the route and the current stop of the one
before. -/
theorem releaseExpiryReleasesTheSegment : Obligations.ReleaseExpiryReleasesTheSegment := by
  intro s x rest r c g reset run hlength hlist hlow hhigh hp hnow
  have hseat (m : Nat) : (s.atExpiry x.expiry).seat m = s.seat m := seat_congr (by simp) m
  have hp' : position (s.atExpiry x.expiry) = some (r, c) := (position_congr (by simp) (by simp)).trans hp
  have hnow' : nowSegment r.served c ((s.atExpiry x.expiry).seat x.seat).segments = some g := by rwa [hseat]
  have hres := expireRelease_res hp' hnow'
  have hlength' : (s.atExpiry x.expiry).res.seats.length = 128 := by simpa using hlength
  have hself := seat_of_set_self ⟨hlow, hhigh⟩ hlength' (congrArg Reservations.seats hres)
  refine ⟨_, exec_releaseExpiry reset run hlist, by simp, ?_⟩
  rw [hself, hseat]
  refine ⟨by simp only [hres, filter_seat_bne, atExpiry_keeps], rfl, resolve_releasedEntry hp' hnow, rfl, rfl,
    fun m hm hne => ?_, ?_, by simp [hres], by simp [hres], isDirty_expireRelease hp' hnow', ?_, ?_⟩
  · rw [seat_of_set_other hlow hm hne (congrArg Reservations.seats hres), hseat]
  · rw [expireRelease_notices hp' hnow']
    simp [State.given, NoticeWriter.give, Notice.minor, releaseNotice]
  · refine dirtyRises_trans (dirtyRises_ready s) ?_
    exact dirtyRises_trans (dirtyRises_advanceTo _ _) (dirtyRises_expireRelease hp' hnow')
  · exact changesOnly_trans (changesOnly_mono (by simp) (changesOnly_advanceTo x.expiry s.ready))
      (changesOnly_mono (by simp) (changesOnly_expireRelease x _))

end Sys2Proof.Machine
end

section
/-! PROOFS. What an operation carries over of a link: the addresses of its units, its next address, and a sound queue. -/

namespace Sys2Proof.Machine

/-! ## Keys of items -/

theorem Item.sameKey_iff (a b : Item) : a.sameKey b = true ↔ a.address = b.address ∧
    ((∃ c d, a.body = .content c ∧ b.body = .content d ∧ c.kind = d.kind) ∨
      (∃ c d, a.body = .level c ∧ b.body = .level d) ∨ (a.body = .probe ∧ b.body = .probe)) := by
  obtain ⟨a, x⟩ := a
  obtain ⟨b, y⟩ := b
  cases x <;> cases y <;> simp [Item.sameKey]

theorem Item.sameKey_refl (a : Item) : a.sameKey a = true := by
  obtain ⟨a, x⟩ := a
  cases x <;> simp [Item.sameKey]

theorem Item.sameKey_comm (a b : Item) : a.sameKey b = b.sameKey a := by
  rw [Bool.eq_iff_iff, Item.sameKey_iff, Item.sameKey_iff]
  grind

/-- Two items of one key have the same key as any third. -/
theorem Item.sameKey_congr {a b : Item} (h : a.sameKey b = true) (c : Item) : a.sameKey c = b.sameKey c := by
  rw [Bool.eq_iff_iff, Item.sameKey_iff, Item.sameKey_iff]
  rw [Item.sameKey_iff] at h
  grind

/-! ## Queues -/

/-- A queue holds at most 32 items, no two of one unit and kind (R106, R113). -/
structure QueueSound (q : List Item) : Prop where
  depth : q.length ≤ 32
  single : q.Pairwise fun a b => a.sameKey b = false

theorem QueueSound.sublist {q r : List Item} (h : QueueSound q) (hr : r.Sublist q) : QueueSound r :=
  ⟨hr.length_le.trans h.depth, h.single.sublist hr⟩

/-- An item of a key that the queue lacks joins it below 32 (R113). -/
theorem QueueSound.append {q : List Item} (h : QueueSound q) {it : Item} (hnew : q.any (fun p => p.sameKey it) = false)
    (hroom : q.length < 32) : QueueSound (q ++ [it]) := by
  refine ⟨by simpa using hroom, List.pairwise_append.mpr ⟨h.single, List.pairwise_singleton _ it, fun p hp r hr => ?_⟩⟩
  rw [List.mem_singleton.mp hr]
  simpa using List.any_eq_false.mp hnew p hp

/-- An item takes the place of the one of its key (R113 case 5). -/
theorem QueueSound.replace {q : List Item} (h : QueueSound q) (it : Item) :
    QueueSound (q.map fun p => if Item.sameKey p it then it else p) := by
  have hkey (p : Item) : (if p.sameKey it = true then it else p).sameKey p = true := by
    split
    · rename_i hp
      rwa [Item.sameKey_comm]
    · exact p.sameKey_refl
  refine ⟨by simpa using h.depth, List.pairwise_map.mpr (h.single.imp fun {a b} hab => ?_)⟩
  rw [Item.sameKey_congr (hkey a), Item.sameKey_comm, Item.sameKey_congr (hkey b), Item.sameKey_comm, hab]

/-! ## What is carried over -/

/-- The purpose is a step that reads or addresses a unit not yet entered (R99). -/
def Purpose.enters : Purpose → Bool
  | .extendedPage _ _ _ | .setAddress _ _ | .checkProbe _ _ => true
  | .openChain | .basePage _ | .item _ | .unassigned _ | .rouse | .rest | .wakeProbe _ | .backoffProbe _ => false

theorem entering_eq (k : Link) : k.entering = k.transaction.any fun t => t.purpose.enters := by
  obtain ⟨state, units, queue, transaction⟩ := k
  cases transaction with
  | none => rfl
  | some t =>
    obtain ⟨purpose⟩ := t
    cases purpose <;> rfl

/-- A link carries another over: the addresses of its units and its next address stand, it reads or addresses no unit
that the other did not, and its queue is as sound. -/
structure Link.Carries (k k' : Link) : Prop where
  addresses : k'.units.map UnitEntry.address = k.units.map UnitEntry.address
  next : k'.nextAddress = k.nextAddress
  entering : k'.entering = true → k.entering = true
  queue : QueueSound k.queue → QueueSound k'.queue

theorem Link.Carries.refl (k : Link) : k.Carries k := ⟨rfl, rfl, id, id⟩

theorem Link.Carries.trans {k k' k'' : Link} (h : k.Carries k') (h' : k'.Carries k'') : k.Carries k'' :=
  ⟨h'.addresses.trans h.addresses, h'.next.trans h.next, fun x => h.entering (h'.entering x),
    fun x => h'.queue (h.queue x)⟩

/-- What leaves the table, the next address, the transaction and the queue alone carries the link over. -/
theorem Link.Carries.of_eq {k k' : Link} (hu : k'.units.map UnitEntry.address = k.units.map UnitEntry.address)
    (hn : k'.nextAddress = k.nextAddress) (ht : k'.transaction = k.transaction) (hq : k'.queue = k.queue) :
    k.Carries k' := ⟨hu, hn, fun h => by rwa [entering_eq, ht, ← entering_eq] at h, fun h => hq ▸ h⟩

/-- Another sound queue. -/
theorem Link.carries_queue {k : Link} {q : List Item} (h : QueueSound k.queue → QueueSound q) :
    k.Carries { k with queue := q } := ⟨rfl, rfl, id, h⟩

theorem Link.length_of_carries {k k' : Link} (h : k.Carries k') : k'.units.length = k.units.length := by
  simpa using congrArg List.length h.addresses

theorem LinkSound.carried {l : LinkId} {k k' : Link} (h : LinkSound l k) (hk : k.Carries k') : LinkSound l k' := by
  have hlength := Link.length_of_carries hk
  have hqueue := hk.queue ⟨h.depth, h.single⟩
  exact ⟨by rw [hk.addresses, hlength, h.addresses], by rw [hk.next, hlength, h.next], hlength ▸ h.capacity,
    fun he => hlength ▸ h.room (hk.entering he), hqueue.depth, hqueue.single⟩

/-! ## Items owed and offered -/

theorem setOwed_address (u : UnitEntry) (kind : ContentKind) (b : Bool) : (u.setOwed kind b).address = u.address := by
  cases kind <;> rfl

theorem map_address {f : UnitEntry → UnitEntry} (h : ∀ u, (f u).address = u.address) (us : List UnitEntry) :
    (us.map f).map UnitEntry.address = us.map UnitEntry.address := by
  rw [List.map_map]
  exact List.map_congr_left fun u _ => h u

theorem Link.carries_mapUnit {f : UnitEntry → UnitEntry} (h : ∀ u, (f u).address = u.address) (k : Link) (a : Nat) :
    k.Carries (k.mapUnit a f) := by
  refine .of_eq (map_address (fun u => ?_) k.units) rfl rfl rfl
  split
  · exact h u
  · rfl

theorem Link.carries_owe (k : Link) (it : Item) : k.Carries (k.owe it) := by
  unfold Link.owe
  split
  · exact k.carries_mapUnit (fun u => setOwed_address u _ true) _
  · exact .of_eq rfl rfl rfl rfl
  · exact .refl k

theorem Link.carries_pay (k : Link) (it : Item) : k.Carries (k.pay it) := by
  unfold Link.pay
  split
  · exact k.carries_mapUnit (fun u => setOwed_address u _ false) _
  · exact .of_eq rfl rfl rfl rfl
  · exact .refl k

theorem Link.carries_overflows (k : Link) (it : Item) : k.Carries (k.overflows it) := by
  unfold Link.overflows
  split
  · exact .refl k
  · exact (k.carries_owe it).trans (.of_eq rfl rfl rfl rfl)

theorem Link.carries_enqueue (k : Link) (nearFull : Nat) (it : Item) : k.Carries (k.enqueue nearFull it) := by
  unfold Link.enqueue
  split
  · exact (Link.carries_queue fun h => h.replace it).trans (Link.carries_pay _ it)
  · rename_i hnew
    split
    · exact k.carries_overflows it
    · rename_i hroom
      split
      · exact k.carries_owe it
      · refine (Link.carries_queue fun h => ?_).trans (Link.carries_pay _ it)
        exact h.append (Bool.eq_false_iff.mpr hnew) (Nat.lt_of_not_le hroom)

theorem Link.carries_offer (k : Link) (nearFull : Nat) (it : Item) : k.Carries (k.offer nearFull it) := by
  have howe := k.carries_owe it
  have henqueue := k.carries_enqueue nearFull it
  unfold Link.offer
  split
  · exact .refl k
  · split
    · split; exacts [howe, henqueue]
    · split
      · exact .refl k
      · split; exacts [howe, by split; exacts [howe, by split; exacts [howe, henqueue]]]

/-- An item given back is re-appended only where the queue lacks its key (R117, R124). -/
theorem Link.carries_giveBack (k : Link) (it : Item) : k.Carries (k.giveBack it) := by
  unfold Link.giveBack Link.reappend
  split
  · exact .refl k
  · rename_i hnew
    split
    · rename_i hroom
      exact Link.carries_queue fun h => h.append (Bool.eq_false_iff.mpr hnew) hroom
    · exact k.carries_overflows it

/-! ## Sweeps -/

theorem Link.carries_foldl {α : Type} {f : Link → α → Link} (h : ∀ (k : Link) x, k.Carries (f k x)) (xs : List α) (k : Link) :
    k.Carries (xs.foldl f k) :=
  List.foldlRecOn (motive := k.Carries) xs f (.refl k) fun _ hk x _ => hk.trans (h _ x)

theorem Link.carries_sweepOne (sup : Supply) (k : Link) (x : Nat × ContentKind) : k.Carries (Link.sweepOne sup k x) := by
  unfold Link.sweepOne
  split
  · exact .refl k
  · split
    · exact (k.carries_offer _ _).trans (.of_eq rfl rfl rfl rfl)
    · exact .refl k

theorem Link.carries_sweep (sup : Supply) (k : Link) : k.Carries (k.sweep sup) := by
  have hlevel : k.Carries (k.sweepLevel sup) := by
    unfold Link.sweepLevel
    split
    · exact k.carries_offer _ _
    · exact .refl k
  unfold Link.sweep
  split
  · exact hlevel.trans (Link.carries_foldl (Link.carries_sweepOne sup) _ _)
  · exact .refl k

theorem Link.carries_payOwed (sup : Supply) (a : Nat) (k : Link) (kind : ContentKind) :
    k.Carries (Link.payOwed sup a k kind) := by
  unfold Link.payOwed
  split
  · exact .refl k
  · split
    · exact k.carries_offer _ _
    · exact .refl k

theorem refresh_address (u : UnitEntry) : u.refresh.address = u.address :=
  List.foldlRecOn (motive := fun v => v.address = u.address) u.kinds _ rfl fun v hv kind _ =>
    (setOwed_address v kind true).trans hv

/-- An enumeration's end leaves the table, the next address and the queue (R100). -/
theorem Link.carries_enumerated (k : Link) (e : Ending) : k.Carries (k.enumerated e) := by
  refine .of_eq (map_address (fun u => ?_) k.units) rfl rfl rfl
  split
  · exact refresh_address u
  · rfl

end Sys2Proof.Machine
end

section
/-! PROOFS. The composer, the reservation engine, the route engine and the filter carry every link over. -/

namespace Sys2Proof.Machine

/-! ## Every link carried over -/

/-- Every link is carried over. -/
def CarriesLinks (s t : State) : Prop := ∀ l, (s.link l).Carries (t.link l)

theorem CarriesLinks.trans {s t u : State} (h : CarriesLinks s t) (k : CarriesLinks t u) : CarriesLinks s u :=
  fun l => (h l).trans (k l)

/-- What leaves every link alone. -/
theorem CarriesLinks.of_links {s t : State} (h : ∀ l, t.link l = s.link l) : CarriesLinks s t :=
  fun l => h l ▸ .refl _

theorem CarriesLinks.refl (s : State) : CarriesLinks s s := .of_links fun _ => rfl

theorem carriesLinks_foldl {α : Type} {f : State → α → State} (h : ∀ s x, CarriesLinks s (f s x)) (xs : List α)
    (s : State) : CarriesLinks s (xs.foldl f s) :=
  List.foldlRecOn (motive := CarriesLinks s) xs f (.refl s) fun _ hu x _ => hu.trans (h _ x)

/-- What changes one link only, and carries it over. -/
theorem CarriesLinks.of_link {l : LinkId} {s t : State} (hl : (s.link l).Carries (t.link l))
    (h : ∀ m, m ≠ l → t.link m = s.link m) : CarriesLinks s t := by
  intro m
  by_cases hm : m = l
  · exact hm ▸ hl
  · exact h m hm ▸ .refl _

theorem carriesLinks_onLink {l : LinkId} {f : Link → Link} {s : State} (h : (s.link l).Carries (f (s.link l))) :
    CarriesLinks s (onLink l f s) := .of_link (l := l) (by simpa using h) fun m hm => onLink_other l f s m hm

theorem carriesLinks_raise (n : Notice) (s : State) : CarriesLinks s (raise n s) := .of_links (by simp)

theorem carriesLinks_markStatusIf (b : Bool) (w : Fin 256) (s : State) : CarriesLinks s (markStatusIf b w s) :=
  .of_links (by simp)

theorem carriesLinks_raiseIf (b : Bool) (n : Notice) (s : State) : CarriesLinks s (raiseIf b n s) :=
  .of_links (by simp)

theorem carriesLinks_bump (c : Counter) (s : State) : CarriesLinks s (bump c s) := .of_links (by simp)

theorem carriesLinks_answer (tag : Byte) (kind : RequestKind) (code : ResultCode) (reason : Option InvalidReason)
    (s : State) : CarriesLinks s (answer tag kind code reason s) := .of_links (by simp)

/-- The reservation engine replaced. -/
@[simp] theorem link_withRes (r : Reservations) (s : State) (l : LinkId) : { s with res := r }.link l = s.link l := by
  cases l <;> rfl

/-- The request unit replaced. -/
@[simp] theorem link_withRequest (q : RequestUnit) (s : State) (l : LinkId) :
    { s with request := q }.link l = s.link l := by cases l <;> rfl

/-! ## The composer -/

theorem carriesLinks_sweepLink (l : LinkId) (s : State) : CarriesLinks s (sweepLink l s) :=
  carriesLinks_onLink (Link.carries_sweep _ _)

theorem carriesLinks_sweepAfterRemoval (l : LinkId) (n : Nat) (s : State) :
    CarriesLinks s (sweepAfterRemoval l n s) := by
  unfold sweepAfterRemoval
  split
  · exact carriesLinks_sweepLink l s
  · exact .refl s

theorem carriesLinks_offerItem (l : LinkId) (it : Item) (s : State) : CarriesLinks s (offerItem l it s) :=
  carriesLinks_onLink (Link.carries_offer _ _ it)

theorem carriesLinks_withdrawItem (l : LinkId) (it : Item) (s : State) : CarriesLinks s (withdrawItem l it s) :=
  (carriesLinks_onLink (Link.carries_queue fun h => h.sublist List.filter_sublist)).trans
    (carriesLinks_sweepAfterRemoval l _ _)

theorem carriesLinks_judgeTarget (l : LinkId) (s : State) (x : Nat × ContentKind) :
    CarriesLinks s (judgeTarget l s x) := by
  unfold judgeTarget
  split
  · exact .refl s
  · dsimp only
    split
    · split
      · exact carriesLinks_withdrawItem l _ s
      · exact carriesLinks_offerItem l _ s
    · exact .refl s

theorem carriesLinks_judgeLevel (s : State) (l : LinkId) : CarriesLinks s (judgeLevel s l) := by
  unfold judgeLevel
  split
  · split
    · exact carriesLinks_withdrawItem l _ s
    · exact carriesLinks_offerItem l _ s
  · exact .refl s

theorem carriesLinks_composePanels (s : State) : CarriesLinks s (composePanels s) :=
  carriesLinks_foldl (carriesLinks_judgeTarget .p) _ s

theorem carriesLinks_composePanelsIf (b : Bool) (s : State) : CarriesLinks s (composePanelsIf b s) := by
  unfold composePanelsIf
  split
  · exact carriesLinks_composePanels s
  · exact .refl s

theorem carriesLinks_composeSeat (s : State) (n : Nat) : CarriesLinks s (composeSeat s n) := by
  unfold composeSeat
  split
  · exact .refl s
  · exact carriesLinks_judgeTarget _ s _

/-- Seats handed to the composer by what leaves the links alone otherwise. -/
theorem carriesLinks_composeSeats {s t : State} (h : ∀ l, t.link l = s.link l) (ns : List Nat) :
    CarriesLinks s (composeSeats ns t) :=
  (CarriesLinks.of_links h).trans (carriesLinks_foldl carriesLinks_composeSeat ns t)

/-- Panels recomposed by what leaves the links alone otherwise. -/
theorem carriesLinks_panels {s t : State} (h : ∀ l, t.link l = s.link l) : CarriesLinks s (composePanels t) :=
  (CarriesLinks.of_links h).trans (carriesLinks_composePanels t)

/-! ## The reservation engine -/

theorem carriesLinks_setUnverified (b : Bool) (s : State) : CarriesLinks s (setUnverified b s) := by
  unfold setUnverified
  split
  · exact .refl s
  · exact carriesLinks_composeSeats (by simp) _

theorem carriesLinks_rejudge (s : State) : CarriesLinks s (rejudge s) := carriesLinks_composeSeats (by simp) _

theorem carriesLinks_retag (examined : Segment → Bool) (r : ActiveRoute) (removed : Option Nat) (s : State) :
    CarriesLinks s (retag examined r removed s) := carriesLinks_composeSeats (by simp) _

theorem carriesLinks_takeCommit (e : CommitEntry) (s : State) : CarriesLinks s (takeCommit e s) := by
  unfold takeCommit
  split
  · exact .of_links (by simp)
  · refine CarriesLinks.trans ?_ (carriesLinks_raise _ _)
    exact (carriesLinks_bump .journalOverrun s).trans (carriesLinks_setUnverified true _)

theorem carriesLinks_applyRecord (r : Record) (s : State) : CarriesLinks s (applyRecord r s) := by
  refine CarriesLinks.trans (.of_links fun l => ?_) (carriesLinks_composeSeat _ _)
  have hraised (n : Segment → Notice) (gs : List Segment) (u : State) :
      (gs.foldl (fun s g => raise (n g) s) u).link l = u.link l := foldl_keeps (State.link · l) _ (by simp) gs u
  dsimp only
  split
  · simp [hraised]
  · simp

theorem carriesLinks_judgeRecord (e : CommitEntry) (r : Record) (s : State) : CarriesLinks s (judgeRecord e r s) := by
  unfold judgeRecord
  split
  · refine CarriesLinks.trans ?_ (carriesLinks_raise _ _)
    exact (carriesLinks_bump .journalTorn s).trans (carriesLinks_setUnverified true _)
  · split
    · exact carriesLinks_bump .resMalformed s
    · split
      · exact carriesLinks_applyRecord r s
      · exact carriesLinks_bump .resSuperseded s

theorem carriesLinks_completeFetch (s : State) : CarriesLinks s (completeFetch s) := by
  unfold completeFetch
  split
  · exact .refl s
  · exact CarriesLinks.trans (.of_links (by simp)) (carriesLinks_judgeRecord _ _ _)

theorem carriesLinks_clearSeats (s : State) : CarriesLinks s (clearSeats s) := by
  refine CarriesLinks.trans (t := setReleaseList [] s) (.of_links (by simp)) ?_
  unfold clearSeats
  generalize setReleaseList [] s = u
  exact carriesLinks_composeSeats (by simp) _

theorem carriesLinks_expireRelease (x : ReleaseEntry) (s : State) : CarriesLinks s (expireRelease x s) := by
  unfold expireRelease
  dsimp only
  split
  · exact .of_links (by simp)
  · split
    · exact .of_links (by simp)
    · exact CarriesLinks.trans (.of_links (by simp)) (carriesLinks_composeSeat _ _)

theorem carriesLinks_confirmSeat (tag : Byte) (n : Nat) (s : State) : CarriesLinks s (confirmSeat tag n s) := by
  unfold confirmSeat
  split
  · exact .of_links (by simp)
  · dsimp only
    split
    · exact .of_links (by simp)
    · rename_i g hg
      have hready : CarriesLinks s (if g.released then s else dropRelease n s) := .of_links fun l => by split <;> simp
      refine CarriesLinks.trans ?_ (carriesLinks_answer _ _ _ _ _)
      refine CarriesLinks.trans ?_ (carriesLinks_markStatusIf _ _ _)
      split
      · exact hready
      · exact (hready.trans (.of_links (by simp))).trans (carriesLinks_composeSeat _ _)

/-! ## The route engine -/

theorem carriesLinks_setMode (m : Mode) (s : State) : CarriesLinks s (setMode m s) := by
  unfold setMode
  split
  · exact .refl s
  · exact CarriesLinks.trans (.of_links (by simp)) (carriesLinks_composePanelsIf _ _)

theorem carriesLinks_readCap (s : State) : CarriesLinks s (readCap s) := by
  unfold readCap
  split
  · split
    · exact carriesLinks_setMode _ s
    · exact .refl s
  · exact .refl s

/-- The segments tagged again and judged, and the panels recomposed, once the coast cap has been read. -/
theorem carriesLinks_retagged {s t : State} (h : ∀ l, t.link l = s.link l) (examined : Segment → Bool) (r : ActiveRoute)
    (removed : Option Nat) : CarriesLinks s (composePanels (rejudge (retag examined r removed (readCap t)))) :=
  ((((CarriesLinks.of_links h).trans (carriesLinks_readCap t)).trans (carriesLinks_retag _ _ _ _)).trans
    (carriesLinks_rejudge _)).trans (carriesLinks_composePanels _)

theorem carriesLinks_switchRoute (image : ImageId) (start : Start) (copy : RouteCopy) (s : State) :
    CarriesLinks s (switchRoute image start copy s) := by
  refine CarriesLinks.trans ?_ (carriesLinks_raise _ _)
  exact carriesLinks_retagged (by simp) _ _ _

theorem carriesLinks_enterStop (s : State) : CarriesLinks s (enterStop s) := by
  unfold enterStop
  split
  · split
    · exact carriesLinks_switchRoute _ _ _ s
    · exact .of_links (by simp)
  · exact .refl s

theorem carriesLinks_completeActivation (copy : RouteCopy) (s : State) :
    CarriesLinks s (completeActivation copy s) := by
  unfold completeActivation
  split
  · refine CarriesLinks.trans (t := s.idled) (.of_links (by simp [State.idled])) ?_
    dsimp only
    split
    · exact .of_links (by simp [State.idled])
    · split
      · exact (carriesLinks_switchRoute _ _ _ s.idled).trans (carriesLinks_answer _ _ _ _ _)
      · exact .of_links (by simp [State.idled])
  · exact .refl s

theorem carriesLinks_replaceServed (old new : ActiveRoute) (s : State) :
    CarriesLinks s (replaceServed old new s) := by
  unfold replaceServed
  split
  · exact carriesLinks_panels (by simp)
  · have hreplaced (k : Tracker) (r : Route) := carriesLinks_retagged (s := s) (t := setTracker k (setRoute r s)) (by simp)
    dsimp only
    split
    · exact (hreplaced _ _ _ _ _).trans (carriesLinks_enterStop _)
    · exact hreplaced _ _ _ _ _

theorem carriesLinks_changePortion (r : ActiveRoute) (p : Portion) (s : State) :
    CarriesLinks s (changePortion r p s) := by
  unfold changePortion
  dsimp only
  split
  · exact carriesLinks_panels (by simp)
  · split
    · refine CarriesLinks.trans ?_ (carriesLinks_composePanels _)
      exact (CarriesLinks.of_links (by simp)).trans ((carriesLinks_retag _ _ _ _).trans (carriesLinks_rejudge _))
    · exact carriesLinks_replaceServed _ _ s

theorem carriesLinks_takeConsist (k : Consist) (s : State) : CarriesLinks s (takeConsist k s) := by
  unfold takeConsist
  dsimp only
  split
  · split
    · exact carriesLinks_panels (by simp)
    · exact CarriesLinks.trans (.of_links (by simp)) (carriesLinks_changePortion _ _ _)
  · exact carriesLinks_panels (by simp)

/-! ## Transitions of the approach -/

theorem carriesLinks_announceNext (r : ActiveRoute) (n : Nat) (s : State) : CarriesLinks s (announceNext r n s) :=
  .of_links (by simp)

theorem carriesLinks_departed (c : Nat) (k : Lock) (s : State) : CarriesLinks s (departed c k s) := .of_links (by simp)

theorem carriesLinks_handCurrent (s : State) : CarriesLinks s (handCurrent s) :=
  ((carriesLinks_rejudge s).trans (carriesLinks_composePanels _)).trans (carriesLinks_readCap _)

theorem carriesLinks_beginApproach (r : ActiveRoute) (a : Approach) (s : State) :
    CarriesLinks s (beginApproach r a s) := by
  refine CarriesLinks.trans ?_ (carriesLinks_announceNext _ _ _)
  exact carriesLinks_panels (by simp)

theorem carriesLinks_beginArriving (r : ActiveRoute) (a : Approach) (s : State) :
    CarriesLinks s (beginArriving r a s) := by
  have hbegin := carriesLinks_panels (s := s) (t := setApproach { a with state := .arriving } s) (by simp)
  unfold beginArriving
  dsimp only
  split
  · exact hbegin
  · exact hbegin.trans (.of_links (by simp))

theorem carriesLinks_depart (r : ActiveRoute) (a : Approach) (s : State) : CarriesLinks s (depart r a s) := by
  have hdepart (k : Approach) (n : Notice) (c : Nat) (lock : Lock) :
      CarriesLinks s (departed c lock (composePanels (raise n (setApproach k s)))) :=
    CarriesLinks.trans (carriesLinks_panels (by simp)) (carriesLinks_departed _ _ _)
  unfold depart
  dsimp only
  split
  · exact (hdepart _ _ _ _).trans (carriesLinks_announceNext _ _ _)
  · exact hdepart _ _ _ _

theorem carriesLinks_arrive (r : ActiveRoute) (a : Approach) (s : State) : CarriesLinks s (arrive r a s) :=
  ((CarriesLinks.of_links (by simp)).trans (carriesLinks_handCurrent _)).trans (carriesLinks_enterStop _)

theorem carriesLinks_passStop (r : ActiveRoute) (a : Approach) (s : State) : CarriesLinks s (passStop r a s) := by
  have hpassed (k : Tracker) (n : Notice) (c : Nat) (lock : Lock) :
      CarriesLinks s (departed c lock (handCurrent (raise n (setTracker k s)))) :=
    ((CarriesLinks.of_links (by simp)).trans (carriesLinks_handCurrent _)).trans (carriesLinks_departed _ _ _)
  cases hfinal : r.last (a.current + 1) with
  | true =>
    simp only [passStop, hfinal, if_true]
    exact (hpassed _ _ _ _).trans (carriesLinks_enterStop _)
  | false =>
    simp only [passStop, hfinal, Bool.false_eq_true, if_false]
    exact hpassed _ _ _ _

/-- A round of the pass makes one transition, or none (R42). -/
theorem carriesLinks_passRound (release : Bool) (x : Pass) : CarriesLinks x.state (passRound release x).state := by
  unfold passRound
  dsimp only
  split
  · rename_i r a hr ha
    split
    case h_1 => split; exacts [carriesLinks_depart r a _, .refl _]
    case h_2 =>
      split
      · exact carriesLinks_passStop r a _
      · split; exacts [carriesLinks_beginArriving r a _, .refl _]
    case h_3 =>
      split
      · exact carriesLinks_passStop r a _
      · split; exacts [carriesLinks_arrive r a _, .refl _]
    case h_4 =>
      split
      · exact carriesLinks_passStop r a _
      · split; exacts [carriesLinks_beginApproach r a _, .refl _]
    case h_5 => exact .refl _
  · exact .refl _

theorem carriesLinks_runPass (release : Bool) (n : Nat) (x : Pass) :
    CarriesLinks x.state (runPass release n x).state := by
  induction n generalizing x with
  | zero => exact .refl _
  | succ n ih =>
    unfold runPass
    split
    · exact .refl _
    · exact (carriesLinks_passRound release x).trans (ih _)

/-! ## Evaluations -/

theorem carriesLinks_showDelay (b : Bool) (code : Nat) (s : State) : CarriesLinks s (showDelay b code s) := by
  unfold showDelay
  split
  · exact .refl s
  · dsimp only
    split
    · exact carriesLinks_panels (by simp)
    · exact .refl s

theorem carriesLinks_arithmetic (b : Bool) (s : State) : CarriesLinks s (arithmetic b s) := by
  unfold arithmetic
  split
  · split
    · exact CarriesLinks.trans (.of_links (by simp)) (carriesLinks_showDelay _ _ _)
    · exact CarriesLinks.trans (.of_links (by simp)) (carriesLinks_showDelay _ _ _)
  · exact .refl s

theorem carriesLinks_doorsAway (release : Bool) (x : Pass) : CarriesLinks x.state (doorsAway release x) :=
  .of_links (by simp)

theorem carriesLinks_evaluateReport (release : Bool) (s : State) : CarriesLinks s (evaluateReport release s) := by
  unfold evaluateReport
  dsimp only
  refine CarriesLinks.trans (t := setTracker (Tracker.counted s) s) (.of_links (by simp)) ?_
  split
  · exact .refl _
  · refine CarriesLinks.trans ?_ (carriesLinks_arithmetic _ _)
    refine CarriesLinks.trans ?_ (carriesLinks_doorsAway _ _)
    exact carriesLinks_runPass release passRounds ⟨_, false, false, false⟩

theorem carriesLinks_evaluateCoast (s : State) : CarriesLinks s (evaluateCoast s) := by
  unfold evaluateCoast
  split
  · rename_i r a hr ha
    refine CarriesLinks.trans ?_ (carriesLinks_arithmetic _ _)
    cases a.state with
    | standing => dsimp only; split; exacts [carriesLinks_depart r a s, .refl s]
    | cruising => dsimp only; split; exacts [carriesLinks_beginApproach r a s, .refl s]
    | approaching => exact .refl s
    | arriving => exact .refl s
    | terminated => exact .refl s
  · exact .refl s

/-! ## Reports -/

/-- An event on the motion mode, by what leaves the links alone otherwise. -/
theorem carriesLinks_moveBy {s t : State} (h : ∀ l, t.link l = s.link l) (e : MotionEvent) :
    CarriesLinks s (moveBy e t) := (CarriesLinks.of_links h).trans (carriesLinks_setMode _ t)

theorem carriesLinks_freshen (s : State) : CarriesLinks s (freshen s) := by
  unfold freshen
  dsimp only
  split
  · exact carriesLinks_moveBy (by simp) _
  · exact .of_links (by simp)

theorem carriesLinks_judgeLock (v : Verdict) (s : State) : CarriesLinks s (judgeLock v s) := by
  rw [judgeLock_eq]
  split
  · exact .of_links (by simp)
  · exact CarriesLinks.trans (.of_links (by simp)) ((carriesLinks_composePanelsIf _ _).trans (carriesLinks_setMode _ _))

theorem carriesLinks_judgeMode (before : Lock) (v : Verdict) (s : State) : CarriesLinks s (judgeMode before v s) := by
  have hmove := carriesLinks_moveBy (s := s) fun _ => rfl
  have hstay := CarriesLinks.refl s
  unfold judgeMode
  split
  · cases v; exacts [hstay, hstay, hstay, hmove _, hmove _]
  · exact hstay

theorem carriesLinks_moveFigures (v : Verdict) (r : Report) (s : State) : CarriesLinks s (moveFigures v r s) :=
  .of_links (by simp)

theorem carriesLinks_offerStates (r : Report) (s : State) : CarriesLinks s (offerStates r s) := by
  unfold offerStates
  dsimp only
  split
  · exact .of_links (by simp)
  · exact CarriesLinks.trans (.of_links (by simp)) (carriesLinks_foldl carriesLinks_judgeLevel _ _)

theorem carriesLinks_takeReport (r : Report) (s : State) : CarriesLinks s (takeReport r s) := by
  unfold takeReport
  dsimp only
  split
  · exact .of_links (by simp)
  · refine CarriesLinks.trans ?_ (carriesLinks_evaluateReport _ _)
    refine CarriesLinks.trans ?_ (carriesLinks_offerStates _ _)
    refine CarriesLinks.trans ?_ (carriesLinks_moveFigures _ _ _)
    refine CarriesLinks.trans ?_ (carriesLinks_judgeMode _ _ _)
    refine CarriesLinks.trans ?_ (carriesLinks_judgeLock _ _)
    exact CarriesLinks.trans (.of_links (by simp)) (carriesLinks_freshen _)

theorem carriesLinks_expireFreshness (s : State) : CarriesLinks s (expireFreshness s) := by
  unfold expireFreshness
  split
  · split
    · exact carriesLinks_moveBy (by simp) _
    · exact .refl s
  · exact .refl s

theorem carriesLinks_fireCoastStep (s : State) : CarriesLinks s (fireCoastStep s) := by
  unfold fireCoastStep
  split
  · rename_i due hdue
    split
    · have hread : CarriesLinks s (readCap (advanceTo due s)) :=
        (CarriesLinks.of_links (by simp)).trans (carriesLinks_readCap _)
      refine hread.trans ?_
      dsimp only
      split
      · split
        · exact .of_links (by simp)
        · exact CarriesLinks.trans (.of_links (by simp)) (carriesLinks_evaluateCoast _)
      · exact .refl _
    · exact .refl s
  · exact .refl s

end Sys2Proof.Machine
end

section
/-! PROOFS. Sending and its endings on a running link carry it over. -/

namespace Sys2Proof.Machine

/-! ## One link or one unit changed -/

theorem carriesLinks_putLink {l : LinkId} {k : Link} {s : State} (h : (s.link l).Carries k) :
    CarriesLinks s (s.putLink l k) := .of_link (l := l) (by simpa using h) fun m hm => putLink_other l k s m hm

theorem carriesLinks_setLinkUnits {l : LinkId} {k : Link} {s : State} (h : (s.link l).Carries k) :
    CarriesLinks s (setLinkUnits l k s) :=
  .of_link (l := l) (by simpa using h) fun m hm => setLinkUnits_other l k s m hm

theorem carriesLinks_updateUnit {f : UnitEntry → UnitEntry} (h : ∀ u, (f u).address = u.address) (l : LinkId) (a : Nat)
    (s : State) : CarriesLinks s (updateUnit l a f s) := carriesLinks_setLinkUnits (Link.carries_mapUnit h _ a)

/-- Some flags or times of a link changed, and nothing of its table, its transaction or its queue. -/
theorem carriesLinks_flags {l : LinkId} {f : Link → Link} (h : ∀ k, (f k).units = k.units ∧
    (f k).nextAddress = k.nextAddress ∧ (f k).transaction = k.transaction ∧ (f k).queue = k.queue) (s : State) :
    CarriesLinks s (onLink l f s) := by
  obtain ⟨hunits, hnext, htransaction, hqueue⟩ := h (s.link l)
  exact carriesLinks_onLink (.of_eq (congrArg _ hunits) hnext htransaction hqueue)

theorem carriesLinks_judgeQuiet (l : LinkId) (s : State) : CarriesLinks s (judgeQuiet l s) := by
  unfold judgeQuiet
  dsimp only
  split
  · exact carriesLinks_putLink (.of_eq rfl rfl rfl rfl)
  · exact .refl s

theorem carriesLinks_advanceTo (t : Time) (s : State) : CarriesLinks s (advanceTo t s) := .of_links (by simp)

/-- A frame begun that neither reads nor addresses a unit not yet entered. -/
theorem carriesLinks_beginFrame {p : Purpose} (h : p.enters = false) (l : LinkId) (a : Nat) (kind : FrameKind)
    (payload : List Half) (s : State) : CarriesLinks s (beginFrame l p a kind payload s) :=
  carriesLinks_putLink ⟨rfl, rfl, fun he => by simp [entering_eq, h] at he, id⟩

theorem carriesLinks_clearTransaction (l : LinkId) (s : State) : CarriesLinks s (clearTransaction l s) :=
  carriesLinks_putLink ⟨rfl, rfl, fun he => by simp [entering_eq] at he, id⟩

theorem carriesLinks_countMiss (l : LinkId) (s : State) : CarriesLinks s (countMiss l s) := by
  refine (carriesLinks_bump l.missCounter s).trans ?_
  unfold countMiss
  dsimp only
  split
  · exact carriesLinks_flags (by simp) _
  · exact .refl _

/-! ## Units -/

theorem succeed_address (u : UnitEntry) (now : Time) (interval : Nat) : (u.succeed now interval).address = u.address :=
  rfl

theorem acknowledge_address (u : UnitEntry) (c : Content) : (u.acknowledge c).address = u.address := by
  unfold UnitEntry.acknowledge
  split <;> rfl

theorem beginHold_address (u : UnitEntry) (now : Time) (seconds : Nat) :
    (u.beginHold now seconds).address = u.address := by
  unfold UnitEntry.beginHold
  split <;> rfl

/-! ## Replies and faults -/

theorem carriesLinks_showOk (l : LinkId) (a : Nat) (c : Content) (s : State) : CarriesLinks s (showOk l a c s) := by
  refine carriesLinks_updateUnit (fun u => ?_) l a s
  rw [beginHold_address, succeed_address]
  exact acknowledge_address u c

theorem carriesLinks_probeReply (l : LinkId) (a : Nat) (busy : Bool) (s : State) :
    CarriesLinks s ((if busy then probeBusy l a else probeOk l a) s) := by
  cases busy <;> exact carriesLinks_updateUnit (fun _ => by rfl) l a s

theorem carriesLinks_giveBack (l : LinkId) (it : Item) (s : State) :
    CarriesLinks s (onLink l (fun k => k.giveBack it) s) := carriesLinks_onLink (Link.carries_giveBack _ it)

theorem carriesLinks_showBusy (l : LinkId) (it : Item) (s : State) : CarriesLinks s (showBusy l it s) :=
  (carriesLinks_updateUnit (fun _ => by rfl) l it.address s).trans (carriesLinks_giveBack l it _)

theorem carriesLinks_oweItem (l : LinkId) (it : Option Item) (s : State) : CarriesLinks s (oweItem l it s) := by
  cases it with
  | none => exact .refl s
  | some it => exact carriesLinks_onLink (Link.carries_owe _ it)

theorem carriesLinks_giveBackItem (l : LinkId) (it : Option Item) (s : State) :
    CarriesLinks s (giveBackItem l it s) := by
  cases it with
  | none => exact .refl s
  | some it => exact carriesLinks_giveBack l it s

/-- A unit enters fault handling in each mode (R126, R127, R129). -/
theorem carriesLinks_enterFault (l : LinkId) (a : Nat) (cause : FailCause) (it : Option Item) (s : State) :
    CarriesLinks s (enterFault l a cause it s) := by
  unfold enterFault
  split
  · refine CarriesLinks.trans ?_ (carriesLinks_oweItem l it _)
    exact (carriesLinks_updateUnit (fun _ => by rfl) l a s).trans (carriesLinks_raise _ _)
  · exact (carriesLinks_updateUnit (fun _ => by rfl) l a s).trans (carriesLinks_oweItem l it _)
  · refine CarriesLinks.trans ?_ (carriesLinks_giveBackItem l it _)
    exact (carriesLinks_updateUnit (fun _ => by rfl) l a s).trans (carriesLinks_raiseIf _ _ _)

theorem carriesLinks_missItem (l : LinkId) (it : Item) (s : State) : CarriesLinks s (missItem l it s) := by
  unfold missItem
  split
  · exact .refl s
  · dsimp only
    split
    · exact (carriesLinks_updateUnit (fun _ => by rfl) l _ s).trans (carriesLinks_giveBack l it _)
    · exact (carriesLinks_updateUnit (fun _ => by rfl) l _ s).trans (carriesLinks_enterFault l _ _ _ _)

theorem carriesLinks_recoverUnit (l : LinkId) (a : Nat) (s : State) : CarriesLinks s (recoverUnit l a s) := by
  unfold recoverUnit
  split
  · exact .refl s
  · refine CarriesLinks.trans ?_ (carriesLinks_sweepLink l _)
    refine CarriesLinks.trans ?_ (carriesLinks_raise _ _)
    refine carriesLinks_updateUnit (fun u => ?_) l a s
    exact refresh_address (u.succeed _ _)

theorem carriesLinks_missBackoff (l : LinkId) (a : Nat) (s : State) : CarriesLinks s (missBackoff l a s) := by
  unfold missBackoff
  split
  · exact .refl s
  · dsimp only
    split
    · exact (carriesLinks_updateUnit (fun _ => by rfl) l a s).trans (carriesLinks_raise _ _)
    · exact carriesLinks_updateUnit (fun _ => by rfl) l a s

/-! ## Rest and rousing -/

theorem carriesLinks_finishRousing (l : LinkId) (s : State) : CarriesLinks s (finishRousing l s) := by
  unfold finishRousing
  split
  · refine CarriesLinks.trans ?_ (carriesLinks_judgeQuiet l _)
    exact (carriesLinks_flags (by simp) s).trans (carriesLinks_sweepLink l _)
  · exact .refl s

theorem carriesLinks_advanceWake (l : LinkId) (except : Option Nat) (s : State) :
    CarriesLinks s (advanceWake l except s) := carriesLinks_flags (by simp) s

theorem carriesLinks_wakeMissed (l : LinkId) (a : Nat) (s : State) : CarriesLinks s (wakeMissed l a s) := by
  refine CarriesLinks.trans ?_ (carriesLinks_enterFault l a _ _ _)
  refine (carriesLinks_bump _ s).trans (carriesLinks_updateUnit (fun u => ?_) l a _)
  exact refresh_address u

/-- A wake probe answered, in time or late (R129, R133). -/
theorem carriesLinks_wakeAnswered (l : LinkId) (a : Nat) (timely busy : Bool) (s : State) :
    CarriesLinks s (if timely then wakeUnit l a busy s
      else wakeMissed l a (if busy then s else endEpisode l a s)) := by
  split
  · refine carriesLinks_updateUnit (fun u => ?_) l a s
    exact refresh_address (u.succeed _ _)
  · refine CarriesLinks.trans ?_ (carriesLinks_wakeMissed l a _)
    split
    · exact .refl s
    · exact carriesLinks_updateUnit (fun _ => by rfl) l a s

theorem carriesLinks_afterWake (l : LinkId) (s : State) : CarriesLinks s (afterWake l s) :=
  (carriesLinks_advanceWake l none s).trans (carriesLinks_finishRousing l _)

theorem carriesLinks_rested (l : LinkId) (s : State) : CarriesLinks s (rested l s) := by
  refine CarriesLinks.trans ?_ (carriesLinks_flags (by simp) _)
  refine carriesLinks_setLinkUnits (.of_eq (map_address (fun u => ?_) _) rfl rfl rfl)
  split <;> rfl

theorem carriesLinks_roused (l : LinkId) (s : State) : CarriesLinks s (roused l s) := by
  refine CarriesLinks.trans ?_ (carriesLinks_finishRousing l _)
  exact (carriesLinks_flags (by simp) s).trans (carriesLinks_advanceWake l none _)

theorem carriesLinks_expireWake (l : LinkId) (t : Time) (s : State) : CarriesLinks s (expireWake l t s) := by
  unfold expireWake
  dsimp only
  refine CarriesLinks.trans ?_ (carriesLinks_finishRousing l _)
  refine CarriesLinks.trans ?_ (carriesLinks_advanceWake l _ _)
  exact (carriesLinks_advanceTo t s).trans (carriesLinks_foldl (fun s a => carriesLinks_wakeMissed l a s) _ _)

theorem carriesLinks_handService (s : State) (l : LinkId) : CarriesLinks s (handService s l) := by
  unfold handService
  split
  · exact carriesLinks_flags (by simp) s
  · exact carriesLinks_judgeQuiet l s

theorem carriesLinks_expireQuiet (l : LinkId) (t : Time) (s : State) : CarriesLinks s (expireQuiet l t s) :=
  (carriesLinks_advanceTo t s).trans (carriesLinks_flags (by simp) _)

/-! ## The next frame -/

theorem carriesLinks_beginItem (l : LinkId) (it : Item) (s : State) : CarriesLinks s (beginItem l it s) := by
  unfold beginItem
  split <;> exact carriesLinks_beginFrame rfl l _ _ _ s

theorem carriesLinks_sendHeads (l : LinkId) (n : Nat) (s : State) : CarriesLinks s (sendHeads l n s) := by
  induction n generalizing s with
  | zero => exact .refl s
  | succ n ih =>
    unfold sendHeads
    dsimp only
    split
    · exact .refl s
    · rename_i it rest hqueue
      have htaken : CarriesLinks s (onLink l (fun k => { k with queue := rest }) s) :=
        carriesLinks_onLink (Link.carries_queue fun h => (hqueue ▸ h).sublist (List.sublist_cons_self it rest))
      split
      · exact (htaken.trans (carriesLinks_sweepAfterRemoval l _ _)).trans (carriesLinks_beginItem l it _)
      · refine CarriesLinks.trans ?_ (ih _)
        refine CarriesLinks.trans ?_ (carriesLinks_sweepAfterRemoval l _ _)
        exact htaken.trans (carriesLinks_onLink (Link.carries_owe _ it))

theorem carriesLinks_sendUnassigned (l : LinkId) (a : Nat) (rest : List Nat) (s : State) :
    CarriesLinks s (sendUnassigned l a rest s) := by
  have hsent : CarriesLinks s (s.putLink l { s.link l with unassignedDue := rest }) :=
    carriesLinks_putLink (.of_eq rfl rfl rfl rfl)
  refine hsent.trans ?_
  unfold sendUnassigned
  dsimp only
  split
  · exact carriesLinks_beginFrame rfl l _ _ _ _
  · exact .refl _

/-- The next frame is none that reads or addresses a unit not yet entered (R130). -/
theorem carriesLinks_nextFrame (l : LinkId) (s : State) : CarriesLinks s (nextFrame l s) := by
  unfold nextFrame
  dsimp only
  split
  · exact .refl s
  · split
    · exact carriesLinks_sendUnassigned l _ _ s
    · split
      · exact carriesLinks_beginFrame rfl l _ _ _ s
      · split
        · exact carriesLinks_beginFrame rfl l _ _ _ s
        · split
          · exact carriesLinks_beginFrame rfl l _ _ _ s
          · split
            · exact (carriesLinks_updateUnit (fun _ => by rfl) l _ s).trans (carriesLinks_beginFrame rfl l _ _ _ _)
            · exact carriesLinks_sendHeads l _ s

/-! ## Timers of units, and REFRESH -/

theorem carriesLinks_expireProbe (l : LinkId) (u : UnitEntry) (s : State) : CarriesLinks s (expireProbe l u s) := by
  refine (carriesLinks_advanceTo u.probeDeadline s).trans ?_
  refine CarriesLinks.trans ?_ (carriesLinks_updateUnit (fun _ => by rfl) l _ _)
  split
  · exact carriesLinks_offerItem l _ _
  · exact .refl _

theorem carriesLinks_expireBackoff (l : LinkId) (a : Nat) (t : Time) (s : State) :
    CarriesLinks s (expireBackoff l a t s) :=
  (carriesLinks_advanceTo t s).trans (carriesLinks_updateUnit (fun _ => by rfl) l a _)

theorem carriesLinks_expireHold (l : LinkId) (a : Nat) (t : Time) (s : State) :
    CarriesLinks s (expireHold l a t s) := by
  have hended : CarriesLinks s (updateUnit l a (fun u => { u with hold := none }) (advanceTo t s)) :=
    (carriesLinks_advanceTo t s).trans (carriesLinks_updateUnit (fun _ => by rfl) l a _)
  unfold expireHold
  dsimp only
  split
  · exact hended.trans (carriesLinks_onLink (Link.carries_foldl (Link.carries_payOwed _ a) _ _))
  · exact hended

theorem carriesLinks_refreshLink (l : LinkId) (s : State) : CarriesLinks s (refreshLink l s) := by
  refine CarriesLinks.trans ?_ (carriesLinks_sweepLink l _)
  exact carriesLinks_onLink (.of_eq (map_address refresh_address _) rfl rfl rfl)

theorem carriesLinks_clearLink (l : LinkId) (v : Word) (s : State) : CarriesLinks s (clearLink l v s) :=
  .of_link (l := l) (by simpa [clearLink] using .of_eq rfl rfl rfl rfl) (by simp +contextual)

end Sys2Proof.Machine
end

section
/-! PROOFS. The steps of an enumeration keep the links sound. -/

namespace Sys2Proof.Machine

/-! ## Sound links -/

/-- Every link controller is sound. -/
def LinksSound (s : State) : Prop := ∀ l, LinkSound l (s.link l)

/-- What leads from one state to another keeps the links sound. -/
def KeepsLinks (s t : State) : Prop := LinksSound s → LinksSound t

theorem KeepsLinks.trans {s t u : State} (h : KeepsLinks s t) (k : KeepsLinks t u) : KeepsLinks s u := fun hs => k (h hs)

theorem KeepsLinks.refl (s : State) : KeepsLinks s s := id

theorem CarriesLinks.keeps {s t : State} (h : CarriesLinks s t) : KeepsLinks s t := fun hs l => (hs l).carried (h l)

theorem KeepsLinks.of_links {s t : State} (h : ∀ l, t.link l = s.link l) : KeepsLinks s t := (CarriesLinks.of_links h).keeps

theorem keepsLinks_foldl {α : Type} {f : State → α → State} (h : ∀ s x, KeepsLinks s (f s x)) (xs : List α)
    (s : State) : KeepsLinks s (xs.foldl f s) :=
  List.foldlRecOn (motive := KeepsLinks s) xs f (.refl s) fun _ hu x _ => hu.trans (h _ x)

/-- One link replaced by a sound one. -/
theorem LinksSound.of_link {l : LinkId} {s t : State} (h : LinksSound s) (hl : LinkSound l (t.link l))
    (hm : ∀ m, m ≠ l → t.link m = s.link m) : LinksSound t := by
  intro m
  by_cases he : m = l
  · exact he ▸ hl
  · exact hm m he ▸ h m

theorem linksSound_reset : LinksSound State.reset := fun l => link_reset l ▸ linkSound_reset l

/-- The unit read or addressed while a step of an enumeration is in flight has room in the table (R102). -/
theorem LinkSound.room_of_enters {l : LinkId} {k : Link} (h : LinkSound l k) {t : Transaction}
    (ht : k.transaction = some t) (hp : t.purpose.enters = true) : k.units.length < l.capacity :=
  h.room (by simp [entering_eq, ht, hp])

/-! ## Starting and stopping -/

/-- A link at its reset values, but for its state, its overflow latch and a frame that enters no unit. -/
theorem linkSound_fresh {l : LinkId} {k : Link} (hu : k.units = []) (hn : k.nextAddress = 1) (hq : k.queue = []) :
    LinkSound l k where
  addresses := by simp [hu]
  next := by simp [hu, hn]
  capacity := by simp [hu]
  room _ := by cases l <;> simp [hu, LinkId.capacity]
  depth := by simp [hq]
  single := by simp [hq]

/-- A started enumeration as the link shows it: OPEN_CHAIN in flight, and nothing kept but the overflow latch (R99,
log 27). -/
theorem startEnumeration_link (l : LinkId) (s : State) : (startEnumeration l s).link l = { Link.reset with
    state := .enumerating, overflow := (s.link l).overflow
    transaction := some ⟨.openChain, 127, [0xFE00#16], s.items.replyWindow, s.timebase⟩ } := by
  have hframe : frameOf 127 .openChain [] = [0xFE00#16] := by decide
  simp [startEnumeration, hframe]

theorem keepsLinks_startEnumeration (l : LinkId) (s : State) : KeepsLinks s (startEnumeration l s) := by
  refine fun h => h.of_link (l := l) ?_ fun m hm => startEnumeration_other l s m hm
  rw [startEnumeration_link]
  exact linkSound_fresh rfl rfl rfl

theorem disableLink_link (l : LinkId) (s : State) : (disableLink l s).link l = .reset := by simp [disableLink]

theorem keepsLinks_disableLink (l : LinkId) (s : State) : KeepsLinks s (disableLink l s) := by
  refine fun h => h.of_link (l := l) ?_ fun m hm => disableLink_other l s m hm
  rw [disableLink_link]
  exact linkSound_reset l

theorem keepsLinks_switchLink (before after : Bool) (l : LinkId) (s : State) :
    KeepsLinks s (switchLink before after l s) := by
  unfold switchLink
  split
  · split
    · exact keepsLinks_startEnumeration l s
    · exact .refl s
  · split
    · exact keepsLinks_disableLink l s
    · exact .refl s

theorem keepsLinks_reenumerateLink (l : LinkId) (s : State) : KeepsLinks s (reenumerateLink l s) := by
  unfold reenumerateLink
  dsimp only
  split
  · exact ((carriesLinks_flags (by simp) s).trans (carriesLinks_flags (by simp) _)).keeps
  · exact (carriesLinks_flags (by simp) s).keeps.trans (keepsLinks_startEnumeration l _)

/-! ## Frames of an enumeration -/

/-- A frame to a unit not yet entered needs room for it in the table. -/
theorem linksSound_beginFrame {l : LinkId} {s : State} (h : LinksSound s)
    (hroom : (s.link l).units.length < l.capacity) (p : Purpose) (a : Nat) (kind : FrameKind) (payload : List Half) :
    LinksSound (beginFrame l p a kind payload s) := by
  refine h.of_link (l := l) ?_ fun m hm => beginFrame_other l p a kind payload s m hm
  rw [beginFrame_self]
  obtain ⟨haddresses, hnext, hcapacity, -, hdepth, hsingle⟩ := h l
  exact ⟨haddresses, hnext, hcapacity, fun _ => hroom, hdepth, hsingle⟩

theorem carriesLinks_sendBasePage (l : LinkId) (n : Nat) (s : State) : CarriesLinks s (sendBasePage l n s) :=
  carriesLinks_beginFrame rfl l _ _ _ s

theorem linksSound_sendExtendedPage {l : LinkId} {s : State} (h : LinksSound s)
    (hroom : (s.link l).units.length < l.capacity) (number n : Nat) (p : Page) :
    LinksSound (sendExtendedPage l number n p s) := linksSound_beginFrame h hroom _ _ _ _

theorem linksSound_sendSetAddress {l : LinkId} {s : State} (h : LinksSound s)
    (hroom : (s.link l).units.length < l.capacity) (n : Nat) (p : Page) : LinksSound (sendSetAddress l n p s) :=
  linksSound_beginFrame h hroom _ _ _ _

theorem linksSound_sendCheckProbe {l : LinkId} {s : State} (h : LinksSound s)
    (hroom : (s.link l).units.length < l.capacity) (n : Nat) (p : Page) : LinksSound (sendCheckProbe l n p s) :=
  linksSound_beginFrame h hroom _ _ _ _

/-! ## Units entered -/

theorem enterUnit_link (l : LinkId) (p : Page) (s : State) : (enterUnit l p s).link l = { s.link l with
    units := (s.link l).units ++ [newEntry s l (s.link l).nextAddress p]
    nextAddress := (s.link l).nextAddress + 1 } := by
  unfold enterUnit
  dsimp only
  split
  · split <;> simp
  · simp
  · simp

theorem linksSound_enterUnit {l : LinkId} {s : State} (h : LinksSound s) (hroom : (s.link l).units.length < l.capacity)
    (hidle : (s.link l).transaction = none) (p : Page) : LinksSound (enterUnit l p s) := by
  refine h.of_link (l := l) ?_ fun m hm => enterUnit_other l p s m hm
  rw [enterUnit_link]
  obtain ⟨haddresses, hnext, -, -, hdepth, hsingle⟩ := h l
  refine ⟨?_, by simpa using hnext, by simpa using hroom, fun he => ?_, hdepth, hsingle⟩
  · simp only [List.map_append, haddresses, List.map_cons, List.map_nil, newEntry, hnext, List.length_append,
      List.length_cons, List.length_nil, List.range'_1_concat, Nat.add_comm 1]
  · simp [entering_eq, hidle] at he

theorem linksSound_addressTaken {l : LinkId} {s : State} (h : LinksSound s)
    (hroom : (s.link l).units.length < l.capacity) (hidle : (s.link l).transaction = none) (p : Page) :
    LinksSound (addressTaken l p s) := (carriesLinks_sendBasePage l 1 _).keeps (linksSound_enterUnit h hroom hidle p)

/-! ## Endings -/

theorem carriesLinks_endEnumeration (l : LinkId) (e : Ending) (s : State) :
    CarriesLinks s (endEnumeration l e s) := by
  refine CarriesLinks.trans ?_ (carriesLinks_judgeQuiet l _)
  refine CarriesLinks.trans ?_ (carriesLinks_sweepLink l _)
  exact (carriesLinks_onLink (Link.carries_enumerated _ e)).trans (carriesLinks_raise _ _)

theorem carriesLinks_breakEnumeration (l : LinkId) (step : Option Nat) (s : State) :
    CarriesLinks s (breakEnumeration l step s) :=
  (carriesLinks_raise _ s).trans (carriesLinks_endEnumeration l .broken _)

theorem keepsLinks_takeBasePage (l : LinkId) (p : Page) (s : State) : KeepsLinks s (takeBasePage l p s) := by
  intro h
  unfold takeBasePage
  split
  · exact (carriesLinks_endEnumeration l .overlength s).keeps h
  · rename_i hroom
    split
    · exact linksSound_sendSetAddress h (Nat.lt_of_not_le hroom) 1 p
    · exact linksSound_sendExtendedPage h (Nat.lt_of_not_le hroom) 1 1 p

theorem linksSound_takeExtendedPage {l : LinkId} {s : State} (h : LinksSound s)
    (hroom : (s.link l).units.length < l.capacity) (number : Nat) (p : Page) (w1 : Half) :
    LinksSound (takeExtendedPage l number p w1 s) := by
  unfold takeExtendedPage
  dsimp only
  split
  · exact linksSound_sendExtendedPage h hroom _ _ _
  · exact linksSound_sendSetAddress h hroom _ _

/-- A missed step is sent again, followed by the check probe, or ends the enumeration (R99, R100). -/
theorem linksSound_missStep {l : LinkId} {s : State} (h : LinksSound s) {p : Purpose}
    (hroom : p.enters = true → (s.link l).units.length < l.capacity) : LinksSound (missStep l p s) := by
  cases p
  case basePage n =>
    simp only [missStep]
    split
    · exact (carriesLinks_sendBasePage l _ s).keeps h
    · exact (carriesLinks_endEnumeration l .chainEnd s).keeps h
  case extendedPage number n page =>
    simp only [missStep]
    split
    · exact linksSound_sendExtendedPage h (hroom rfl) _ _ _
    · exact (carriesLinks_breakEnumeration l _ s).keeps h
  case setAddress n page => exact linksSound_sendCheckProbe h (hroom rfl) _ _
  case checkProbe n page =>
    simp only [missStep]
    split
    · exact linksSound_sendSetAddress h (hroom rfl) _ _
    · exact (carriesLinks_breakEnumeration l none s).keeps h
  all_goals exact h

/-! ## Transactions ended -/

/-- The handler of an ended transaction finds none in flight, and the table as it was (R93, R105). -/
theorem linksSound_ended {l : LinkId} {f : State → State} {s : State} (h : LinksSound s)
    (hf : ∀ u, LinksSound u → (u.link l).transaction = none → (u.link l).units = (s.link l).units → LinksSound (f u)) :
    LinksSound (ended l f s) := by
  have hcleared := (carriesLinks_clearTransaction l s).keeps h
  unfold ended
  dsimp only
  split
  · exact keepsLinks_startEnumeration l _ hcleared
  · exact hf _ hcleared (by simp) (by simp)

/-- A transaction ended whose handler keeps every link sound. -/
theorem keepsLinks_ended {f : State → State} (hf : ∀ s, KeepsLinks s (f s)) (l : LinkId) (s : State) :
    KeepsLinks s (ended l f s) := fun h => linksSound_ended h fun u hu _ _ => hf u hu

/-- What happens to the transaction in flight (log 3). -/
theorem keepsLinks_onTransaction {l : LinkId} {f : Transaction → State → State} {s : State}
    (h : ∀ t, (s.link l).transaction = some t → KeepsLinks s (f t s)) : KeepsLinks s (onTransaction l f s) := by
  unfold onTransaction
  split
  · rename_i t ht
    exact h t ht
  · exact .refl s

/-- What a miss leaves of the table, and of the room a step of an enumeration needs. -/
theorem countMiss_units (l : LinkId) (s : State) : ((countMiss l s).link l).units = (s.link l).units := by
  unfold countMiss
  dsimp only
  split <;> simp

theorem keepsLinks_missTransaction {l : LinkId} {t : Transaction} {s : State} (ht : (s.link l).transaction = some t) :
    KeepsLinks s (missTransaction l t s) := by
  intro h
  refine linksSound_ended ((carriesLinks_countMiss l s).keeps h) fun u hu _ hunits => ?_
  have hroom (hp : t.purpose.enters = true) : (u.link l).units.length < l.capacity := by
    rw [hunits, countMiss_units]
    exact (h l).room_of_enters ht hp
  split
  · exact (carriesLinks_missItem l _ u).keeps hu
  · exact hu
  · exact ((carriesLinks_wakeMissed l _ u).trans (carriesLinks_afterWake l _)).keeps hu
  · exact (carriesLinks_missBackoff l _ u).keeps hu
  · exact linksSound_missStep hu hroom

/-- An address step that has succeeded, counted as a miss or not, enters a unit for which there is room (R99). -/
theorem keepsLinks_addressTaken {l : LinkId} {t : Transaction} {s u : State} (ht : (s.link l).transaction = some t)
    (hp : t.purpose.enters = true) (hu : CarriesLinks s u) (p : Page) :
    KeepsLinks s (ended l (addressTaken l p) u) := by
  refine fun h => linksSound_ended (hu.keeps h) fun v hv hidle hunits => linksSound_addressTaken hv ?_ hidle p
  rw [hunits, Link.length_of_carries (hu l)]
  exact (h l).room_of_enters ht hp

theorem keepsLinks_takeMalformed {l : LinkId} {t : Transaction} {s : State} (ht : (s.link l).transaction = some t)
    (r : Reply) : KeepsLinks s (takeMalformed l t r s) := by
  unfold takeMalformed
  split
  · exact .refl s
  · split
    · rename_i hpurpose
      split
      · exact keepsLinks_addressTaken ht (by rw [hpurpose]; rfl) (carriesLinks_countMiss l s) _
      · exact keepsLinks_missTransaction ht
    · exact keepsLinks_missTransaction ht

end Sys2Proof.Machine
end

section
/-! PROOFS. Every step keeps the links sound (O9). -/

namespace Sys2Proof.Machine

/-! ## Events -/

/-- An event of a link or a timer, once a free port has chosen its next own access (log 46). -/
theorem keepsLinks_onEvent {f : State → State} (h : ∀ s, KeepsLinks s (f s)) (s : State) : KeepsLinks s (onEvent f s) := by
  unfold onEvent
  split
  · exact .refl s
  · exact KeepsLinks.trans (.of_links (by simp)) (h s.ready)

theorem keepsLinks_transactionEvent {l : LinkId} {f : Transaction → State → State}
    (h : ∀ t s, (s.link l).transaction = some t → KeepsLinks s (f t s)) (s : State) :
    KeepsLinks s (onEvent (onTransaction l f) s) :=
  keepsLinks_onEvent (fun s => keepsLinks_onTransaction fun t ht => h t s ht) s

/-- A transaction ended whose handler carries every link over. -/
theorem keepsLinks_endedCarried {f : State → State} (h : ∀ s, CarriesLinks s (f s)) (l : LinkId) (s : State) :
    KeepsLinks s (ended l f s) := keepsLinks_ended (fun s => (h s).keeps) l s

theorem keepsLinks_unitEvent {f : UnitEntry → State → State} (h : ∀ u s, CarriesLinks s (f u s)) (l : LinkId) (a : Nat)
    (s : State) : KeepsLinks s (onEvent (onUnit l a f) s) := by
  refine keepsLinks_onEvent (fun s => ?_) s
  unfold onUnit
  split
  · exact (h _ s).keeps
  · exact .refl s

/-- The events of the blocks: the timers, the next frame, and the ways a transaction ends. -/
theorem keepsLinks_event {c : Instr} {s t : State} (h : blockEvent c = true) (he : exec c s = .next t) :
    KeepsLinks s t := by
  cases c
  case freshnessExpiry => cases he; exact keepsLinks_onEvent (fun s => (carriesLinks_expireFreshness s).keeps) s
  case coastStep => cases he; exact keepsLinks_onEvent (fun s => (carriesLinks_fireCoastStep s).keeps) s
  case releaseExpiry =>
    cases he
    refine keepsLinks_onEvent (fun s => ?_) s
    split
    · exact ((carriesLinks_advanceTo _ s).trans (carriesLinks_expireRelease _ _)).keeps
    · exact .refl s
  case probeDeadlineExpiry l a => cases he; exact keepsLinks_unitEvent (carriesLinks_expireProbe l) l a s
  case backoffExpiry l a =>
    cases he
    refine keepsLinks_unitEvent (fun u s => ?_) l a s
    split; exacts [carriesLinks_expireBackoff l a _ s, .refl s]
  case ePaperHoldExpiry l a =>
    cases he
    refine keepsLinks_unitEvent (fun u s => ?_) l a s
    split; exacts [carriesLinks_expireHold l a _ s, .refl s]
  case quietDelayExpiry l =>
    cases he
    refine keepsLinks_onEvent (fun s => ?_) s
    split; exacts [(carriesLinks_expireQuiet l _ s).keeps, .refl s]
  case wakeExpiry l =>
    cases he
    refine keepsLinks_onEvent (fun s => ?_) s
    split
    · split; exacts [(carriesLinks_expireWake l _ s).keeps, .refl s]
    · exact .refl s
  case nextFrameSelect l => cases he; exact keepsLinks_onEvent (fun s => (carriesLinks_nextFrame l s).keeps) s
  case openChainSent l =>
    cases he
    refine keepsLinks_transactionEvent (fun t s ht => ?_) s
    split; exacts [keepsLinks_endedCarried (carriesLinks_sendBasePage l 1) l s, .refl s]
  case setLevelSent l =>
    cases he
    refine keepsLinks_transactionEvent (fun t s ht => ?_) s
    split; exacts [keepsLinks_endedCarried (carriesLinks_flags (by simp)) l s, .refl s]
  case restSent l =>
    cases he
    refine keepsLinks_transactionEvent (fun t s ht => ?_) s
    split; exacts [keepsLinks_endedCarried (carriesLinks_rested l) l s, .refl s]
  case rouseSent l =>
    cases he
    refine keepsLinks_transactionEvent (fun t s ht => ?_) s
    split; exacts [keepsLinks_endedCarried (carriesLinks_roused l) l s, .refl s]
  case pageReply l _ _ _ _ =>
    cases he
    refine keepsLinks_transactionEvent (fun t s ht => ?_) s
    split
    · exact keepsLinks_ended (keepsLinks_takeBasePage l _) l s
    · rename_i hpurpose
      refine fun h => linksSound_ended h fun u hu _ hunits => linksSound_takeExtendedPage hu ?_ _ _ _
      rw [hunits]
      exact (h l).room_of_enters ht (by rw [hpurpose]; rfl)
    · exact .refl s
  case setAddressOk l =>
    cases he
    refine keepsLinks_transactionEvent (fun t s ht => ?_) s
    split
    · rename_i hpurpose
      exact keepsLinks_addressTaken ht (by rw [hpurpose]; rfl) (.refl s) _
    · exact .refl s
  case checkProbeReply l code =>
    cases he
    refine keepsLinks_transactionEvent (fun t s ht => ?_) s
    split
    · rename_i hpurpose
      have hp : t.purpose.enters = true := by rw [hpurpose]; rfl
      split
      · exact keepsLinks_missTransaction ht
      · split
        · exact keepsLinks_addressTaken ht hp (carriesLinks_countMiss l s) _
        · exact keepsLinks_addressTaken ht hp (.refl s) _
    · exact .refl s
  case showOk l =>
    cases he
    refine keepsLinks_transactionEvent (fun t s ht => ?_) s
    split; exacts [keepsLinks_endedCarried (carriesLinks_showOk l _ _) l s, .refl s]
  case showBusy l =>
    cases he
    refine keepsLinks_transactionEvent (fun t s ht => ?_) s
    split; exacts [keepsLinks_endedCarried (carriesLinks_showBusy l _) l s, .refl s]
  case probeReply l busy =>
    cases he
    refine keepsLinks_transactionEvent (fun t s ht => ?_) s
    split; exacts [keepsLinks_endedCarried (carriesLinks_probeReply l _ busy) l s, .refl s]
  case backoffProbeReply l _ =>
    cases he
    refine keepsLinks_transactionEvent (fun t s ht => ?_) s
    split; exacts [keepsLinks_endedCarried (carriesLinks_recoverUnit l _) l s, .refl s]
  case wakeProbeReply l busy began =>
    cases he
    refine keepsLinks_transactionEvent (fun t s ht => ?_) s
    split
    · refine keepsLinks_endedCarried (fun s => ?_) l s
      exact (carriesLinks_wakeAnswered l _ _ busy s).trans (carriesLinks_afterWake l _)
    · exact .refl s
  case unassignedShowEnd l ending =>
    cases he
    refine keepsLinks_transactionEvent (fun t s ht => ?_) s
    split
    · cases ending
      · exact keepsLinks_ended .refl l s
      · exact keepsLinks_ended .refl l s
      · exact keepsLinks_missTransaction ht
    · exact .refl s
  case malformedReply l r =>
    cases he
    exact keepsLinks_transactionEvent (fun t s ht => keepsLinks_takeMalformed ht r) s
  case replyWindowExpiry l =>
    cases he
    refine keepsLinks_transactionEvent (fun t s ht => ?_) s
    split; exacts [keepsLinks_missTransaction ht, .refl s]
  all_goals cases h

/-! ## Words of the coach computer -/

/-- Every block at its reset values (R164, R166). -/
theorem keepsLinks_of_reset {t : State} (h : ∀ l, t.link l = State.reset.link l) (s : State) : KeepsLinks s t :=
  fun _ l => h l ▸ linksSound_reset l

theorem keepsLinks_softReset (s : State) : KeepsLinks s (softReset s) :=
  keepsLinks_of_reset (fun l => by cases l <;> rfl) s

/-- The configuration copy replaced. -/
@[simp] theorem link_withItems (i : Items) (s : State) (l : LinkId) : { s with items := i }.link l = s.link l := by
  cases l <;> rfl

@[simp] theorem holdItems_link (w : Fin 32) (v : Word) (s : State) (l : LinkId) :
    (holdItems w v s).link l = s.link l := link_withItems _ s l

theorem keepsLinks_takeConfig (w : Fin 32) (v : Word) (s : State) : KeepsLinks s (takeConfig w v s) := by
  have hheld : KeepsLinks s (holdItems w v s) := .of_links (holdItems_link w v s)
  unfold takeConfig
  split
  · exact (carriesLinks_bump .configParity s).keeps
  · dsimp only
    split
    · unfold takeSoftReset
      split
      · exact keepsLinks_softReset s
      · split
        · exact .of_links fun l => by cases l <;> rfl
        · exact .refl s
    · exact hheld.trans (keepsLinks_foldl (fun s l => keepsLinks_switchLink _ _ l s) _ _)
    · exact hheld.trans (keepsLinks_foldl (fun s l => (carriesLinks_judgeQuiet l s).keeps) _ _)
    · exact hheld.trans (carriesLinks_readCap _).keeps
    · exact hheld

theorem keepsLinks_judgeLinkRequest (kind : RequestKind) {act : LinkId → State → State}
    (h : ∀ l s, KeepsLinks s (act l s)) (v : Word) (s : State) : KeepsLinks s (judgeLinkRequest kind act v s) := by
  have hanswer (code : ResultCode) := (carriesLinks_answer (tagOf v) kind code none s).keeps
  unfold judgeLinkRequest
  split
  · exact hanswer _
  · split
    · exact hanswer _
    · exact (hanswer _).trans (h _ _)

/-- The requests on the route engine leave the links alone until a read completes (R10, R16, R17). -/
theorem judgeRouteRequests_link (v : Word) (s : State) (l : LinkId) : (judgeActivate v s).link l = s.link l ∧
    (judgePreview v s).link l = s.link l ∧ (judgeCancel v s).link l = s.link l := by
  refine ⟨?_, ?_, ?_⟩
  · unfold judgeActivate
    split
    · split
      · simp
      · split
        · simp
        · exact (link_withRequest _ _ l).trans (by simp)
    · simp
  · unfold judgePreview
    split
    · split
      · simp
      · exact (link_withRequest _ _ l).trans (by simp)
    · simp
  · unfold judgeCancel
    split <;> simp

theorem keepsLinks_issueRequest (kind : RequestKind) (v : Word) (s : State) : KeepsLinks s (issueRequest kind v s) := by
  unfold issueRequest
  split
  · exact (carriesLinks_answer _ _ _ _ s).keeps
  · cases kind with
    | activateRoute => exact .of_links fun l => (judgeRouteRequests_link v s l).1
    | previewRoute => exact .of_links fun l => (judgeRouteRequests_link v s l).2.1
    | cancelRoute => exact .of_links fun l => (judgeRouteRequests_link v s l).2.2
    | seatConfirm => exact (carriesLinks_confirmSeat _ _ s).keeps
    | clearSeats => exact ((carriesLinks_clearSeats s).trans (carriesLinks_answer _ _ _ _ _)).keeps
    | reenumerate => exact keepsLinks_judgeLinkRequest _ keepsLinks_reenumerateLink v s
    | refresh => exact keepsLinks_judgeLinkRequest _ (fun l s => (carriesLinks_refreshLink l s).keeps) v s

/-- The filter or the route engine replaced. -/
@[simp] theorem link_withFilter (f : Filter) (s : State) (l : LinkId) : { s with filter := f }.link l = s.link l := by
  cases l <;> rfl

@[simp] theorem link_withRoute (r : Route) (s : State) (l : LinkId) : { s with route := r }.link l = s.link l := by
  cases l <;> rfl

@[simp] theorem link_withNotices (n : NoticeWriter) (s : State) (l : LinkId) :
    { s with notices := n }.link l = s.link l := by cases l <;> rfl

theorem carriesLinks_commitConsist (v : Word) (s : State) : CarriesLinks s (commitConsist v s) := by
  unfold commitConsist
  split
  · split
    · exact (carriesLinks_takeConsist _ s).trans (carriesLinks_foldl carriesLinks_handService _ _)
    · exact carriesLinks_bump .mailboxBad s
  · exact carriesLinks_bump .mailboxBad s

theorem keepsLinks_handCaptured (w : CapturedWord) (v : Word) (s : State) : KeepsLinks s (handCaptured w v s) := by
  cases w with
  | config w => exact keepsLinks_takeConfig w v s
  | request w => exact keepsLinks_issueRequest _ v s
  | mailbox w =>
    unfold handCaptured commitReport
    dsimp only
    split
    · exact .of_links (link_withFilter _ s)
    · split
      · exact (carriesLinks_takeReport _ s).keeps
      · exact (carriesLinks_bump .mailboxBad s).keeps
  | consist w =>
    unfold handCaptured
    dsimp only
    split
    · exact .of_links (link_withRoute _ s)
    · exact (carriesLinks_commitConsist v s).keeps
  | commit slot =>
    unfold handCaptured commitJournal
    dsimp only
    split
    · exact (carriesLinks_takeCommit _ s).keeps
    · exact .refl s
  | consumer =>
    unfold handCaptured takeConsumer
    dsimp only
    split
    · exact .of_links (link_withNotices _ s)
    · exact (carriesLinks_bump .consumerError s).keeps

theorem keepsLinks_capture (w : CapturedWord) (v : Word) (s : State) : KeepsLinks s (capture w v s) := by
  unfold capture
  split
  · exact keepsLinks_handCaptured w v s
  · exact .refl s

/-! ## Cycles of the port -/

theorem keepsLinks_completeImage (s : State) : KeepsLinks s (completeImage s) := by
  unfold completeImage
  split
  · exact (carriesLinks_completeActivation _ s).keeps
  · split
    · exact .of_links (by simp)
    · exact .refl s

theorem writeEntry_link (s : State) (l : LinkId) : (writeEntry s).link l = s.link l := by
  unfold writeEntry
  split
  · exact foldl_keeps (State.link · l) _ (by simp) _ s
  · rfl

theorem keepsLinks_performCycle (a : OwnAccess) (s : State) : KeepsLinks s (performCycle a s) := by
  have hprogress (p : Option OwnAccess) : KeepsLinks s (setProgress p s) := .of_links (by simp)
  cases a with
  | producerReset => exact .of_links fun l => by cases l <;> rfl
  | noticeEntry => exact .of_links (by simp [performCycle, writeEntry_link])
  | noticeProducer => exact .of_links (by simp [performCycle])
  | producerOnly => exact .of_links fun l => by cases l <;> rfl
  | fetch => exact (hprogress none).trans (carriesLinks_completeFetch _).keeps
  | image n =>
    unfold performCycle
    dsimp only
    split
    · exact hprogress none
    · split
      · exact (hprogress none).trans (keepsLinks_completeImage _)
      · exact hprogress _
  | status w => exact .of_links (by simp [performCycle])
  | config n => exact (hprogress _).trans (keepsLinks_foldl (fun u w => keepsLinks_takeConfig w _ u) _ _)

/-! ## Every step -/

/-- Every part of a step keeps the links sound. -/
theorem keptByParts_linksSound : KeptByParts LinksSound where
  queue _ _ := KeepsLinks.of_links fun l => by cases l <;> rfl
  cutOff l s := (carriesLinks_clearTransaction l s).keeps
  bus _ _ := KeepsLinks.of_links fun l => by cases l <;> rfl
  release straps s := keepsLinks_of_reset (fun l => by cases l <;> rfl) s
  clock t s := KeepsLinks.of_links (by simp)
  choice s := KeepsLinks.of_links (by simp)
  burst b s := KeepsLinks.of_links (by simp)
  starvation s := KeepsLinks.of_links (by unfold countStarvation; split <;> simp)
  cycle a s := KeepsLinks.trans (.of_links (by simp)) (keepsLinks_performCycle a (setStarvation 0 s))
  image s := KeepsLinks.trans (.of_links (by simp)) (keepsLinks_completeImage (setProgress none (setStarvation 0 s)))
  blocked s := (carriesLinks_bump .guardBlocked s).keeps
  word a v s := KeepsLinks.of_links (by simp)
  captured w v s := keepsLinks_capture w v s
  partly s := (carriesLinks_bump .tapPartial s).keeps
  view w s := KeepsLinks.of_links (by simp)
  producer s := KeepsLinks.of_links (by simp)
  clearedCounter c v s := KeepsLinks.of_links (by simp)
  clearedLink l v s := (carriesLinks_clearLink l v s).keeps
  event _ _ _ hc hs _ _ he := keepsLinks_event hc he hs

/-- Settles O9: every part of a step keeps the links sound, and so does the step. -/
theorem stepKeepsTheLinksSound : Obligations.StepKeepsTheLinksSound :=
  fun _ _ h he => keptByParts_linksSound.step h he

end Sys2Proof.Machine
end

section
/-! PROOFS. What starting and stopping a link changes: the link, its seats' bindings, and the marks of its unit views
(R97 to R99). -/

namespace Sys2Proof.Machine

/-! ## Bindings -/

/-- A seat entry without a binding to a unit of one of the links. -/
def SeatEntry.loosed (p : LinkId → Bool) (e : SeatEntry) : SeatEntry :=
  if e.bound.any fun b => p b.link then { e with bound := none } else e

theorem SeatEntry.loosed_bound {p : LinkId → Bool} {e : SeatEntry} {b : Binding} (h : e.bound = some b)
    (hp : p b.link = true) : e.loosed p = { e with bound := none } := by simp [loosed, h, hp]

theorem SeatEntry.loosed_kept {p : LinkId → Bool} {e : SeatEntry} (h : ∀ b, e.bound = some b → p b.link = false) :
    e.loosed p = e := if_neg (by cases hb : e.bound <;> simp_all)

/-- Bindings removed for some links and then for others are removed for all of them. -/
theorem SeatEntry.loosed_loosed (p q : LinkId → Bool) (e : SeatEntry) :
    (e.loosed p).loosed q = e.loosed fun l => p l || q l := by
  rcases hb : e.bound with _ | b
  · simp [loosed, hb]
  · cases hp : p b.link <;> simp [loosed, hb, hp]

theorem SeatEntry.loosed_none (e : SeatEntry) : (e.loosed fun _ => false) = e := loosed_kept fun _ _ => rfl

theorem unbind_res (l : LinkId) (s : State) :
    (unbind l s).res = { s.res with seats := s.res.seats.map (SeatEntry.loosed (· == l)) } := setSeats_res _ s

/-! ## Marks -/

theorem allUnitBits_unit (l : LinkId) (n : Fin 64) : (allUnitBits l).getLsbD (ViewWord.unit l n).index = true := by
  have hplace : (ViewWord.unit l n).index = (ViewWord.unit l 0).index + n.val := by cases l <;> simp [ViewWord.index]
  have hones : (0xFFFFFFFFFFFFFFFF : Nat) = 2 ^ 64 - 1 := by decide
  rw [allUnitBits, BitVec.getLsbD_ofNat, hones, Nat.testBit_shiftLeft, hplace, Nat.add_sub_cancel_left,
    Nat.testBit_two_pow_sub_one, ← hplace]
  have hlt := hplace ▸ index_lt (.unit l n)
  simp [hlt, hplace]

theorem isDirty_markMany {ws : BitVec 704} {w : ViewWord} (h : ws.getLsbD w.index = true) (s : State) :
    (markMany ws s).isDirty w = true := by simp [State.isDirty, h]

theorem dirtyRises_setLink (l : LinkId) (k : Link) (s : State) : DirtyRises s (setLink l k s) :=
  dirtyRises_onLink l (fun _ => k) s

theorem dirtyRises_beginFrame (l : LinkId) (p : Purpose) (a : Nat) (kind : FrameKind) (payload : List Half)
    (s : State) : DirtyRises s (beginFrame l p a kind payload s) := dirtyRises_of_dirty_eq (by simp)

/-- The bindings of a link gone, and every unit view word of it marked. -/
theorem dirtyRises_loosed (l : LinkId) (s : State) : DirtyRises s (markMany (allUnitBits l) (unbind l s)) :=
  dirtyRises_trans (dirtyRises_setSeats _ s) (dirtyRises_markMany _ _)

/-! ## An enumeration started -/

theorem startEnumeration_res (l : LinkId) (s : State) :
    (startEnumeration l s).res = { s.res with seats := s.res.seats.map (SeatEntry.loosed (· == l)) } := by
  simp [startEnumeration, unbind_res]

theorem changesOnly_startEnumeration (l : LinkId) (s : State) :
    ChangesOnly [.res, .link l, .dirty] s (startEnumeration l s) := by
  intro p hp; cases p <;> simp_all [Part.same]

theorem dirtyRises_started (l : LinkId) (s : State) :
    DirtyRises (markMany (allUnitBits l) (unbind l s)) (startEnumeration l s) :=
  dirtyRises_trans (dirtyRises_setLink l _ _) (dirtyRises_beginFrame l _ _ _ _ _)

theorem dirtyRises_startEnumeration (l : LinkId) (s : State) : DirtyRises s (startEnumeration l s) :=
  dirtyRises_trans (dirtyRises_loosed l s) (dirtyRises_started l s)

theorem isDirty_startEnumeration (l : LinkId) (n : Fin 64) (s : State) :
    (startEnumeration l s).isDirty (.unit l n) = true :=
  dirtyRises_started l s _ (isDirty_markMany (allUnitBits_unit l n) _)

/-! ## A link disabled -/

theorem disableLink_res (l : LinkId) (s : State) :
    (disableLink l s).res = { s.res with seats := s.res.seats.map (SeatEntry.loosed (· == l)) } := by
  simp [disableLink, unbind_res]

theorem changesOnly_disableLink (l : LinkId) (s : State) :
    ChangesOnly [.res, .link l, .dirty] s (disableLink l s) := by
  intro p hp; cases p <;> simp_all [Part.same]

theorem dirtyRises_disableLink (l : LinkId) (s : State) : DirtyRises s (disableLink l s) :=
  dirtyRises_trans (dirtyRises_loosed l s) (dirtyRises_setLink l _ _)

theorem isDirty_disableLink (l : LinkId) (n : Fin 64) (s : State) :
    (disableLink l s).isDirty (.unit l n) = true :=
  dirtyRises_setLink l _ _ _ (isDirty_markMany (allUnitBits_unit l n) _)

/-! ## LINK_ENABLE taken -/

/-- The setting of an OFF link goes from off to on (R97). -/
@[reducible] def Starts (before after : Bool) (k : Link) : Prop := before = false ∧ after = true ∧ k.state = .off

/-- The setting of a link goes from on to off (R98). -/
@[reducible] def Stops (before after : Bool) : Prop := before = true ∧ after = false

theorem switchLink_starts {before after : Bool} {l : LinkId} {s : State} (h : Starts before after (s.link l)) :
    switchLink before after l s = startEnumeration l s := by
  obtain ⟨rfl, rfl, hoff⟩ := h
  simp [switchLink, hoff]

theorem switchLink_stops {before after : Bool} (h : Stops before after) (l : LinkId) (s : State) :
    switchLink before after l s = disableLink l s := by
  obtain ⟨rfl, rfl⟩ := h
  rfl

theorem switchLink_neither {before after : Bool} {l : LinkId} {s : State} (h : ¬ Starts before after (s.link l))
    (k : ¬ Stops before after) : switchLink before after l s = s := by
  cases before <;> cases after <;> simp_all [switchLink]

/-- The setting starts or stops the link. -/
def switches (before after : Bool) (k : Link) : Bool := decide (Starts before after k ∨ Stops before after)

theorem changesOnly_switchLink (before after : Bool) (l : LinkId) (s : State) :
    ChangesOnly [.res, .link l, .dirty] s (switchLink before after l s) := by
  by_cases h : Starts before after (s.link l)
  · exact switchLink_starts h ▸ changesOnly_startEnumeration l s
  · by_cases k : Stops before after
    · exact switchLink_stops k l s ▸ changesOnly_disableLink l s
    · exact (switchLink_neither h k).symm ▸ changesOnly_refl _ s

theorem dirtyRises_switchLink (before after : Bool) (l : LinkId) (s : State) :
    DirtyRises s (switchLink before after l s) := by
  by_cases h : Starts before after (s.link l)
  · exact switchLink_starts h ▸ dirtyRises_startEnumeration l s
  · by_cases k : Stops before after
    · exact switchLink_stops k l s ▸ dirtyRises_disableLink l s
    · exact (switchLink_neither h k).symm ▸ dirtyRises_refl s

theorem isDirty_switchLink {before after : Bool} {l : LinkId} {s : State}
    (h : switches before after (s.link l) = true) (n : Fin 64) :
    (switchLink before after l s).isDirty (.unit l n) = true := by
  rcases of_decide_eq_true h with h | k
  · exact switchLink_starts h ▸ isDirty_startEnumeration l n s
  · exact switchLink_stops k l s ▸ isDirty_disableLink l n s

theorem switchLink_res (before after : Bool) (l : LinkId) (s : State) :
    (switchLink before after l s).res = { s.res with
      seats := s.res.seats.map (SeatEntry.loosed fun m => m == l && switches before after (s.link l)) } := by
  by_cases h : Starts before after (s.link l)
  · rw [switchLink_starts h, startEnumeration_res]
    simp [switches, h]
  · by_cases k : Stops before after
    · rw [switchLink_stops k, disableLink_res]
      simp [switches, k]
    · simp [switchLink_neither h k, switches, h, k, funext SeatEntry.loosed_none]

/-- The three settings taken, link by link. -/
def switchLinks (before after : LinkId → Bool) (s : State) : State :=
  allLinks.foldl (fun t l => switchLink (before l) (after l) l t) s

theorem switchLinks_eq (before after : LinkId → Bool) (s : State) :
    switchLinks before after s = switchLink (before .p) (after .p) .p
      (switchLink (before .b) (after .b) .b (switchLink (before .a) (after .a) .a s)) := rfl

/-- Each link comes out as its own switch leaves it. -/
theorem switchLinks_at (before after : LinkId → Bool) (s : State) (l : LinkId) :
    ∃ u, u.link l = s.link l ∧ u.items = s.items ∧ u.timebase = s.timebase ∧
      (switchLinks before after s).link l = (switchLink (before l) (after l) l u).link l ∧
      DirtyRises (switchLink (before l) (after l) l u) (switchLinks before after s) := by
  rw [switchLinks_eq]
  cases l with
  | a => exact ⟨s, rfl, rfl, rfl, by simp, dirtyRises_trans (dirtyRises_switchLink _ _ _ _) (dirtyRises_switchLink _ _ _ _)⟩
  | b => exact ⟨switchLink (before .a) (after .a) .a s, by simp, by simp, by simp, by simp, dirtyRises_switchLink _ _ _ _⟩
  | p => exact ⟨switchLink (before .b) (after .b) .b (switchLink (before .a) (after .a) .a s), by simp, by simp, by simp,
      rfl, dirtyRises_refl _⟩

theorem switchLinks_starts {before after : LinkId → Bool} {s : State} {l : LinkId}
    (h : Starts (before l) (after l) (s.link l)) : (switchLinks before after s).link l = { Link.reset with
      state := .enumerating, overflow := (s.link l).overflow
      transaction := some ⟨.openChain, 127, [0xFE00#16], s.items.replyWindow, s.timebase⟩ } := by
  obtain ⟨u, hlink, hitems, htime, hsame, -⟩ := switchLinks_at before after s l
  rw [hsame, switchLink_starts (hlink.symm ▸ h), startEnumeration_link, hlink, hitems, htime]

theorem switchLinks_stops {before after : LinkId → Bool} {l : LinkId} (h : Stops (before l) (after l)) (s : State) :
    (switchLinks before after s).link l = .reset := by
  obtain ⟨u, -, -, -, hsame, -⟩ := switchLinks_at before after s l
  rw [hsame, switchLink_stops h, disableLink_link]

theorem switchLinks_neither {before after : LinkId → Bool} {s : State} {l : LinkId}
    (h : ¬ Starts (before l) (after l) (s.link l)) (k : ¬ Stops (before l) (after l)) :
    (switchLinks before after s).link l = s.link l := by
  obtain ⟨u, hlink, -, -, hsame, -⟩ := switchLinks_at before after s l
  rw [hsame, switchLink_neither (hlink.symm ▸ h) k, hlink]

theorem isDirty_switchLinks {before after : LinkId → Bool} {s : State} {l : LinkId}
    (h : switches (before l) (after l) (s.link l) = true) (n : Fin 64) :
    (switchLinks before after s).isDirty (.unit l n) = true := by
  obtain ⟨u, hlink, -, -, -, hdirty⟩ := switchLinks_at before after s l
  exact hdirty _ (isDirty_switchLink (hlink.symm ▸ h) n)

theorem dirtyRises_switchLinks (before after : LinkId → Bool) (s : State) :
    DirtyRises s (switchLinks before after s) :=
  dirtyRises_foldl (fun t l => dirtyRises_switchLink _ _ l t) _ s

theorem changesOnly_switchLinks (before after : LinkId → Bool) (s : State) :
    ChangesOnly [.res, .link .a, .link .b, .link .p, .dirty] s (switchLinks before after s) :=
  changesOnly_trans (changesOnly_mono (by simp) (changesOnly_switchLink _ _ .a s))
    (changesOnly_trans (changesOnly_mono (by simp) (changesOnly_switchLink _ _ .b _))
      (changesOnly_mono (by simp) (changesOnly_switchLink _ _ .p _)))

theorem switchLinks_res (before after : LinkId → Bool) (s : State) :
    (switchLinks before after s).res = { s.res with
      seats := s.res.seats.map (SeatEntry.loosed fun l => switches (before l) (after l) (s.link l)) } := by
  have hone (l : LinkId) : (((l == .a && switches (before .a) (after .a) (s.link .a)) ||
      (l == .b && switches (before .b) (after .b) (s.link .b))) ||
      (l == .p && switches (before .p) (after .p) (s.link .p))) = switches (before l) (after l) (s.link l) := by
    cases l <;> simp [beq_eq_decide]
  simp [switchLinks_eq, switchLink_res, Function.comp_def, SeatEntry.loosed_loosed, hone]

end Sys2Proof.Machine
end

section
/-! PROOFS. Configuration words 1, 8 and 18 at the moment they are taken (R32, R97 to R99, R131). -/

namespace Sys2Proof.Machine

/-! ## Words taken -/

/-- A configuration word written is taken once it has passed (R161). -/
theorem exec_config {c : Instr} {b : Beat} {v : Word} {s : State} {n : Nat} (w : Fin 32) (hn : w.val = n)
    (h : busOpOf s c = some (b, .write (.captured (.config w)) fullWord v)) (r : s.bus.resetAsserted = false)
    (k : (s.passed b n v).items.softReset = false) : exec c s = .next (takeConfig w v (s.passed b n v)) := by
  have hoffset : capturedOffset (.config w) = n := hn
  rw [exec_access (by simp [h]), onBus_captured h r (by rwa [hoffset]), hoffset, handCaptured]

theorem takeConfig_even {v : Word} (h : evenParity v = true) (s : State) :
    takeConfig 1 v s = switchLinks s.items.linkEnable (holdItems 1 v s).items.linkEnable (holdItems 1 v s) ∧
    takeConfig 8 v s = allLinks.foldl (fun t l => judgeQuiet l t) (holdItems 8 v s) ∧
    takeConfig 18 v s = readCap (holdItems 18 v s) := by
  have hparity : ¬ ((!evenParity v) = true) := by simp [h]
  exact ⟨if_neg hparity, if_neg hparity, if_neg hparity⟩

theorem holdItems_quiet (v : Word) (s : State) : (holdItems 8 v s).items = { s.items with
    quietEnable := v.getLsbD 0, quietDelay := max 1 (min 120 (v.toNat / 256 % 256)) } := by
  simp [holdItems, takeItems, field_eq, clamp]

theorem holdItems_berth (v : Word) (s : State) : (holdItems 18 v s).items = { s.items with
    berthDistance := max 20 (min 1000 (v.toNat % 65536)) } := by
  simp [holdItems, takeItems, field_eq, clamp]

theorem changesOnly_holdItems (w : Fin 32) (v : Word) (s : State) : ChangesOnly [.items] s (holdItems w v s) := by
  intro p hp
  cases p with
  | items => simp at hp
  | link l => exact holdItems_link w v s l
  | _ => rfl

theorem dirtyRises_holdItems (w : Fin 32) (v : Word) (s : State) : DirtyRises s (holdItems w v s) :=
  dirtyRises_of_dirty_eq rfl

/-! ## Quiet delays -/

theorem judgeQuiet_self (l : LinkId) (s : State) : (judgeQuiet l s).link l =
    if (s.link l).state = .running ∧ s.route.consist.inService = false ∧ s.items.quietEnable = true ∧
        (s.link l).quietDelay = none then
      { s.link l with quietDelay := some (s.timebase + ms (s.items.quietDelay * 60000)) }
    else s.link l := by
  unfold judgeQuiet
  dsimp only
  split <;> simp_all

/-- A quiet delay judged on every link is judged on each by itself. -/
theorem judgeQuiets_link (s : State) (l : LinkId) :
    (allLinks.foldl (fun t m => judgeQuiet m t) s).link l = (judgeQuiet l s).link l := by
  have heq : allLinks.foldl (fun t m => judgeQuiet m t) s = judgeQuiet .p (judgeQuiet .b (judgeQuiet .a s)) := rfl
  rw [heq]
  cases l <;> simp [judgeQuiet_self]

theorem changesOnly_judgeQuiet (l : LinkId) (s : State) : ChangesOnly [.link l] s (judgeQuiet l s) := by
  intro p hp; cases p <;> simp_all [Part.same]

theorem changesOnly_judgeQuiets (s : State) : ChangesOnly [.link .a, .link .b, .link .p] s
    (allLinks.foldl (fun t m => judgeQuiet m t) s) :=
  changesOnly_trans (changesOnly_mono (by simp) (changesOnly_judgeQuiet .a s))
    (changesOnly_trans (changesOnly_mono (by simp) (changesOnly_judgeQuiet .b _))
      (changesOnly_mono (by simp) (changesOnly_judgeQuiet .p _)))

/-! ## The coast cap -/

/-- HOLDING entered from COASTING keeps the estimated flag, so that no panel is composed again (R30, R34). -/
theorem setMode_holding {c : Cause} {s : State} (h : s.filter.mode = .coasting c) :
    setMode (.holding c) s = raise (.coastStarted (.holding c))
      (setFilter { s.filter with mode := .holding c, coastStep := none } s) := by
  have hbefore : (Mode.coasting c != .tracking) = true := rfl
  have hafter : (Mode.holding c != .tracking) = true := rfl
  simp [setMode, h, coastTimer, Mode.coasts, modeNotice, Mode.holds, raiseSome, composePanelsIf, Filter.estimated,
    hbefore, hafter]

theorem isDirty_setFilter_mode {f : Filter} {s : State} (h : s.filter.mode ≠ f.mode) :
    (setFilter f s).isDirty (.status 2) = true := isDirty_markStatusIf (by simp [h]) 2 _

theorem changesOnly_setFilter (f : Filter) (s : State) : ChangesOnly [.filter, .dirty] s (setFilter f s) := by
  intro p hp; cases p <;> simp_all [Part.same]

theorem changesOnly_raised (n : Notice) (f : Filter) (s : State) :
    ChangesOnly [.filter, .notices, .dirty, .counts] s (raise n (setFilter f s)) :=
  changesOnly_trans (changesOnly_mono (by simp) (changesOnly_setFilter f s))
    (changesOnly_mono (by simp) (changesOnly_raise n _))

theorem raise_setFilter_notices (n : Notice) (f : Filter) (s : State) :
    (raise n (setFilter f s)).notices = s.given n := by
  rw [raise_notices]
  simp [State.given]

theorem aboveCap_iff (s : State) : aboveCap s = true ↔ ∃ r p n, s.route.active = some r ∧
    s.tracker.approach = some p ∧ p.next = some n ∧ (r.mark n - s.items.berthDistance) * 1000 < s.filter.progress := by
  unfold aboveCap coastCap
  rcases s.route.active with _ | r
  · simp
  · rcases s.tracker.approach with _ | p
    · simp
    · rcases hn : p.next with _ | n <;> simp [hn]

theorem readCap_uncoasting {s : State} (h : ∀ c, s.filter.mode ≠ .coasting c) : readCap s = s := by
  unfold readCap
  split
  · rename_i c hc
    exact absurd hc (h c)
  · rfl

/-! ## The obligation -/

/-- A seat entry loses its binding where the bound unit's link is one of the links, and stays as it is elsewhere. -/
theorem loosed_at {acts : LinkId → Bool} {es : List SeatEntry} {n : Nat} {e : SeatEntry} (h : es[n]? = some e) :
    ((∃ u, e.bound = some u ∧ acts u.link = true) →
      (es.map (SeatEntry.loosed acts))[n]? = some { e with bound := none }) ∧
    ((∀ u, e.bound = some u → acts u.link = false) → (es.map (SeatEntry.loosed acts))[n]? = some e) := by
  rw [List.getElem?_map, h, Option.map_some]
  exact ⟨fun ⟨u, hu, hact⟩ => congrArg some (SeatEntry.loosed_bound hu hact),
    fun hkept => congrArg some (SeatEntry.loosed_kept hkept)⟩

/-- LINK_ENABLE written starts, stops and leaves links as the settings before and after say. -/
theorem linkEnable_taken {c : Instr} {b : Beat} {v : Word} {s : State}
    (hc : c = .linkEnable b v ∨ c = .linkDisable b v) (r : s.bus.resetAsserted = false)
    (k : (s.passed b 1 v).items.softReset = false) (he : evenParity v = true) :
    exec c s = .next (switchLinks (s.passed b 1 v).items.linkEnable (holdItems 1 v (s.passed b 1 v)).items.linkEnable
      (holdItems 1 v (s.passed b 1 v))) := by
  rw [← (takeConfig_even he _).1]
  rcases hc with rfl | rfl <;> exact exec_config 1 rfl rfl r k

/-- Settles O15: each link is switched by itself, a quiet delay judged by itself, and the cap read with the new
distance. -/
theorem enableQuietAndBerthActWhenTaken : Obligations.EnableQuietAndBerthActWhenTaken := by
  unfold Obligations.EnableQuietAndBerthActWhenTaken
  refine ⟨?_, ?_, ?_⟩
  · intro b v c s hc r a on starts stops k he
    have hexec : exec c s = .next (switchLinks a.items.linkEnable (holdItems 1 v a).items.linkEnable
      (holdItems 1 v a)) := linkEnable_taken hc r k he
    refine ⟨_, hexec, ?_⟩
    clear_value a
    have hon : (holdItems 1 v a).items.linkEnable = on := by funext l; cases l <;> rfl
    have hlink := holdItems_link 1 v a
    rw [hon]
    generalize hbefore : a.items.linkEnable = before
    have hstarts (l : LinkId) : starts l ↔ Starts (before l) (on l) ((holdItems 1 v a).link l) := by
      rw [hlink, ← hbefore]
    have hstops (l : LinkId) : stops l ↔ Stops (before l) (on l) := by rw [← hbefore]
    have hacts (l : LinkId) : switches (before l) (on l) ((holdItems 1 v a).link l) = true ↔ starts l ∨ stops l := by
      rw [hstarts, hstops]
      exact decide_eq_true_iff
    have hres : (switchLinks before on (holdItems 1 v a)).res = { a.res with
        seats := a.res.seats.map (SeatEntry.loosed fun l => switches (before l) (on l) ((holdItems 1 v a).link l)) } :=
      switchLinks_res before on (holdItems 1 v a)
    refine ⟨(changesOnly_switchLinks _ _ _ .items (by simp)).trans rfl, fun l h => ?_, fun l h => ?_,
      fun l h h' => ?_, fun l n h => isDirty_switchLinks ((hacts l).mpr h) n, ?_, fun n e hn => ⟨?_, ?_⟩, ?_, ?_, ?_,
      ?_, ?_⟩
    · rw [switchLinks_starts ((hstarts l).mp h), hlink]
      rfl
    · exact switchLinks_stops ((hstops l).mp h) _
    · rw [switchLinks_neither (mt (hstarts l).mpr h) (mt (hstops l).mpr h'), hlink]
    · rw [hres, List.length_map]
    · rintro ⟨u, hu, hact⟩
      rw [hres]
      exact (loosed_at hn).1 ⟨u, hu, (hacts u.link).mpr hact⟩
    · intro hkept
      rw [hres]
      refine (loosed_at hn).2 fun u hu => Bool.eq_false_iff.mpr fun hact => ?_
      exact ((hacts u.link).mp hact).elim (hkept u hu).1 (hkept u hu).2
    · rw [hres]
    · rw [hres]
    · rw [hres]
    · exact dirtyRises_trans (dirtyRises_holdItems 1 v a) (dirtyRises_switchLinks _ _ _)
    · have hheld := changesOnly_holdItems 1 v a
      have hswitched := changesOnly_switchLinks before on (holdItems 1 v a)
      exact changesOnly_trans (changesOnly_mono (by simp) hheld) (changesOnly_mono (by simp) hswitched)
  · intro b v s r a minutes k he
    obtain ⟨-, htaken, -⟩ := takeConfig_even he a
    have hexec : exec (.quietWrite b v) s = .next (takeConfig 8 v a) := exec_config 8 rfl rfl r k
    refine ⟨_, hexec.trans (congrArg Host.Outcome.next htaken), ?_⟩
    clear_value a
    refine ⟨?_, fun l => ?_, ?_⟩
    · exact (changesOnly_judgeQuiets _ .items (by simp)).trans (holdItems_quiet v a)
    · rw [judgeQuiets_link, judgeQuiet_self, holdItems_link, holdItems_quiet]
      rfl
    · exact changesOnly_trans (changesOnly_mono (by simp) (changesOnly_holdItems 8 v a))
        (changesOnly_mono (by simp) (changesOnly_judgeQuiets _))
  · intro b v s r a berth above k he
    obtain ⟨-, -, htaken⟩ := takeConfig_even he a
    have hexec : exec (.berthDistanceWrite b v) s = .next (takeConfig 18 v a) := exec_config 18 rfl rfl r k
    refine ⟨_, hexec.trans (congrArg Host.Outcome.next htaken), ?_⟩
    clear_value a
    have habove : aboveCap (holdItems 18 v a) = true ↔ above := by
      rw [aboveCap_iff, holdItems_berth]
      rfl
    have hheld := changesOnly_holdItems 18 v a
    refine ⟨?_, fun c hc h => ?_, fun h => ?_⟩
    · simp [holdItems_berth, berth]
    · have hcoasting : (holdItems 18 v a).filter.mode = .coasting c := hc
      rw [readCap_above hcoasting (habove.mpr h), setMode_holding hcoasting]
      refine ⟨by simp [holdItems], ?_, ?_, ?_⟩
      · rw [raise_setFilter_notices, State.given, holdItems_berth]
        rfl
      · exact dirtyRises_raise _ _ _ (isDirty_setFilter_mode (by simp [hcoasting]))
      · exact changesOnly_trans (changesOnly_mono (by simp) hheld) (changesOnly_mono (by simp) (changesOnly_raised _ _ _))
    · have hstill : readCap (holdItems 18 v a) = holdItems 18 v a := by
        rcases h with h | h
        · exact readCap_uncoasting h
        · exact readCap_below (Bool.eq_false_iff.mpr (mt habove.mp h))
      exact hstill.symm ▸ hheld

end Sys2Proof.Machine
end

section
/-! PROOFS. REENUMERATE judged, and when its enumeration starts (R105, R120). -/

namespace Sys2Proof.Machine

/-! ## Requests on a link -/

theorem judgeLinkRequest_badArgument {v : Word} (h : linkOf (v.toNat % 4) = none) (kind : RequestKind)
    (act : LinkId → State → State) (s : State) :
    judgeLinkRequest kind act v s = answer (tagOf v) kind .badArgument none s := by
  simp [judgeLinkRequest, field_eq, h]

theorem judgeLinkRequest_off {v : Word} {l : LinkId} {s : State} (h : linkOf (v.toNat % 4) = some l)
    (hoff : (s.link l).state = .off) (kind : RequestKind) (act : LinkId → State → State) :
    judgeLinkRequest kind act v s = answer (tagOf v) kind .linkOff none s := by
  simp [judgeLinkRequest, field_eq, h, hoff]

theorem judgeLinkRequest_done {v : Word} {l : LinkId} {s : State} (h : linkOf (v.toNat % 4) = some l)
    (hon : (s.link l).state ≠ .off) (kind : RequestKind) (act : LinkId → State → State) :
    judgeLinkRequest kind act v s = act l (answer (tagOf v) kind .done none s) := by
  simp [judgeLinkRequest, field_eq, h, hon]

theorem exec_reenumerate {b : Beat} {v : Word} {s : State} (r : s.bus.resetAsserted = false)
    (k : (s.passed b 0x205 v).items.softReset = false) (h : (s.passed b 0x205 v).request.busy = none) :
    exec (.reenumerate b v) s = .next (judgeLinkRequest .reenumerate reenumerateLink v (s.passed b 0x205 v)) := by
  rw [show exec (.reenumerate b v) s = _ from exec_request 5 b v r k]
  exact congrArg Host.Outcome.next (by simp [issueRequest, requestOf, h])

theorem exec_refresh {b : Beat} {v : Word} {s : State} (r : s.bus.resetAsserted = false)
    (k : (s.passed b 0x206 v).items.softReset = false) (h : (s.passed b 0x206 v).request.busy = none) :
    exec (.refresh b v) s = .next (judgeLinkRequest .refresh refreshLink v (s.passed b 0x206 v)) := by
  rw [show exec (.refresh b v) s = _ from exec_request 6 b v r k]
  exact congrArg Host.Outcome.next (by simp [issueRequest, requestOf, h])

/-! ## REENUMERATE taken -/

/-- The link of a REENUMERATE taken, before its enumeration starts or waits (R105, R131, R134). -/
def Link.reenumerating (k : Link) : Link :=
  { k with
    state := .enumerating, quietDelay := none, restDue := false, rouseDue := false, wakeExpiry := none,
    wakePosition := none, unassignedDue := [] }

theorem reenumerateLink_idle {l : LinkId} {s : State} (h : (s.link l).transaction = none) :
    reenumerateLink l s = startEnumeration l (onLink l Link.reenumerating s) := by
  have hidle : ((onLink l Link.reenumerating s).link l).transaction.isSome = false := by
    simp [Link.reenumerating, h]
  exact if_neg (Bool.eq_false_iff.mp hidle)

theorem reenumerateLink_waiting {l : LinkId} {s : State} {x : Transaction} (h : (s.link l).transaction = some x) :
    reenumerateLink l s = onLink l (fun k => { k with reenumerate := true }) (onLink l Link.reenumerating s) := by
  have hwaits : ((onLink l Link.reenumerating s).link l).transaction.isSome = true := by
    simp [Link.reenumerating, h]
  exact if_pos hwaits

theorem changesOnly_onLink (l : LinkId) (f : Link → Link) (s : State) :
    ChangesOnly [.link l, .dirty] s (onLink l f s) := by
  intro p hp; cases p <;> simp_all [Part.same]

theorem changesOnly_reenumerateLink (l : LinkId) (s : State) :
    ChangesOnly [.res, .link l, .dirty] s (reenumerateLink l s) := by
  have htaken (f : Link → Link) (u : State) : ChangesOnly [.res, .link l, .dirty] u (onLink l f u) :=
    changesOnly_mono (by simp) (changesOnly_onLink l f u)
  rcases h : (s.link l).transaction with _ | x
  · exact reenumerateLink_idle h ▸ changesOnly_trans (htaken _ s) (changesOnly_startEnumeration l _)
  · exact reenumerateLink_waiting h ▸ changesOnly_trans (htaken _ s) (htaken _ _)

/-! ## The obligation -/

theorem changesOnly_reenumerated (tag : Byte) (l : LinkId) (s : State) : ChangesOnly [.request, .res, .link l, .dirty] s
    (reenumerateLink l (answer tag .reenumerate .done none s)) :=
  changesOnly_trans (changesOnly_mono (by simp) (changesOnly_answer tag _ _ _ s))
    (changesOnly_mono (by simp) (changesOnly_reenumerateLink l _))

/-- The answer of a request judged while the unit is IDLE. -/
theorem answer_idle {s : State} (h : s.request.busy = none) (v : Word) (kind : RequestKind) (code : ResultCode) :
    (answer (tagOf v) kind code none s).request = ⟨none, ⟨v.extractLsb' 24 8, some kind, code, none⟩⟩ := by
  rw [answer_request, h]
  rfl

/-- Settles O25: the answer is judged by selector and state, and the enumeration starts where no frame is in flight. -/
theorem reenumerateStartsAfreshOrWaits : Obligations.ReenumerateStartsAfreshOrWaits := by
  unfold Obligations.ReenumerateStartsAfreshOrWaits
  refine ⟨?_, ?_⟩
  · intro b v s r a said k hidle
    refine ⟨_, exec_reenumerate r k hidle, fun h => ?_, fun l h => ⟨fun hoff => ?_, fun hon => ?_⟩⟩
    · rw [judgeLinkRequest_badArgument h]
      exact ⟨answer_idle hidle v _ _, changesOnly_answer _ _ _ _ a⟩
    · rw [judgeLinkRequest_off h hoff]
      exact ⟨answer_idle hidle v _ _, changesOnly_answer _ _ _ _ a⟩
    · rw [judgeLinkRequest_done h hon]
      have hanswered := changesOnly_answer (tagOf v) .reenumerate .done none a
      have hlink : (answer (tagOf v) .reenumerate .done none a).link l = a.link l := hanswered (.link l) (by simp)
      refine ⟨(changesOnly_reenumerateLink l _ .request (by simp)).trans (answer_idle hidle v _ _),
        changesOnly_reenumerated _ l a, fun hnone => ?_, fun x hsome => ?_⟩
      · rw [reenumerateLink_idle (hlink ▸ hnone), startEnumeration_link, startEnumeration_res]
        simp [hlink, Link.reenumerating, a, SeatEntry.loosed]
      · rw [reenumerateLink_waiting (hlink ▸ hsome)]
        simp [hlink, Link.reenumerating, a]
  · intro b v s r a k hidle
    refine ⟨_, exec_refresh r k hidle, fun h => ?_, fun l h hoff => ?_⟩
    · rw [judgeLinkRequest_badArgument h]
      exact ⟨answer_idle hidle v _ _, changesOnly_answer _ _ _ _ a⟩
    · rw [judgeLinkRequest_off h hoff]
      exact ⟨answer_idle hidle v _ _, changesOnly_answer _ _ _ _ a⟩

end Sys2Proof.Machine
end

section
/-! PROOFS. The ways a transaction ends: the event reaches the frame in flight, a miss is counted, and a waiting
re-enumeration starts (R93, R94, R105). -/

namespace Sys2Proof.Machine

/-! ## The frame in flight -/

theorem link_ready (s : State) (l : LinkId) : s.ready.link l = s.link l := by simp

/-- An event on the frame in flight acts on it once the port has chosen. -/
theorem onEvent_inFlight {s : State} {l : LinkId} {x : Transaction} (f : Transaction → State → State)
    (h : s.items.softReset = false) (r : s.bus.resetAsserted = false) (hx : (s.link l).transaction = some x) :
    onEvent (onTransaction l f) s = f x s.ready := by
  rw [onEvent_run _ h r]
  simp [onTransaction, hx]

/-! ## Misses counted -/

theorem countMiss_counts (l : LinkId) (s : State) :
    (countMiss l s).status.counts = (bump l.missCounter s).status.counts := by
  unfold countMiss
  dsimp only
  split <;> simp

/-- A miss raises the counter of its link and no other. -/
theorem count_countMiss {s : State} (h : s.status.counts.length = 20) (l : LinkId) (m : Counter) :
    (countMiss l s).count m = if m = l.missCounter then oneMore (s.count m) else s.count m := by
  have hcounts : (countMiss l s).count m = (bump l.missCounter s).count m := by
    rw [State.count, countMiss_counts, State.count]
  rw [hcounts]
  split
  · rename_i hm
    rw [hm, count_bump h]
  · rename_i hm
    exact (counted_bump (ps := {l.missCounter}) rfl s).others m hm

theorem countMiss_self (l : LinkId) (s : State) : (countMiss l s).link l =
    if (s.link l).state.up then { s.link l with chainIntact := false } else s.link l := by
  unfold countMiss
  dsimp only
  split <;> simp_all

theorem changesOnly_countMiss (l : LinkId) (s : State) :
    ChangesOnly [.link l, .counts, .dirty] s (countMiss l s) := by
  intro p hp; cases p <;> simp_all [Part.same]

theorem changesOnly_clearTransaction (l : LinkId) (s : State) : ChangesOnly [.link l] s (clearTransaction l s) := by
  intro p hp; cases p <;> simp_all [Part.same]

/-! ## A re-enumeration that waits -/

theorem ended_waiting {l : LinkId} {s : State} (h : (s.link l).reenumerate = true) (f : State → State) :
    ended l f s = startEnumeration l (clearTransaction l s) := if_pos h

theorem reenumerate_countMiss (l : LinkId) (s : State) :
    ((countMiss l s).link l).reenumerate = (s.link l).reenumerate := by
  rw [countMiss_self]
  split <;> rfl

theorem missTransaction_waiting {l : LinkId} {s : State} (h : (s.link l).reenumerate = true) (x : Transaction) :
    missTransaction l x s = startEnumeration l (clearTransaction l (countMiss l s)) :=
  ended_waiting ((reenumerate_countMiss l s).trans h) _

theorem takeMalformed_waiting {l : LinkId} {s : State} {x : Transaction} {r : Reply}
    (h : (s.link l).reenumerate = true) (ha : x.purpose.awaits = true) (hw : wellFormedReply x r = false) :
    takeMalformed l x r s = startEnumeration l (clearTransaction l (countMiss l s)) := by
  unfold takeMalformed
  rw [if_neg (by simp [ha, hw])]
  split
  · split
    · exact ended_waiting ((reenumerate_countMiss l s).trans h) _
    · exact missTransaction_waiting h x
  · exact missTransaction_waiting h x

/-! ## The obligation -/

/-- The state an ending leaves behind it before its handler acts: with the miss counted where it is one. -/
def missedOr (missed : Bool) (l : LinkId) (s : State) : State := if missed then countMiss l s else s

theorem changesOnly_missedOr (missed : Bool) (l : LinkId) (s : State) :
    ChangesOnly [.link l, .counts, .dirty] s (missedOr missed l s) := by
  unfold missedOr
  split
  · exact changesOnly_countMiss l s
  · exact changesOnly_refl _ s

theorem overflow_missedOr (missed : Bool) (l : LinkId) (s : State) :
    ((missedOr missed l s).link l).overflow = (s.link l).overflow := by
  unfold missedOr
  split
  · rw [countMiss_self]
    split <;> rfl
  · rfl

/-- The event ends the frame in flight of a link for which a re-enumeration waits: the enumeration starts. -/
def StartsAfresh (c : Instr) (l : LinkId) (missed : Prop) (s : State) : Prop :=
  ∃ b : Bool, (b = true ↔ missed) ∧
    exec c s = .next (startEnumeration l (clearTransaction l (missedOr b l s.ready)))

theorem startsAfresh_replied {c : Instr} {l : LinkId} {missed : Prop} {s : State} {x : Transaction}
    {f : Transaction → State → State} {g : State → State} (h : s.items.softReset = false)
    (r : s.bus.resetAsserted = false) (hx : (s.link l).transaction = some x) (hw : (s.link l).reenumerate = true)
    (hc : exec c s = .next (onEvent (onTransaction l f) s)) (hf : f x s.ready = ended l g s.ready)
    (hm : ¬ missed) : StartsAfresh c l missed s := by
  refine ⟨false, by simp [hm], ?_⟩
  rw [hc, onEvent_inFlight f h r hx, hf, ended_waiting (by rwa [link_ready])]
  rfl

theorem startsAfresh_missed {c : Instr} {l : LinkId} {missed : Prop} {s : State} {x : Transaction}
    {f : Transaction → State → State} (h : s.items.softReset = false)
    (r : s.bus.resetAsserted = false) (hx : (s.link l).transaction = some x)
    (hc : exec c s = .next (onEvent (onTransaction l f) s))
    (hf : f x s.ready = startEnumeration l (clearTransaction l (countMiss l s.ready)))
    (hm : missed) : StartsAfresh c l missed s := by
  refine ⟨true, by simp [hm], ?_⟩
  rw [hc, onEvent_inFlight f h r hx, hf]
  rfl

/-- A check probe answered: FAULT and a malformed reply are misses, and OK and BUSY are none (R99). -/
theorem startsAfresh_checkProbe {l : LinkId} {missed : Prop} {s : State} {x : Transaction} {n : Nat} {page : Page}
    (code : BitVec 2) (h : s.items.softReset = false) (r : s.bus.resetAsserted = false)
    (hx : (s.link l).transaction = some x) (hw : (s.link l).reenumerate = true)
    (hp : x.purpose = .checkProbe n page) (hm : missed ↔ code = 2 ∨ code = 3) :
    StartsAfresh (.checkProbeReply l code) l missed s := by
  have hready : (s.ready.link l).reenumerate = true := (link_ready s l).symm ▸ hw
  by_cases h3 : code = 3
  · exact startsAfresh_missed h r hx rfl (by simp only [hp, if_pos h3, missTransaction_waiting hready])
      (hm.mpr (.inr h3))
  · by_cases h2 : code = 2
    · have hcounted := ended_waiting ((reenumerate_countMiss l s.ready).trans hready) (addressTaken l page)
      exact startsAfresh_missed h r hx rfl (by simp only [hp, if_neg h3, if_pos h2, hcounted]) (hm.mpr (.inl h2))
    · exact startsAfresh_replied h r hx hw rfl (by simp only [hp, if_neg h3, if_neg h2]; rfl) fun hmiss => (hm.mp hmiss).elim h2 h3

theorem startsAfresh_unassigned {l : LinkId} {missed : Prop} {s : State} {x : Transaction} {a : Nat}
    (ending : ShowEnd) (h : s.items.softReset = false) (r : s.bus.resetAsserted = false)
    (hx : (s.link l).transaction = some x) (hw : (s.link l).reenumerate = true)
    (hp : x.purpose = .unassigned a) (hm : missed ↔ ending = .miss) :
    StartsAfresh (.unassignedShowEnd l ending) l missed s := by
  have hready : (s.ready.link l).reenumerate = true := (link_ready s l).symm ▸ hw
  cases ending with
  | ok => exact startsAfresh_replied h r hx hw rfl (by simp only [hp]; rfl) (by simp [hm])
  | busy => exact startsAfresh_replied h r hx hw rfl (by simp only [hp]; rfl) (by simp [hm])
  | miss => exact startsAfresh_missed h r hx rfl (by simp only [hp, missTransaction_waiting hready]) (hm.mpr rfl)

/-- What a re-enumeration makes of the state that an ending leaves. -/
theorem startsAfresh_outcome (b : Bool) (l : LinkId) (s : State) :
    let t := startEnumeration l (clearTransaction l (missedOr b l s.ready))
    t.link l = { Link.reset with
      state := .enumerating, overflow := (s.link l).overflow
      transaction := some ⟨.openChain, 127, [0xFE00#16], s.items.replyWindow, s.timebase⟩ } ∧
    t.res = { s.res with seats := s.res.seats.map (SeatEntry.loosed (· == l)) } ∧
    t.status.counts = (missedOr b l s.ready).status.counts ∧
    ChangesOnly [.res, .link l, .dirty, .counts] s.ready t := by
  have hcounted := changesOnly_missedOr b l s.ready
  have hitems : (missedOr b l s.ready).items = s.items := (hcounted .items (by simp)).trans (by simp)
  have htime : (missedOr b l s.ready).timebase = s.timebase := (hcounted .timebase (by simp)).trans (by simp)
  have hres : (missedOr b l s.ready).res = s.res := (hcounted .res (by simp)).trans (by simp)
  refine ⟨?_, ?_, ?_, ?_⟩
  · rw [startEnumeration_link]
    simp [hitems, htime, overflow_missedOr]
  · rw [startEnumeration_res]
    simp [hres]
  · simp
  · exact changesOnly_trans (changesOnly_mono (by simp) hcounted)
      (changesOnly_trans (changesOnly_mono (by simp) (changesOnly_clearTransaction l _))
        (changesOnly_mono (by simp) (changesOnly_startEnumeration l _)))

/-- Settles O56: whatever the ending, it is `startEnumeration` on the state with a miss counted or not. -/
theorem waitingReenumerationStartsAtTheEnding : Obligations.WaitingReenumerationStartsAtTheEnding := by
  unfold Obligations.WaitingReenumerationStartsAtTheEnding
  intro s l x c r k hx hwaits hc missed
  have hready : (s.ready.link l).reenumerate = true := (link_ready s l).symm ▸ hwaits
  have hending : StartsAfresh c l missed s := by
    rcases hc with ⟨rfl, a, w, hp⟩ | ⟨rfl, a, w, hp⟩ | ⟨busy, a, rfl, hp⟩ | ⟨rfl, a, code, hp⟩ | ⟨busy, a, rfl, hp⟩ |
      ⟨busy, began, a, rfl, hp⟩ | ⟨w1, w2, w3, w4, n, rfl, hp⟩ | ⟨w1, w2, w3, w4, number, n, page, rfl, hp⟩ |
      ⟨rfl, n, page, hp⟩ | ⟨code, n, page, rfl, hp⟩ | ⟨ending, a, rfl, hp⟩ | ⟨rfl, hp⟩ | ⟨rfl, hp⟩ | ⟨rfl, hp⟩ |
      ⟨rfl, ha⟩ | ⟨reply, rfl, ha, hw⟩
    on_goal 16 => exact startsAfresh_missed k r hx rfl (by simp only [takeMalformed_waiting hready ha hw]) (by simp [missed])
    on_goal 15 =>
      exact startsAfresh_missed k r hx rfl (by simp only [if_pos ha, missTransaction_waiting hready]) (by simp [missed])
    on_goal 11 => exact startsAfresh_unassigned ending k r hx hwaits hp (by simp [missed])
    on_goal 10 => exact startsAfresh_checkProbe code k r hx hwaits hp (by simp [missed])
    all_goals exact startsAfresh_replied k r hx hwaits rfl (by simp only [hp]; rfl) (by simp [missed])
  obtain ⟨b, hmissed, hexec⟩ := hending
  obtain ⟨hlink, hres, hcounts, hframe⟩ := startsAfresh_outcome b l s
  refine ⟨_, hexec, hlink, hres, fun hm hlen m => ?_, fun hm => ?_, hframe⟩
  · rw [State.count, hcounts, hmissed.mpr hm]
    exact (count_countMiss (by simpa using hlen) l m).trans (by simp [State.count])
  · rw [hcounts, Bool.eq_false_iff.mpr (mt hmissed.mp hm)]
    simp [missedOr]

end Sys2Proof.Machine
end

section
/-! PROOFS. The steps of an enumeration, one rule each: the frames sent, the unit entered, the seats bound, and the
ending (R99 to R104). -/

namespace Sys2Proof.Machine

/-! ## Frames sent -/

theorem sendBasePage_self (l : LinkId) (n : Nat) (s : State) : (sendBasePage l n s).link l = { s.link l with
    transaction := some ⟨.basePage n, 0, [0x0041#16, 0], s.items.replyWindow, s.timebase⟩ } := by
  have hframe : frameOf 0 .readPage [half 0] = [0x0041#16, 0] := by decide
  rw [sendBasePage, beginFrame_self, hframe]

theorem sendExtendedPage_self (l : LinkId) (number n : Nat) (p : Page) (s : State) :
    (sendExtendedPage l number n p s).link l = { s.link l with
      transaction := some ⟨.extendedPage number n p, 0, [0x0041#16, BitVec.ofNat 16 number], s.items.replyWindow,
        s.timebase⟩ } := beginFrame_self l _ _ _ _ s

theorem sendSetAddress_self (l : LinkId) (n : Nat) (p : Page) (s : State) : (sendSetAddress l n p s).link l =
    { s.link l with
      transaction := some ⟨.setAddress n p, 0, [0x0081#16, BitVec.ofNat 16 ((s.link l).nextAddress % 128)],
        s.items.replyWindow, s.timebase⟩ } := by
  have hframe (a : Nat) : frameOf 0 .setAddress [half (place 0 7 a)] = [0x0081#16, BitVec.ofNat 16 (a % 128)] := rfl
  rw [sendSetAddress, beginFrame_self, hframe]

theorem sendCheckProbe_self (l : LinkId) (n : Nat) (p : Page) (s : State) : (sendCheckProbe l n p s).link l =
    { s.link l with
      transaction := some ⟨.checkProbe n p, (s.link l).nextAddress,
        [BitVec.ofNat 16 ((s.link l).nextAddress % 128 * 512 + 320)], s.items.replyWindow, s.timebase⟩ } := by
  have hframe (a : Nat) : frameOf a .probe [] = [BitVec.ofNat 16 (a % 128 * 512 + 320)] := by
    simp [frameOf, half, place, frameCode, Nat.shiftLeft_eq]
  rw [sendCheckProbe, beginFrame_self, hframe]

theorem changesOnly_beginFrame (l : LinkId) (p : Purpose) (a : Nat) (kind : FrameKind) (payload : List Half)
    (s : State) : ChangesOnly [.link l] s (beginFrame l p a kind payload s) := by
  intro q hq; cases q <;> simp_all [Part.same]

/-! ## Seats bound -/

theorem usableLabels_inRange {p : Page} {x : Nat × Nat} (h : x ∈ usableLabels p) : 1 ≤ x.1 ∧ x.1 ≤ 128 := by
  have husable {n : Nat} (hn : labelUsable n = true) : 1 ≤ n ∧ n ≤ 128 := by simpa [labelUsable] using hn
  unfold usableLabels at h
  rcases List.mem_append.mp h with h | h
  · split at h
    · rename_i hfirst
      rw [List.mem_singleton.mp h]
      exact husable hfirst
    · simp at h
  · split at h
    · rename_i hsecond
      rw [List.mem_singleton.mp h]
      exact husable hsecond.2.1
    · simp at h

/-- A unit's usable labels are different seats (R103). -/
theorem usableLabels_distinct (p : Page) : (usableLabels p).Pairwise fun x y => x.1 ≠ y.1 := by
  unfold usableLabels
  dsimp only
  split <;> split <;> simp_all [Ne.symm]

theorem dirtyRises_setSeat (n : Nat) (e : SeatEntry) (s : State) : DirtyRises s (setSeat n e s) := by
  unfold setSeat
  split
  · exact dirtyRises_refl s
  · exact dirtyRises_trans (dirtyRises_of_dirty_eq rfl) (dirtyRises_markMany _ _)

/-- Seats bound to a unit one after the other. -/
def bindLabels (l : LinkId) (address : Nat) (xs : List (Nat × Nat)) (s : State) : State :=
  xs.foldl (fun s x => setSeat x.1 { s.seat x.1 with bound := some ⟨l, address, x.2⟩ } s) s

theorem bindSeats_eq (l : LinkId) (address : Nat) (p : Page) (s : State) :
    bindSeats l address p s = bindLabels l address (usableLabels p) s := rfl

theorem bindLabels_rest (l : LinkId) (address : Nat) (xs : List (Nat × Nat)) (s : State) :
    (bindLabels l address xs s).res.releaseList = s.res.releaseList ∧
    (bindLabels l address xs s).res.seats.length = s.res.seats.length ∧
    DirtyRises s (bindLabels l address xs s) := by
  induction xs generalizing s with
  | nil => exact ⟨rfl, rfl, dirtyRises_refl s⟩
  | cons x xs ih =>
    obtain ⟨hlist, hlength, hdirty⟩ := ih (setSeat x.1 { s.seat x.1 with bound := some ⟨l, address, x.2⟩ } s)
    exact ⟨hlist.trans (by simp), hlength.trans (by simp), dirtyRises_trans (dirtyRises_setSeat _ _ s) hdirty⟩

theorem bindLabels_other (l : LinkId) (address : Nat) {xs : List (Nat × Nat)} {m : Nat} (hm : 1 ≤ m)
    (hxs : ∀ x ∈ xs, 1 ≤ x.1) (h : ∀ slot, (m, slot) ∉ xs) (s : State) :
    (bindLabels l address xs s).seat m = s.seat m := by
  induction xs generalizing s with
  | nil => rfl
  | cons x xs ih =>
    have hne : m ≠ x.1 := by
      rintro rfl
      exact h x.2 (List.mem_cons_self ..)
    have htail := ih (fun y hy => hxs y (List.mem_cons_of_mem _ hy)) fun slot hs => h slot (List.mem_cons_of_mem _ hs)
    refine (htail (setSeat x.1 { s.seat x.1 with bound := some ⟨l, address, x.2⟩ } s)).trans ?_
    exact seat_of_set_other (hxs x (List.mem_cons_self ..)) hm hne (by rw [setSeat_res])

theorem bindLabels_bound (l : LinkId) (address : Nat) {xs : List (Nat × Nat)} {m slot : Nat} {s : State}
    (hlength : s.res.seats.length = 128) (hxs : ∀ x ∈ xs, 1 ≤ x.1 ∧ x.1 ≤ 128)
    (hdistinct : xs.Pairwise fun x y => x.1 ≠ y.1) (h : (m, slot) ∈ xs) :
    ((bindLabels l address xs s).seat m).bound = some ⟨l, address, slot⟩ := by
  induction xs generalizing s with
  | nil => simp at h
  | cons x xs ih =>
    obtain ⟨hhead, htail⟩ := List.pairwise_cons.mp hdistinct
    have hrange (y) (hy : y ∈ xs) := hxs y (List.mem_cons_of_mem x hy)
    rcases List.mem_cons.mp h with rfl | hmem
    · have hx := hxs _ (List.mem_cons_self ..)
      have hkept := bindLabels_other l address hx.1 (fun y hy => (hrange y hy).1)
        (fun slot' hs => hhead _ hs rfl) (setSeat m { s.seat m with bound := some ⟨l, address, slot⟩ } s)
      refine (congrArg SeatEntry.bound hkept).trans ?_
      rw [seat_of_set_self hx hlength (by rw [setSeat_res])]
    · exact ih (by simpa using hlength) hrange htail hmem

/-! ## A unit entered -/

/-- A unit in the table at the next address, with its unit view word marked, and nothing bound or raised yet. -/
def entered (l : LinkId) (p : Page) (s : State) : State :=
  markMany (unitBit l (s.link l).nextAddress) (onLink l (fun k => { k with
    units := k.units ++ [newEntry s l (s.link l).nextAddress p], nextAddress := (s.link l).nextAddress + 1 }) s)

theorem entered_keeps (l : LinkId) (p : Page) (s : State) : (entered l p s).res = s.res ∧
    (entered l p s).notices = s.notices ∧ (entered l p s).items = s.items ∧
    (entered l p s).timebase = s.timebase ∧ (entered l p s).status.counts = s.status.counts := by simp [entered]

theorem dirtyRises_entered (l : LinkId) (p : Page) (s : State) : DirtyRises s (entered l p s) :=
  dirtyRises_trans (dirtyRises_onLink l _ s) (dirtyRises_markMany _ _)

theorem enterUnit_eq (l : LinkId) (p : Page) (s : State) : enterUnit l p s =
    match entryState s l p with
    | .active => if l = .p then entered l p s else bindSeats l (s.link l).nextAddress p (entered l p s)
    | .duplicate => raise (.unitDuplicate l (s.link l).nextAddress ((boundLabel s l p).getD 0)) (entered l p s)
    | _ => entered l p s := rfl

section
variable {l : LinkId} {p : Page} {s : State}

theorem entryState_foreign (h : entersForeign l p = true) : entryState s l p = .foreign := if_pos h

theorem entryState_duplicate {label : Nat} (h : entersForeign l p = false) (hb : boundLabel s l p = some label) :
    entryState s l p = .duplicate := by simp [entryState, h, hb]

theorem entryState_active (h : entersForeign l p = false) (hb : boundLabel s l p = none) :
    entryState s l p = .active := by simp [entryState, h, hb]

theorem enterUnit_foreign (h : entersForeign l p = true) : enterUnit l p s = entered l p s := by
  rw [enterUnit_eq, entryState_foreign h]

theorem enterUnit_duplicate {label : Nat} (h : entersForeign l p = false) (hb : boundLabel s l p = some label) :
    enterUnit l p s = raise (.unitDuplicate l (s.link l).nextAddress label) (entered l p s) := by
  rw [enterUnit_eq, entryState_duplicate h hb, hb]
  rfl

theorem enterUnit_active (h : entersForeign l p = false) (hb : boundLabel s l p = none) : enterUnit l p s =
    if l = .p then entered l p s else bindSeats l (s.link l).nextAddress p (entered l p s) := by
  rw [enterUnit_eq, entryState_active h hb]

theorem enterUnit_foreign_res (h : entersForeign l p = true) : (enterUnit l p s).res = s.res := by
  rw [enterUnit_foreign h]
  exact (entered_keeps l p s).1

theorem enterUnit_duplicate_made {label : Nat} (h : entersForeign l p = false) (hb : boundLabel s l p = some label) :
    (enterUnit l p s).res = s.res ∧
    (enterUnit l p s).notices = s.given (.unitDuplicate l (s.link l).nextAddress label) := by
  obtain ⟨hres, hnotices, hitems, htime, -⟩ := entered_keeps l p s
  rw [enterUnit_duplicate h hb, raise_notices, State.given, hnotices, hitems, htime]
  exact ⟨by simp [hres], rfl⟩

theorem enterUnit_active_notices (h : entersForeign l p = false) (hb : boundLabel s l p = none) :
    (enterUnit l p s).notices = s.notices := by
  rw [enterUnit_active h hb]
  split <;> simp [entered]

theorem enterUnit_bound (h : entersForeign l p = false) (hb : boundLabel s l p = none) (hl : l ≠ .p)
    (hlength : s.res.seats.length = 128) {label slot : Nat} (hm : (label, slot) ∈ usableLabels p) :
    ((enterUnit l p s).seat label).bound = some ⟨l, (s.link l).nextAddress, slot⟩ := by
  rw [enterUnit_active h hb, if_neg hl, bindSeats_eq]
  exact bindLabels_bound l _ (by simpa [entered] using hlength) (fun _ => usableLabels_inRange)
    (usableLabels_distinct p) hm

theorem enterUnit_unbound (h : entersForeign l p = false) (hb : boundLabel s l p = none) {m : Nat} (hm : 1 ≤ m)
    (hfree : l = .p ∨ ∀ slot, (m, slot) ∉ usableLabels p) : (enterUnit l p s).seat m = s.seat m := by
  have hentered : (entered l p s).seat m = s.seat m := by simp only [State.seat, (entered_keeps l p s).1]
  rw [enterUnit_active h hb]
  split
  · exact hentered
  · rename_i hl
    refine Eq.trans ?_ hentered
    exact bindLabels_other l _ hm (fun _ hx => (usableLabels_inRange hx).1) (hfree.resolve_left hl) _

/-- Whatever a unit is entered as, no mark goes, no entry of the release list, and no count but those of notices. -/
theorem enterUnit_rest : (enterUnit l p s).res.releaseList = s.res.releaseList ∧
    DirtyRises s (enterUnit l p s) ∧ Counted noticeCounters s (enterUnit l p s) := by
  obtain ⟨hres, -, -, -, hcounts⟩ := entered_keeps l p s
  have hdirty := dirtyRises_entered l p s
  have hcounted : Counted noticeCounters s (entered l p s) := counted_of_counts_eq hcounts
  have hlist : (entered l p s).res.releaseList = s.res.releaseList := congrArg Reservations.releaseList hres
  rw [enterUnit_eq]
  split
  · split
    · exact ⟨hlist, hdirty, hcounted⟩
    · obtain ⟨hbound, -, hrises⟩ := bindLabels_rest l (s.link l).nextAddress (usableLabels p) (entered l p s)
      exact ⟨hbound.trans hlist, dirtyRises_trans hdirty hrises, hcounted.trans (counted_of_counts_eq (by simp))⟩
  · exact ⟨by simpa using hlist, dirtyRises_trans hdirty (dirtyRises_raise _ _), hcounted.trans (counted_raise _ _)⟩
  · exact ⟨hlist, hdirty, hcounted⟩

end

/-! ## A unit entered depends on the seats, the configuration and the time only -/

theorem boundLabel_congr {s t : State} (hres : t.res = s.res) (l : LinkId) (p : Page) :
    boundLabel t l p = boundLabel s l p := by simp only [boundLabel, State.seat, hres]

theorem newEntry_congr {s t : State} (hres : t.res = s.res) (hitems : t.items = s.items)
    (htime : t.timebase = s.timebase) (l : LinkId) (a : Nat) (p : Page) : newEntry t l a p = newEntry s l a p := by
  simp only [newEntry, entryState, boundLabel_congr hres, hitems, htime]

/-! ## An address taken -/

theorem addressTaken_self (l : LinkId) (p : Page) (s : State) : (addressTaken l p s).link l = { s.link l with
    units := (s.link l).units ++ [newEntry s l (s.link l).nextAddress p]
    nextAddress := (s.link l).nextAddress + 1
    transaction := some ⟨.basePage 1, 0, [0x0041#16, 0], s.items.replyWindow, s.timebase⟩ } := by
  rw [addressTaken, sendBasePage_self, enterUnit_link]
  simp

theorem changesOnly_addressTaken (l : LinkId) (p : Page) (s : State) :
    ChangesOnly [.res, .link l, .notices, .dirty, .counts] s (addressTaken l p s) := by
  intro q hq; cases q <;> simp_all [Part.same]

theorem addressTaken_rest (l : LinkId) (p : Page) (s : State) : (addressTaken l p s).res = (enterUnit l p s).res ∧
    (addressTaken l p s).notices = (enterUnit l p s).notices ∧ DirtyRises s (addressTaken l p s) ∧
    Counted noticeCounters s (addressTaken l p s) := by
  obtain ⟨-, hdirty, hcounted⟩ := enterUnit_rest (l := l) (p := p) (s := s)
  exact ⟨by simp [addressTaken], by simp [addressTaken],
    dirtyRises_trans hdirty (dirtyRises_beginFrame l _ _ _ _ _),
    hcounted.trans (counted_of_counts_eq (by simp [addressTaken]))⟩

/-! ## Endings -/

/-- What the end of an enumeration leaves of the link but for its table, queue, overflow latch, sweep position and
LEVEL. -/
theorem endEnumeration_control (l : LinkId) (e : Ending) (s : State) : ∃ d,
    ((endEnumeration l e s).link l).control = { ((s.link l).enumerated e).control with quietDelay := d } := by
  let u := sweepLink l (raise (.chainReady l (s.link l).units.length e) (onLink l (fun k => k.enumerated e) s))
  have hswept : (u.link l).control = ((s.link l).enumerated e).control := by
    rw [sweepLink_self, sweep_control]
    simp
  have hjudged : (endEnumeration l e s).link l = (judgeQuiet l u).link l := rfl
  rw [hjudged, judgeQuiet_self]
  split
  · exact ⟨_, by rw [← hswept]; rfl⟩
  · exact ⟨_, hswept⟩

theorem endEnumeration_ended (l : LinkId) (e : Ending) (s : State) :
    let k := (endEnumeration l e s).link l
    k.state = .running ∧ k.transaction = (s.link l).transaction ∧ k.overlength = decide (e = .overlength) ∧
      k.chainIntact = decide (e ≠ .broken) ∧ k.endedBroken = decide (e = .broken) ∧
      k.units.map UnitEntry.address = (s.link l).units.map UnitEntry.address := by
  obtain ⟨d, h⟩ := endEnumeration_control l e s
  have htransaction := congrArg Link.transaction h
  exact ⟨congrArg Link.state h, htransaction, congrArg Link.overlength h, congrArg Link.chainIntact h,
    congrArg Link.endedBroken h, (carriesLinks_endEnumeration l e s l).addresses⟩

theorem endEnumeration_notices (l : LinkId) (e : Ending) (s : State) :
    (endEnumeration l e s).notices = s.given (.chainReady l (s.link l).units.length e) := by
  simp [endEnumeration, raise_notices, State.given]

theorem endEnumeration_rises (l : LinkId) (e : Ending) (s : State) :
    DirtyRises s (endEnumeration l e s) ∧ Counted noticeCounters s (endEnumeration l e s) := by
  let u := raise (.chainReady l (s.link l).units.length e) (onLink l (fun k => k.enumerated e) s)
  have hdirty : DirtyRises s u := dirtyRises_trans (dirtyRises_onLink l _ s) (dirtyRises_raise _ _)
  have hcounted : Counted noticeCounters s u :=
    (counted_of_counts_eq (by simp)).trans (counted_raise _ (onLink l (fun k => k.enumerated e) s))
  have hswept : DirtyRises u (sweepLink l u) := dirtyRises_onLink l _ u
  have hjudged : DirtyRises (sweepLink l u) (endEnumeration l e s) := dirtyRises_of_dirty_eq (by simp [endEnumeration, u])
  exact ⟨dirtyRises_trans hdirty (dirtyRises_trans hswept hjudged), hcounted.trans (counted_of_counts_eq (by simp [endEnumeration, u]))⟩

theorem changesOnly_endEnumeration (l : LinkId) (e : Ending) (s : State) :
    ChangesOnly [.link l, .notices, .dirty, .counts] s (endEnumeration l e s) := by
  intro q hq; cases q <;> simp_all [Part.same]

end Sys2Proof.Machine
end

section
/-! PROOFS. An enumeration goes on from one step to the next (O49). -/

namespace Sys2Proof.Machine

/-! ## The state a step's reply is taken in -/

/-- The state in which the ending of a transaction is handed to its handler: the port has chosen, and the link is free
of its transaction (R93). -/
def idled (l : LinkId) (s : State) : State := clearTransaction l s.ready

theorem idled_link (l : LinkId) (s : State) : (idled l s).link l = { s.link l with transaction := none } := by
  simp [idled, clearTransaction]

theorem idled_keeps (l : LinkId) (s : State) : (idled l s).res = s.res ∧ (idled l s).items = s.items ∧
    (idled l s).timebase = s.timebase ∧ (idled l s).notices = s.notices ∧
    (idled l s).status.counts = s.status.counts ∧ (idled l s).status.dirty = s.status.dirty := by simp [idled]

theorem changesOnly_idled (l : LinkId) (s : State) : ChangesOnly [.link l] s.ready (idled l s) :=
  changesOnly_clearTransaction l s.ready

theorem dirtyRises_idled (l : LinkId) (s : State) : DirtyRises s (idled l s) := dirtyRises_of_dirty_eq (by simp [idled])

theorem ended_runs {l : LinkId} {s : State} (h : (s.link l).reenumerate = false) (f : State → State) :
    ended l f s = f (clearTransaction l s) := if_neg (by simp [h])

/-- The reply to a frame in flight is handed to its handler on the idled link. -/
theorem exec_replied {c : Instr} {l : LinkId} {s : State} {x : Transaction} {f : Transaction → State → State}
    {g : State → State} (h : s.items.softReset = false) (r : s.bus.resetAsserted = false)
    (hx : (s.link l).transaction = some x) (hn : (s.link l).reenumerate = false)
    (hc : exec c s = .next (onEvent (onTransaction l f) s)) (hf : f x s.ready = ended l g s.ready) :
    exec c s = .next (g (idled l s)) := by
  rw [hc, onEvent_inFlight f h r hx, hf, ended_runs (by rwa [link_ready]), idled]

/-- A frame begun on the idled link changes that link only. -/
theorem changesOnly_sent (l : LinkId) (p : Purpose) (a : Nat) (kind : FrameKind) (payload : List Half) (s : State) :
    ChangesOnly [.link l] s.ready (beginFrame l p a kind payload (idled l s)) :=
  changesOnly_trans (changesOnly_idled l s) (changesOnly_beginFrame l p a kind payload _)

theorem sendBasePage_idled (l : LinkId) (n : Nat) (s : State) :
    (sendBasePage l n (idled l s)).link l = { s.link l with
      transaction := some ⟨.basePage n, 0, [0x0041#16, 0], s.items.replyWindow, s.timebase⟩ } := by
  obtain ⟨-, hitems, htime, -⟩ := idled_keeps l s
  rw [sendBasePage_self, idled_link, hitems, htime]

theorem sendExtendedPage_idled (l : LinkId) (number n : Nat) (p : Page) (s : State) :
    (sendExtendedPage l number n p (idled l s)).link l = { s.link l with
      transaction := some ⟨.extendedPage number n p, 0, [0x0041#16, BitVec.ofNat 16 number], s.items.replyWindow,
        s.timebase⟩ } := by
  obtain ⟨-, hitems, htime, -⟩ := idled_keeps l s
  rw [sendExtendedPage_self, idled_link, hitems, htime]

theorem sendSetAddress_idled (l : LinkId) (n : Nat) (p : Page) (s : State) :
    (sendSetAddress l n p (idled l s)).link l = { s.link l with
      transaction := some ⟨.setAddress n p, 0, [0x0081#16, BitVec.ofNat 16 ((s.link l).nextAddress % 128)],
        s.items.replyWindow, s.timebase⟩ } := by
  obtain ⟨-, hitems, htime, -⟩ := idled_keeps l s
  rw [sendSetAddress_self, idled_link, hitems, htime]

/-! ## Pages -/

theorem takeBasePage_full {l : LinkId} {s : State} (h : l.capacity ≤ (s.link l).units.length) (p : Page) :
    takeBasePage l p s = endEnumeration l .overlength s := if_pos h

theorem takeBasePage_plain {l : LinkId} {p : Page} {s : State} (h : (s.link l).units.length < l.capacity)
    (hp : p.extended = 0) : takeBasePage l p s = sendSetAddress l 1 p s := by
  rw [takeBasePage, if_neg (Nat.not_le.mpr h), if_pos hp]

theorem takeBasePage_extended {l : LinkId} {p : Page} {s : State} (h : (s.link l).units.length < l.capacity)
    (hp : 0 < p.extended) : takeBasePage l p s = sendExtendedPage l 1 1 p s := by
  rw [takeBasePage, if_neg (Nat.not_le.mpr h), if_neg (by omega)]

theorem exec_pageReply_base {l : LinkId} {s : State} {x : Transaction} (h : s.items.softReset = false)
    (r : s.bus.resetAsserted = false) (hx : (s.link l).transaction = some x) (hn : (s.link l).reenumerate = false)
    {n : Nat} (hp : x.purpose = .basePage n) (w1 w2 w3 w4 : Half) :
    exec (.pageReply l w1 w2 w3 w4) s = .next (takeBasePage l (basePageOf w1 w2) (idled l s)) :=
  exec_replied h r hx hn rfl (by simp only [hp])

theorem exec_pageReply_extended {l : LinkId} {s : State} {x : Transaction} (h : s.items.softReset = false)
    (r : s.bus.resetAsserted = false) (hx : (s.link l).transaction = some x) (hn : (s.link l).reenumerate = false)
    {number n : Nat} {p : Page} (hp : x.purpose = .extendedPage number n p) (w1 w2 w3 w4 : Half) :
    exec (.pageReply l w1 w2 w3 w4) s = .next (takeExtendedPage l number p w1 (idled l s)) :=
  exec_replied h r hx hn rfl (by simp only [hp])

/-! ## An address taken -/

/-- The state an address step's reply is taken in: the tables stand, and a FAULT may have been counted (R99). -/
structure TakenIn (l : LinkId) (s u : State) : Prop where
  frame : ChangesOnly [.link l, .counts, .dirty] s.ready u
  rises : DirtyRises s u
  units : (u.link l).units = (s.link l).units
  next : (u.link l).nextAddress = (s.link l).nextAddress
  queue : (u.link l).queue = (s.link l).queue
  state : (u.link l).state = (s.link l).state

theorem TakenIn.same {l : LinkId} {s u : State} (h : TakenIn l s u) :
    u.res = s.res ∧ u.items = s.items ∧ u.timebase = s.timebase ∧ u.notices = s.notices :=
  ⟨(h.frame .res (by simp)).trans (by simp), (h.frame .items (by simp)).trans (by simp),
    (h.frame .timebase (by simp)).trans (by simp), (h.frame .notices (by simp)).trans (by simp)⟩

theorem takenIn_idled (l : LinkId) (s : State) : TakenIn l s (idled l s) where
  frame := changesOnly_mono (by simp) (changesOnly_idled l s)
  rises := dirtyRises_idled l s
  units := by rw [idled_link]
  next := by rw [idled_link]
  queue := by rw [idled_link]
  state := by rw [idled_link]

theorem dirtyRises_countMiss (l : LinkId) (s : State) : DirtyRises s (countMiss l s) := by
  unfold countMiss
  dsimp only
  split
  · exact dirtyRises_trans (dirtyRises_bump _ s) (dirtyRises_onLink l _ _)
  · exact dirtyRises_bump _ s

/-- The state in which a miss is handed to its handler: counted, and the link free of its transaction (R93, R94). -/
def missedIn (l : LinkId) (s : State) : State := clearTransaction l (countMiss l s.ready)

theorem missedIn_link (l : LinkId) (s : State) : (missedIn l s).link l =
    { (if (s.link l).state.up then { s.link l with chainIntact := false } else s.link l) with transaction := none } := by
  simp [missedIn, countMiss_self]

theorem takenIn_missedIn (l : LinkId) (s : State) : TakenIn l s (missedIn l s) where
  frame := changesOnly_trans (changesOnly_mono (by simp) (changesOnly_countMiss l s.ready))
    (changesOnly_mono (by simp) (changesOnly_clearTransaction l _))
  rises := dirtyRises_trans (dirtyRises_ready s)
    (dirtyRises_trans (dirtyRises_countMiss l _) (dirtyRises_of_dirty_eq (by simp [missedIn])))
  units := by rw [missedIn_link]; split <;> rfl
  next := by rw [missedIn_link]; split <;> rfl
  queue := by rw [missedIn_link]; split <;> rfl
  state := by rw [missedIn_link]; split <;> rfl

theorem count_missedIn {s : State} (h : s.status.counts.length = 20) (l : LinkId) :
    (missedIn l s).count l.missCounter = oneMore (s.count l.missCounter) := by
  have hcounts : (missedIn l s).status.counts = (countMiss l s.ready).status.counts := by simp [missedIn]
  have hready : s.ready.count l.missCounter = s.count l.missCounter := by simp [State.count]
  rw [State.count, hcounts, ← hready]
  exact (count_countMiss (by simpa using h) l l.missCounter).trans (if_pos rfl)

/-- The replies that show an address taken lead to the unit's entry (R99). -/
theorem exec_addressTaken {c : Instr} {l : LinkId} {s : State} {x : Transaction} {n : Nat} {page : Page}
    (h : s.items.softReset = false) (r : s.bus.resetAsserted = false) (hx : (s.link l).transaction = some x)
    (hn : (s.link l).reenumerate = false)
    (hc : (c = .setAddressOk l ∧ x.purpose = .setAddress n page) ∨ (x.purpose = .checkProbe n page ∧
      (c = .checkProbeReply l 0 ∨ c = .checkProbeReply l 1 ∨ c = .checkProbeReply l 2))) :
    ∃ u, exec c s = .next (addressTaken l page u) ∧ TakenIn l s u ∧
      (c = .checkProbeReply l 2 → u = missedIn l s) := by
  rcases hc with ⟨rfl, hp⟩ | ⟨hp, rfl | rfl | rfl⟩
  · exact ⟨_, exec_replied h r hx hn rfl (by simp only [hp]), takenIn_idled l s, by simp⟩
  · exact ⟨_, exec_replied h r hx hn rfl (by simp only [hp]; rfl), takenIn_idled l s, by simp⟩
  · exact ⟨_, exec_replied h r hx hn rfl (by simp only [hp]; rfl), takenIn_idled l s, by simp⟩
  · refine ⟨_, ?_, takenIn_missedIn l s, fun _ => rfl⟩
    have hruns : ((countMiss l s.ready).link l).reenumerate = false := by rwa [reenumerate_countMiss, link_ready]
    have hexec : exec (.checkProbeReply l 2) s = .next (ended l (addressTaken l page) (countMiss l s.ready)) := by
      refine congrArg Host.Outcome.next ((onEvent_inFlight _ h r hx).trans ?_)
      simp only [hp]
      rfl
    rw [hexec, ended_runs hruns, missedIn]

/-! ## The obligation -/

/-- Settles O49, step by step. -/
theorem enumerationStepsInOrder : Obligations.EnumerationStepsInOrder := by
  unfold Obligations.EnumerationStepsInOrder
  intro s l x r k hx hn hseats entry sent
  refine ⟨?_, ?_, ?_, ?_⟩
  · intro hp
    exact ⟨_, exec_replied k r hx hn rfl (by simp only [hp]; rfl), changesOnly_sent l _ _ _ _ s,
      sendBasePage_idled l 1 s⟩
  · intro attempt w1 w2 w3 w4 hp page
    have hunits : ((idled l s).link l).units = entry.units := by rw [idled_link]
    refine ⟨_, exec_pageReply_base k r hx hn hp w1 w2 w3 w4, fun hfull => ?_, fun hroom hplain => ?_,
      fun hroom hmore => ?_⟩
    · obtain ⟨-, hitems, htime, hnotices, -⟩ := idled_keeps l s
      obtain ⟨hstate, hidle, hover, hintact, -, haddresses⟩ := endEnumeration_ended l .overlength (idled l s)
      rw [takeBasePage_full (hunits ▸ hfull)]
      refine ⟨hstate, hover, hintact, hidle.trans ?_, dirtyRises_trans (dirtyRises_idled l s)
        (endEnumeration_rises l _ _).1, haddresses.trans ?_, ?_, ?_⟩
      · rw [idled_link]
      · rw [hunits]
      · rw [endEnumeration_notices, hunits]
        simp [State.given, hitems, htime, hnotices, entry]
      · exact changesOnly_trans (changesOnly_mono (by simp) (changesOnly_idled l s))
          (changesOnly_mono (by simp) (changesOnly_endEnumeration l _ _))
    · rw [takeBasePage_plain (hunits ▸ hroom) hplain]
      exact ⟨changesOnly_sent l _ _ _ _ s, sendSetAddress_idled l 1 page s⟩
    · rw [takeBasePage_extended (hunits ▸ hroom) hmore]
      exact ⟨changesOnly_sent l _ _ _ _ s, sendExtendedPage_idled l 1 1 page s⟩
  · intro number attempt page w1 w2 w3 w4 hp q
    refine ⟨_, exec_pageReply_extended k r hx hn hp w1 w2 w3 w4, ?_⟩
    unfold takeExtendedPage
    dsimp only
    split
    · exact ⟨changesOnly_sent l _ _ _ _ s, sendExtendedPage_idled l (number + 1) 1 q s⟩
    · exact ⟨changesOnly_sent l _ _ _ _ s, sendSetAddress_idled l 1 q s⟩
  · intro c attempt page hc
    obtain ⟨u, hexec, hu, hmiss⟩ := exec_addressTaken k r hx hn hc
    obtain ⟨hres, hitems, htime, hnotices⟩ := hu.same
    obtain ⟨hresults, hgiven, hrises, hcounted⟩ := addressTaken_rest l page u
    have hnew : newEntry u l (u.link l).nextAddress page = newEntry s l entry.nextAddress page := by
      rw [hu.next, newEntry_congr hres hitems htime]
    have hbound := boundLabel_congr hres l page
    refine ⟨_, hexec, ?_, dirtyRises_trans hu.rises hrises, fun hc2 hlen => ?_, ?_, ?_, ?_, ?_, ?_, ?_, fun hf => ?_,
      fun label hf hb => ?_, fun hf hb => ?_⟩
    · exact changesOnly_trans (changesOnly_mono (by simp) hu.frame) (changesOnly_addressTaken l page u)
    · rw [hcounted.others _ (by cases l <;> simp [noticeCounters, LinkId.missCounter]), hmiss hc2]
      exact count_missedIn hlen l
    · rw [addressTaken_self, hu.units, hnew]
    · rw [addressTaken_self, hu.next]
    · rw [addressTaken_self, hu.queue]
    · rw [addressTaken_self, hu.state]
    · rw [addressTaken_self, hitems, htime]
    · rw [hresults, enterUnit_rest.1, hres]
    · exact ⟨entryState_foreign hf, by rw [hresults, enterUnit_foreign_res hf, hres]⟩
    · obtain ⟨hkept, hraised⟩ := enterUnit_duplicate_made (s := u) hf (hbound ▸ hb)
      refine ⟨entryState_duplicate hf hb, by rw [hresults, hkept, hres], ?_⟩
      rw [hgiven, hraised, hu.next]
      simp [State.given, hitems, htime, hnotices, entry]
    · have hactive : boundLabel u l page = none := hbound ▸ hb
      have hseat (m : Nat) : (addressTaken l page u).seat m = (enterUnit l page u).seat m := by
        simp only [State.seat, hresults]
      refine ⟨entryState_active hf hb, ?_, fun hl label slot hmem => ?_, fun m hm hfree => ?_⟩
      · rw [hgiven, enterUnit_active_notices hf hactive, hnotices]
      · rw [hseat, enterUnit_bound hf hactive hl (by rw [hres]; exact hseats) hmem, hu.next]
      · rw [hseat, enterUnit_unbound hf hactive hm hfree]
        simp only [State.seat, hres]

end Sys2Proof.Machine
end

section
/-! PROOFS. A missed step of an enumeration (O50): tried again, checked, or the end of the enumeration. -/

namespace Sys2Proof.Machine

/-! ## A miss reaches its step -/

theorem missedIn_enumerating {l : LinkId} {s : State} (h : (s.link l).state = .enumerating) :
    (missedIn l s).link l = { s.link l with transaction := none } := by
  rw [missedIn_link, if_neg (by simp [h, LinkState.up])]

theorem awaits_of_enumerates {p : Purpose} (h : p.enumerates = true) (hp : p ≠ .openChain) : p.awaits = true := by
  cases p <;> simp_all [Purpose.enumerates, Purpose.awaits]

theorem missTransaction_step {l : LinkId} {s : State} {x : Transaction} (hn : (s.link l).reenumerate = false)
    (h : x.purpose.enumerates = true) :
    missTransaction l x s = missStep l x.purpose (clearTransaction l (countMiss l s)) := by
  rw [missTransaction, ended_runs (by rwa [reenumerate_countMiss])]
  generalize x.purpose = p at h
  cases p <;> simp_all [Purpose.enumerates]

theorem takeMalformed_missed {l : LinkId} {s : State} {x : Transaction} {r : Reply} (ha : x.purpose.awaits = true)
    (hw : wellFormedReply x r = false)
    (hf : (∃ n page, x.purpose = .checkProbe n page) → ¬ (replyCode r = 2 ∧ replyAddress r = x.address)) :
    takeMalformed l x r s = missTransaction l x s := by
  unfold takeMalformed
  rw [if_neg (by simp [ha, hw])]
  split
  · rename_i n page hp
    rw [if_neg (hf ⟨n, page, hp⟩)]
  · rfl

/-- A miss of an enumeration step, by its window or by a malformed reply, is counted and handed to the step. -/
theorem exec_missedStep {c : Instr} {l : LinkId} {s : State} {x : Transaction} (h : s.items.softReset = false)
    (r : s.bus.resetAsserted = false) (hx : (s.link l).transaction = some x) (hn : (s.link l).reenumerate = false)
    (he : x.purpose.enumerates = true) (hp : x.purpose ≠ .openChain)
    (hc : c = .replyWindowExpiry l ∨ ∃ r, c = .malformedReply l r ∧ wellFormedReply x r = false ∧
      ((∃ n page, x.purpose = .checkProbe n page) → ¬ (replyCode r = 2 ∧ replyAddress r = x.address))) :
    exec c s = .next (missStep l x.purpose (missedIn l s)) := by
  have ha := awaits_of_enumerates he hp
  have hmissed : missTransaction l x s.ready = missStep l x.purpose (missedIn l s) :=
    missTransaction_step (by rwa [link_ready]) he
  rcases hc with rfl | ⟨reply, rfl, hw, hf⟩
  · refine congrArg Host.Outcome.next ((onEvent_inFlight _ h r hx).trans ?_)
    rw [if_pos ha, hmissed]
  · refine congrArg Host.Outcome.next ((onEvent_inFlight _ h r hx).trans ?_)
    rw [takeMalformed_missed ha hw hf, hmissed]

/-! ## Endings after a miss -/

theorem breakEnumeration_ended (l : LinkId) (step : Option Nat) (s : State) :
    let k := (breakEnumeration l step s).link l
    k.state = .running ∧ k.transaction = (s.link l).transaction ∧ k.overlength = false ∧ k.chainIntact = false ∧
      k.endedBroken = true ∧ k.units.map UnitEntry.address = (s.link l).units.map UnitEntry.address := by
  have h := endEnumeration_ended l .broken (raise (.chainBroken l (s.link l).nextAddress step) s)
  simpa [breakEnumeration] using h

theorem breakEnumeration_notices (l : LinkId) (step : Option Nat) (s : State) :
    (breakEnumeration l step s).notices = s.givenAll
      [.chainBroken l (s.link l).nextAddress step, .chainReady l (s.link l).units.length .broken] := by
  rw [breakEnumeration, endEnumeration_notices, given_eq_givenAll,
    givenAll_append (first := [.chainBroken l (s.link l).nextAddress step]) (s := s) (raise_notices _ s)
      (by simp) (by simp)]
  simp

theorem breakEnumeration_rises (l : LinkId) (step : Option Nat) (s : State) :
    DirtyRises s (breakEnumeration l step s) ∧ Counted noticeCounters s (breakEnumeration l step s) := by
  obtain ⟨hdirty, hcounted⟩ := endEnumeration_rises l .broken (raise (.chainBroken l (s.link l).nextAddress step) s)
  exact ⟨dirtyRises_trans (dirtyRises_raise _ s) hdirty, (counted_raise _ s).trans hcounted⟩

/-! ## A missed step -/

/-- A missed step keeps every mark and counts notices only. -/
theorem missStep_rises (l : LinkId) (p : Purpose) (s : State) :
    DirtyRises s (missStep l p s) ∧ Counted noticeCounters s (missStep l p s) := by
  have hsent (p : Purpose) (a : Nat) (kind : FrameKind) (payload : List Half) :
      DirtyRises s (beginFrame l p a kind payload s) ∧ Counted noticeCounters s (beginFrame l p a kind payload s) :=
    ⟨dirtyRises_beginFrame l p a kind payload s, counted_of_counts_eq (by simp)⟩
  unfold missStep
  split
  · split
    · exact hsent _ _ _ _
    · exact endEnumeration_rises l .chainEnd s
  · split
    · exact hsent _ _ _ _
    · exact breakEnumeration_rises l _ s
  · exact hsent _ _ _ _
  · split
    · exact hsent _ _ _ _
    · exact breakEnumeration_rises l _ s
  · exact ⟨dirtyRises_refl s, .refl _ s⟩

theorem changesOnly_missStep (l : LinkId) (p : Purpose) (s : State) :
    ChangesOnly [.link l, .notices, .dirty, .counts] s (missStep l p s) := by
  intro q hq; cases q <;> simp_all [Part.same]

theorem missStep_basePage (l : LinkId) (n : Nat) (s : State) : missStep l (.basePage n) s =
    if n < 3 then sendBasePage l (n + 1) s else endEnumeration l .chainEnd s := rfl

theorem missStep_extendedPage (l : LinkId) (number n : Nat) (p : Page) (s : State) :
    missStep l (.extendedPage number n p) s =
      if n < 3 then sendExtendedPage l number (n + 1) p s else breakEnumeration l (some number) s := rfl

theorem missStep_setAddress (l : LinkId) (n : Nat) (p : Page) (s : State) :
    missStep l (.setAddress n p) s = sendCheckProbe l n p s := rfl

theorem missStep_checkProbe (l : LinkId) (n : Nat) (p : Page) (s : State) : missStep l (.checkProbe n p) s =
    if n < 3 then sendSetAddress l (n + 1) p s else breakEnumeration l none s := rfl

/-! ## The obligation -/

/-- Settles O50: what each step sends or ends with, on the state in which the miss is counted. -/
theorem enumerationMissesAreRetried : Obligations.EnumerationMissesAreRetried := by
  unfold Obligations.EnumerationMissesAreRetried
  intro s l x c r k hx hn hstate hlength hc entry sent again finished he hopen
  have htaken := takenIn_missedIn l s
  obtain ⟨-, hitems, htime, hnotices⟩ := htaken.same
  have hlink := missedIn_enumerating hstate
  have hgivenAll (ns : List Notice) : (missedIn l s).givenAll ns = s.givenAll ns :=
    givenAll_append (first := []) hnotices hitems htime ns
  have hbegun (p : Purpose) (a : Nat) (kind : FrameKind) (payload : List Half) :
      (beginFrame l p a kind payload (missedIn l s)).notices = s.notices :=
    (changesOnly_beginFrame l p a kind payload _ .notices (by simp)).trans hnotices
  have hbroken (step : Option Nat) : finished .broken (breakEnumeration l step (missedIn l s)) ∧
      (breakEnumeration l step (missedIn l s)).notices =
        s.givenAll [.chainBroken l entry.nextAddress step, .chainReady l entry.units.length .broken] := by
    obtain ⟨hrunning, hidle, hover, hintact, hended, haddresses⟩ := breakEnumeration_ended l step (missedIn l s)
    refine ⟨⟨hrunning, hidle.trans (by rw [hlink]), hover, hintact, hended, haddresses.trans (by rw [hlink])⟩, ?_⟩
    rw [breakEnumeration_notices, hgivenAll, hlink]
  obtain ⟨hdirty, hcounted⟩ := missStep_rises l x.purpose (missedIn l s)
  refine ⟨_, exec_missedStep k r hx hn he hopen hc, dirtyRises_trans htaken.rises hdirty,
    changesOnly_trans (changesOnly_mono (by simp) htaken.frame) (changesOnly_missStep l _ _), ?_, ?_, ?_, ?_, ?_⟩
  · rw [hcounted.others _ (by cases l <;> simp [noticeCounters, LinkId.missCounter])]
    exact count_missedIn hlength l
  · intro n hp
    rw [hp, missStep_basePage]
    refine ⟨fun hlt => ?_, fun hge => ?_⟩
    · rw [if_pos hlt]
      exact ⟨by rw [sendBasePage_self, hlink, hitems, htime], hbegun _ _ _ _⟩
    · rw [if_neg (Nat.not_lt.mpr hge)]
      obtain ⟨hrunning, hidle, hover, hintact, hended, haddresses⟩ := endEnumeration_ended l .chainEnd (missedIn l s)
      refine ⟨⟨hrunning, hidle.trans (by rw [hlink]), hover, hintact, hended, haddresses.trans (by rw [hlink])⟩, ?_⟩
      rw [endEnumeration_notices, given_eq_givenAll, hgivenAll, hlink]
      rfl
  · intro number n page hp
    rw [hp, missStep_extendedPage]
    refine ⟨fun hlt => ?_, fun hge => ?_⟩
    · rw [if_pos hlt]
      exact ⟨by rw [sendExtendedPage_self, hlink, hitems, htime], hbegun _ _ _ _⟩
    · rw [if_neg (Nat.not_lt.mpr hge)]
      exact hbroken _
  · intro n page hp
    rw [hp, missStep_setAddress]
    exact ⟨by rw [sendCheckProbe_self, hlink, hitems, htime], hbegun _ _ _ _⟩
  · intro n page hp
    rw [hp, missStep_checkProbe]
    refine ⟨fun hlt => ?_, fun hge => ?_⟩
    · rw [if_pos hlt]
      exact ⟨by rw [sendSetAddress_self, hlink, hitems, htime], hbegun _ _ _ _⟩
    · rw [if_neg (Nat.not_lt.mpr hge)]
      exact hbroken none

end Sys2Proof.Machine
end

section
/-! PROOFS. Offers and sweeps: what an item offered leaves of the table and the queue of a link, and that no content on
its way to a unit is lost (R106, R113 to R115). -/

namespace Sys2Proof.Machine

/-! ## Tables entry by entry -/

theorem forall₂_map_self {R : UnitEntry → UnitEntry → Prop} {f : UnitEntry → UnitEntry} {us : List UnitEntry}
    (h : ∀ u ∈ us, R u (f u)) : List.Forall₂ R us (us.map f) :=
  List.forall₂_map_right_iff.mpr (List.forall₂_same.mpr h)

theorem forall₂_self {R : UnitEntry → UnitEntry → Prop} (h : ∀ u, R u u) (us : List UnitEntry) : List.Forall₂ R us us :=
  List.forall₂_same.mpr fun u _ => h u

theorem forall₂_trans {α : Type} {R S T : α → α → Prop} (h : ∀ u v w, R u v → S v w → T u w)
    {us vs ws : List α} (huv : List.Forall₂ R us vs) (hvw : List.Forall₂ S vs ws) : List.Forall₂ T us ws := by
  induction huv generalizing ws with
  | nil =>
    cases hvw
    exact .nil
  | cons hr _ ih =>
    cases hvw with
    | cons hs hrest => exact .cons (h _ _ _ hr hs) (ih hrest)

theorem exists_of_forall₂ {R : UnitEntry → UnitEntry → Prop} {us vs : List UnitEntry} (h : List.Forall₂ R us vs)
    {v : UnitEntry} (hv : v ∈ vs) : ∃ u ∈ us, R u v := by
  induction h with
  | nil => cases hv
  | cons hr _ ih =>
    rcases List.mem_cons.mp hv with rfl | hv
    · exact ⟨_, List.mem_cons_self, hr⟩
    · obtain ⟨u, hu, huv⟩ := ih hv
      exact ⟨u, List.mem_cons_of_mem _ hu, huv⟩

theorem map_address_of_forall₂ {R : UnitEntry → UnitEntry → Prop} (ha : ∀ u v, R u v → v.address = u.address)
    {us vs : List UnitEntry} (h : List.Forall₂ R us vs) : vs.map UnitEntry.address = us.map UnitEntry.address := by
  induction h with
  | nil => rfl
  | cons hr _ ih => simp [ih, ha _ _ hr]

/-- The entry found at an address of one table answers to the one found in the other. -/
theorem find_of_forall₂ {R : UnitEntry → UnitEntry → Prop} (ha : ∀ u v, R u v → v.address = u.address)
    {us vs : List UnitEntry} (h : List.Forall₂ R us vs) {a : Nat} {u : UnitEntry}
    (hu : us.find? (fun u => u.address == a) = some u) : ∃ v, vs.find? (fun u => u.address == a) = some v ∧ R u v := by
  induction h with
  | nil => cases hu
  | cons hr _ ih =>
    rw [List.find?_cons] at hu ⊢
    rw [ha _ _ hr]
    split at hu
    · cases hu
      exact ⟨_, rfl, hr⟩
    · exact ih hu

/-! ## Owed flags -/

@[simp] theorem owed_setOwed (u : UnitEntry) (kind : ContentKind) (b : Bool) (other : ContentKind) :
    (u.setOwed kind b).owed other = if other = kind then b else u.owed other := by
  cases kind <;> cases other <;> rfl

/-- Two entries that differ in their owed flags at most. -/
def UnitEntry.Flagged (u v : UnitEntry) : Prop :=
  ∃ seat strip headline, v = { u with owedSeat := seat, owedStrip := strip, owedHeadline := headline }

theorem UnitEntry.Flagged.refl (u : UnitEntry) : u.Flagged u := ⟨u.owedSeat, u.owedStrip, u.owedHeadline, rfl⟩

theorem UnitEntry.Flagged.trans {u v w : UnitEntry} (h : u.Flagged v) (k : v.Flagged w) : u.Flagged w := by
  obtain ⟨_, _, _, rfl⟩ := h
  obtain ⟨a, b, c, rfl⟩ := k
  exact ⟨a, b, c, rfl⟩

theorem UnitEntry.Flagged.address {u v : UnitEntry} (h : u.Flagged v) : v.address = u.address := by
  obtain ⟨_, _, _, rfl⟩ := h
  rfl

theorem UnitEntry.flagged_setOwed (u : UnitEntry) (kind : ContentKind) (b : Bool) : u.Flagged (u.setOwed kind b) := by
  cases kind
  · exact ⟨b, u.owedStrip, u.owedHeadline, rfl⟩
  · exact ⟨u.owedSeat, b, u.owedHeadline, rfl⟩
  · exact ⟨u.owedSeat, u.owedStrip, b, rfl⟩

theorem UnitEntry.flagged_refresh (u : UnitEntry) : u.Flagged u.refresh :=
  List.foldlRecOn (motive := fun v => u.Flagged v) u.kinds _ (.refl u) fun v hv kind _ =>
    hv.trans (v.flagged_setOwed kind true)

@[simp] theorem owed_refresh (u : UnitEntry) (kind : ContentKind) :
    u.refresh.owed kind = (decide (kind ∈ u.kinds) || u.owed kind) := by
  have hfold : ∀ (kinds : List ContentKind) (v : UnitEntry),
      (kinds.foldl (fun v kind => v.setOwed kind true) v).owed kind = (decide (kind ∈ kinds) || v.owed kind) := by
    intro kinds
    induction kinds with
    | nil => simp
    | cons x kinds ih =>
      intro v
      rw [List.foldl_cons, ih]
      by_cases hx : kind = x <;> simp [hx]
  exact hfold u.kinds u

/-! ## Content on its way -/

/-- Content of a kind is on its way to a unit: it is queued or owed. -/
def Link.Awaits (k : Link) (u : UnitEntry) (kind : ContentKind) : Prop :=
  k.holdsItem u.address kind ∨ u.owed kind = true

/-- What the queue holds for a unit and kind fits it, or is owed. -/
def Link.Current (fit : Nat → Content → Prop) (k : Link) (u : UnitEntry) (kind : ContentKind) : Prop :=
  ∀ c : Content, c.kind = kind → (⟨u.address, .content c⟩ : Item) ∈ k.queue → fit u.address c ∨ u.owed kind = true

/-- An entry of a link has become an entry of another: its owed flags differ at most, and what was on its way to it
still is. -/
def Link.Served (fit : Nat → Content → Prop) (k k' : Link) (u v : UnitEntry) : Prop :=
  u.Flagged v ∧ ∀ kind, (k.Awaits u kind → k'.Awaits v kind) ∧ (Link.Current fit k u kind → Link.Current fit k' v kind)

/-- LEVEL is on its way: it is queued or owed. -/
def Link.AwaitsLevel (k : Link) : Prop := k.levelOwed = true ∨ ∃ q ∈ k.queue, ∃ code, q.body = .level code

/-- One link leads to another by offers of fitting content: what was on its way still is. -/
structure Link.Serves (fit : Nat → Content → Prop) (k k' : Link) : Prop where
  control : k'.control = k.control
  units : List.Forall₂ (Link.Served fit k k') k.units k'.units
  level : k.AwaitsLevel → k'.AwaitsLevel

theorem Link.Served.refl (fit : Nat → Content → Prop) (k : Link) (u : UnitEntry) : Link.Served fit k k u u :=
  ⟨.refl u, fun _ => ⟨id, id⟩⟩

theorem Link.Serves.refl (fit : Nat → Content → Prop) (k : Link) : Link.Serves fit k k :=
  ⟨rfl, forall₂_self (.refl fit k) k.units, id⟩

theorem Link.Serves.trans {fit : Nat → Content → Prop} {k k' k'' : Link} (h : Link.Serves fit k k')
    (h' : Link.Serves fit k' k'') : Link.Serves fit k k'' := by
  refine ⟨h'.control.trans h.control, forall₂_trans (fun u v w huv hvw => ?_) h.units h'.units,
    fun x => h'.level (h.level x)⟩
  obtain ⟨hflag, hkeep⟩ := huv
  obtain ⟨hflag', hkeep'⟩ := hvw
  exact ⟨hflag.trans hflag', fun kind => ⟨fun x => (hkeep' kind).1 ((hkeep kind).1 x),
    fun x => (hkeep' kind).2 ((hkeep kind).2 x)⟩⟩

theorem Link.of_control {k k' : Link} (h : k'.control = k.control) : k'.state = k.state ∧
    k'.transaction = k.transaction ∧ k'.nextAddress = k.nextAddress ∧ k'.reenumerate = k.reenumerate ∧
    k'.wakePosition = k.wakePosition :=
  ⟨(congrArg Link.state h :), (congrArg Link.transaction h :), (congrArg Link.nextAddress h :),
    (congrArg Link.reenumerate h :), (congrArg Link.wakePosition h :)⟩

/-! ## Keys -/

/-- An item of a unit's content kind has the key of any other. -/
theorem sameKey_content {q : Item} {a : Nat} {c : Content} (h : q.sameKey ⟨a, .content c⟩ = true) :
    ∃ d, q = ⟨a, .content d⟩ ∧ d.kind = c.kind := by
  obtain ⟨b, body⟩ := q
  simp only [Item.sameKey_iff] at h
  grind

theorem sameKey_of_kind {a : Nat} {c d : Content} (h : c.kind = d.kind) :
    Item.sameKey ⟨a, .content c⟩ ⟨a, .content d⟩ = true := by simp [Item.sameKey, h]

/-! ## An offer -/

/-- A queue into which an item was taken: of its key it holds the item alone, and what it holds of any other key stands
(R113 cases 5 and 8). -/
structure Item.Joins (it : Item) (q r : List Item) : Prop where
  mem : it ∈ r
  alone : ∀ p ∈ r, p.sameKey it = true → p = it
  other : ∀ p : Item, p.sameKey it = false → (p ∈ r ↔ p ∈ q)
  length : r.length ≤ q.length + 1

/-- A link with an item taken into its queue: what it owed of its key is paid. -/
def Link.took (k : Link) (it : Item) (r : List Item) : Link := ({ k with queue := r } : Link).pay it

/-- What an offer makes of a link: nothing, where the link takes nothing or a PROBE is discarded; the item owed, at a
queue of 32 items with the overflow latch set; or the item taken (R113). -/
inductive Link.Offered (it : Item) (k : Link) : Link → Prop
  | left (h : k.state = .off ∨ it.body = .probe ∨ (∃ c, it.body = .content c) ∧ k.unit it.address = none) :
      Link.Offered it k k
  | owed : Link.Offered it k (k.owe it)
  | overflowed (h : it.body ≠ .probe) : Link.Offered it k { k.owe it with overflow := true }
  | taken {r : List Item} (h : it.Joins k.queue r) : Link.Offered it k (k.took it r)

@[simp] theorem owe_queue (k : Link) (it : Item) : (k.owe it).queue = k.queue := by
  unfold Link.owe
  split <;> rfl

@[simp] theorem took_queue (k : Link) (it : Item) (r : List Item) : (k.took it r).queue = r := by
  unfold Link.took Link.pay
  split <;> rfl

/-- An item in place of the one of its key (R113 case 5). -/
theorem Item.joins_replace {it : Item} {q : List Item} (h : q.any (fun p => p.sameKey it) = true) :
    it.Joins q (q.map fun p => if Item.sameKey p it then it else p) := by
  obtain ⟨p, hp, hkey⟩ := List.any_eq_true.mp h
  refine ⟨List.mem_map.mpr ⟨p, hp, by simp [hkey]⟩, fun q hq hsame => ?_, fun q hsame => ?_, by simp⟩
  · obtain ⟨r, _, rfl⟩ := List.mem_map.mp hq
    by_cases hr : r.sameKey it = true
    · simp [hr]
    · simp [hr] at hsame
  · rw [List.mem_map]
    constructor
    · rintro ⟨r, hr, rfl⟩
      split at hsame
      · simp [Item.sameKey_refl] at hsame
      · rename_i hne
        simpa [hne] using hr
    · exact fun hq => ⟨q, hq, by simp [hsame]⟩

/-- An item at the tail of a queue that lacks its key (R113 case 8). -/
theorem Item.joins_append {it : Item} {q : List Item} (h : q.any (fun p => p.sameKey it) = false) :
    it.Joins q (q ++ [it]) := by
  have hnone := List.any_eq_false.mp h
  refine ⟨by simp, fun p hp hsame => ?_, fun p hsame => ?_, by simp⟩
  · rw [List.mem_append, List.mem_singleton] at hp
    exact hp.resolve_left fun hp => hnone p hp hsame
  · have hne : p ≠ it := by
      rintro rfl
      simp [Item.sameKey_refl] at hsame
    simp [hne]

theorem Link.offered_overflows (k : Link) (it : Item) : Link.Offered it k (k.overflows it) := by
  unfold Link.overflows
  split
  · rename_i hprobe
    exact .left (.inr (.inl hprobe))
  · rename_i hne
    exact .overflowed hne

theorem Link.offered_enqueue (k : Link) (nearFull : Nat) (it : Item) : Link.Offered it k (k.enqueue nearFull it) := by
  unfold Link.enqueue
  split
  · rename_i hqueued
    exact .taken (Item.joins_replace hqueued)
  · rename_i hqueued
    split
    · exact k.offered_overflows it
    · split
      · exact .owed
      · exact .taken (Item.joins_append (Bool.eq_false_iff.mpr hqueued))

theorem Link.offered_offer (k : Link) (nearFull : Nat) (it : Item) : Link.Offered it k (k.offer nearFull it) := by
  have henqueue := k.offered_enqueue nearFull it
  unfold Link.offer
  split
  · rename_i hoff
    exact .left (.inl hoff)
  · split
    · split; exacts [.owed, henqueue]
    · rename_i hlevel
      split
      · rename_i hnone
        refine .left (.inr ?_)
        cases hbody : it.body with
        | content c => exact .inr ⟨⟨c, rfl⟩, hnone⟩
        | level c => exact absurd hbody (hlevel c)
        | probe => exact .inl rfl
      · split
        · exact .owed
        · split
          · exact .owed
          · split; exacts [.owed, henqueue]

/-! ## Offers serve -/

theorem forall₂_mapUnit {R : UnitEntry → UnitEntry → Prop} (k : Link) (a : Nat) (f : UnitEntry → UnitEntry)
    (hself : ∀ u ∈ k.units, u.address = a → R u (f u)) (hother : ∀ u ∈ k.units, u.address ≠ a → R u u) :
    List.Forall₂ R k.units (k.mapUnit a f).units := by
  refine forall₂_map_self fun u hu => ?_
  by_cases ha : u.address = a
  · simpa [ha] using hself u hu ha
  · simpa [ha] using hother u hu ha

/-- An entry is served where, for each kind, the queue holds of it what it held and it is owed where it was, or one
fitting content alone is queued. -/
theorem Link.served_of_kinds {fit : Nat → Content → Prop} {k k' : Link} {u v : UnitEntry} (hflag : u.Flagged v)
    (h : ∀ kind, ((∀ c : Content, c.kind = kind →
        ((⟨u.address, .content c⟩ : Item) ∈ k'.queue ↔ (⟨u.address, .content c⟩ : Item) ∈ k.queue)) ∧
        (u.owed kind = true → v.owed kind = true)) ∨
      ∃ c : Content, c.kind = kind ∧ fit u.address c ∧ (⟨u.address, .content c⟩ : Item) ∈ k'.queue ∧
        ∀ d : Content, d.kind = kind → (⟨u.address, .content d⟩ : Item) ∈ k'.queue → d = c) :
    Link.Served fit k k' u v := by
  refine ⟨hflag, fun kind => ?_⟩
  unfold Link.Awaits Link.Current Link.holdsItem
  rw [hflag.address]
  rcases h kind with ⟨hqueue, howed⟩ | ⟨c, hc, hfit, hmem, halone⟩
  · refine ⟨Or.imp (fun ⟨c, hc, hq⟩ => ⟨c, hc, (hqueue c hc).mpr hq⟩) howed, fun hcur d hd hq => ?_⟩
    exact (hcur d hd ((hqueue d hd).mp hq)).imp_right howed
  · refine ⟨fun _ => .inl ⟨c, hc, hmem⟩, fun _ d hd hq => .inl ?_⟩
    rwa [halone d hd hq]

/-- A link with the table and the queue of another. -/
theorem Link.serves_of_eq {fit : Nat → Content → Prop} {k k' : Link} (hcontrol : k'.control = k.control)
    (hunits : k'.units = k.units) (hqueue : k'.queue = k.queue) (hlevel : k.levelOwed = true → k'.levelOwed = true) :
    Link.Serves fit k k' := by
  have hself : List.Forall₂ (Link.Served fit k k') k.units k.units :=
    forall₂_self (fun u => Link.served_of_kinds (.refl u) fun kind => .inl ⟨fun c _ => by rw [hqueue], id⟩) k.units
  exact ⟨hcontrol, hunits ▸ hself, Or.imp hlevel (hqueue ▸ id)⟩

/-- An item owed (R114). -/
theorem Link.serves_owe {fit : Nat → Content → Prop} (k : Link) (it : Item) : Link.Serves fit k (k.owe it) := by
  have hcontrol := owe_control k it
  obtain ⟨a, body⟩ := it
  cases body with
  | content c =>
    refine ⟨hcontrol, forall₂_mapUnit k a _ (fun u _ _ => ?_) fun u _ _ => ?_, id⟩
    · refine Link.served_of_kinds (u.flagged_setOwed c.kind true) fun kind => .inl ⟨fun d _ => .rfl, fun h => ?_⟩
      rw [owed_setOwed]
      split
      · rfl
      · exact h
    · exact Link.served_of_kinds (.refl u) fun kind => .inl ⟨fun d _ => .rfl, id⟩
  | level code => exact Link.serves_of_eq hcontrol rfl rfl fun _ => rfl
  | probe => exact .refl fit k

theorem took_control (k : Link) (it : Item) (r : List Item) : (k.took it r).control = k.control := pay_control _ it

/-- Fitting content taken into the queue. -/
theorem Link.serves_took {fit : Nat → Content → Prop} {it : Item} {k : Link} {r : List Item} (h : it.Joins k.queue r)
    (hfit : ∀ c, it.body = .content c → fit it.address c) : Link.Serves fit k (k.took it r) := by
  have hother (u : UnitEntry) (hkey : ∀ c : Content, Item.sameKey ⟨u.address, .content c⟩ it = false) :
      Link.Served fit k (k.took it r) u u :=
    Link.served_of_kinds (.refl u) fun kind => .inl ⟨fun c _ => by rw [took_queue, h.other _ (hkey c)], id⟩
  have hstays (q : Item) (code : Byte) (hq : q ∈ k.queue) (hcode : q.body = .level code)
      (hbody : ∀ x, it.body ≠ .level x) : q ∈ r := by
    refine (h.other q ?_).mpr hq
    obtain ⟨a, body⟩ := it
    cases body <;> simp_all [Item.sameKey]
  refine ⟨took_control k it r, ?_, ?_⟩
  · obtain ⟨a, body⟩ := it
    cases body with
    | content c =>
      refine forall₂_mapUnit { k with queue := r } a _ (fun u _ ha => ?_) fun u _ ha => ?_
      · refine Link.served_of_kinds (u.flagged_setOwed c.kind false) fun kind => ?_
        by_cases hkind : kind = c.kind
        · refine .inr ⟨c, hkind.symm, ha ▸ hfit c rfl, by simpa [ha] using h.mem, fun d hd hq => ?_⟩
          rw [took_queue] at hq
          simpa using congrArg Item.body (h.alone _ hq (ha ▸ sameKey_of_kind (hd.trans hkind)))
        · refine .inl ⟨fun d hd => ?_, fun howed => by simpa [hkind] using howed⟩
          rw [took_queue]
          exact h.other _ (by simp [Item.sameKey, hd, hkind])
      · exact hother u fun d => by simp [Item.sameKey, ha]
    | level code => exact forall₂_self (fun u => hother u fun d => by simp [Item.sameKey]) k.units
    | probe => exact forall₂_self (fun u => hother u fun d => by simp [Item.sameKey]) k.units
  · unfold Link.AwaitsLevel
    rw [took_queue]
    cases hbody : it.body with
    | level code => exact fun _ => .inr ⟨it, h.mem, code, hbody⟩
    | content c =>
      refine Or.imp (fun howed => ?_) fun ⟨q, hq, code, hcode⟩ => ⟨q, hstays q code hq hcode (by simp [hbody]), code, hcode⟩
      simpa [Link.took, Link.pay, hbody, Link.mapUnit] using howed
    | probe =>
      refine Or.imp (fun howed => ?_) fun ⟨q, hq, code, hcode⟩ => ⟨q, hstays q code hq hcode (by simp [hbody]), code, hcode⟩
      simpa [Link.took, Link.pay, hbody] using howed

/-- An offer of fitting content, of LEVEL or of a PROBE. -/
theorem Link.Offered.serves {fit : Nat → Content → Prop} {it : Item} {k k' : Link} (h : Link.Offered it k k')
    (hfit : ∀ c, it.body = .content c → fit it.address c) : Link.Serves fit k k' := by
  cases h with
  | left => exact .refl fit k
  | owed => exact k.serves_owe it
  | overflowed => exact (k.serves_owe it).trans (Link.serves_of_eq rfl rfl rfl id)
  | taken h => exact Link.serves_took h hfit

theorem Link.serves_offer {fit : Nat → Content → Prop} (k : Link) (nearFull : Nat) {it : Item}
    (hfit : ∀ c, it.body = .content c → fit it.address c) : Link.Serves fit k (k.offer nearFull it) :=
  (k.offered_offer nearFull it).serves hfit

/-! ## Sweeps serve -/

/-- The targets of a supply fit the units of a link, whatever is owed to them. -/
def Supply.Fits (fit : Nat → Content → Prop) (sup : Supply) (k : Link) : Prop :=
  ∀ u ∈ k.units, ∀ v, u.Flagged v → ∀ kind, fit u.address (sup.target v kind)

theorem Supply.Fits.served {fit : Nat → Content → Prop} {sup : Supply} {k k' : Link} (h : sup.Fits fit k)
    (hk : Link.Serves fit k k') : sup.Fits fit k' := by
  intro v hv w hw kind
  obtain ⟨u, hu, hflag, _⟩ := exists_of_forall₂ hk.units hv
  rw [hflag.address]
  exact h u hu w (hflag.trans hw) kind

theorem Link.unit_mem {k : Link} {a : Nat} {u : UnitEntry} (h : k.unit a = some u) : u ∈ k.units ∧ u.address = a :=
  ⟨List.mem_of_find?_eq_some h, by simpa using List.find?_some h⟩

/-- A unit's own target offered to it. -/
theorem Link.serves_offer_target {fit : Nat → Content → Prop} {sup : Supply} {k : Link} (h : sup.Fits fit k) {a : Nat}
    {u : UnitEntry} (hu : k.unit a = some u) (nearFull : Nat) (kind : ContentKind) :
    Link.Serves fit k (k.offer nearFull ⟨a, .content (sup.target u kind)⟩) := by
  obtain ⟨hmem, rfl⟩ := Link.unit_mem hu
  refine k.serves_offer nearFull fun c hc => ?_
  obtain rfl : sup.target u kind = c := by simpa using hc
  exact h u hmem u (.refl u) kind

theorem Link.serves_sweepOne {fit : Nat → Content → Prop} {sup : Supply} {k : Link} (h : sup.Fits fit k)
    (x : Nat × ContentKind) : Link.Serves fit k (Link.sweepOne sup k x) := by
  unfold Link.sweepOne
  split
  · exact .refl fit k
  · rename_i u hu
    split
    · exact (Link.serves_offer_target h hu sup.nearFull x.2).trans (Link.serves_of_eq rfl rfl rfl id)
    · exact .refl fit k

theorem Link.serves_payOwed {fit : Nat → Content → Prop} {sup : Supply} {k : Link} (h : sup.Fits fit k) (a : Nat)
    (kind : ContentKind) : Link.Serves fit k (Link.payOwed sup a k kind) := by
  unfold Link.payOwed
  split
  · exact .refl fit k
  · rename_i u hu
    split
    · exact Link.serves_offer_target h hu sup.nearFull kind
    · exact .refl fit k

/-- Acts of which each serves where the supply fits, one after the other. -/
theorem Link.serves_foldl {α : Type} {fit : Nat → Content → Prop} {sup : Supply} {f : Link → α → Link}
    (hf : ∀ (k : Link) x, sup.Fits fit k → Link.Serves fit k (f k x)) (xs : List α) {k : Link} (h : sup.Fits fit k) :
    Link.Serves fit k (xs.foldl f k) :=
  List.foldlRecOn (motive := Link.Serves fit k) xs f (.refl fit k) fun _ hk x _ => hk.trans (hf _ x (h.served hk))

theorem Link.serves_sweep {fit : Nat → Content → Prop} {sup : Supply} {k : Link} (h : sup.Fits fit k) :
    Link.Serves fit k (k.sweep sup) := by
  have hlevel : Link.Serves fit k (k.sweepLevel sup) := by
    unfold Link.sweepLevel
    split
    · exact k.serves_offer _ fun c hc => by simp [levelItem] at hc
    · exact .refl fit k
  unfold Link.sweep
  split
  · exact hlevel.trans (Link.serves_foldl (fun _ x hk => Link.serves_sweepOne hk x) _ (h.served hlevel))
  · exact .refl fit k

end Sys2Proof.Machine
end

section
/-! PROOFS. REFRESH owes or queues every content of every unit (R114, R115, R120). -/

namespace Sys2Proof.Machine

/-- A link that owes every content and LEVEL (R120). -/
def Link.refreshed (k : Link) : Link := { k with units := k.units.map UnitEntry.refresh, levelOwed := true }

theorem refreshLink_link (l : LinkId) (s : State) :
    (refreshLink l s).link l = (s.link l).refreshed.sweep ((onLink l Link.refreshed s).supply l) :=
  (sweepLink_self l _).trans (congrArg (Link.sweep _) (onLink_self l _ s))

theorem kinds_of_flagged {u v : UnitEntry} (h : u.Flagged v) : v.kinds = u.kinds := by
  obtain ⟨_, _, _, rfl⟩ := h
  rfl

theorem Link.sweep_of_down {k : Link} (h : k.state.up = false) (sup : Supply) : k.sweep sup = k :=
  if_neg (Bool.eq_false_iff.mp h)

/-- What a sweep leaves of a refreshed link: every content of every unit and LEVEL are on their way. -/
theorem Link.awaits_refreshed (k : Link) (sup : Supply) :
    (∀ v ∈ (k.refreshed.sweep sup).units, ∀ kind ∈ v.kinds, (k.refreshed.sweep sup).Awaits v kind) ∧
      (k.refreshed.sweep sup).AwaitsLevel := by
  have hserves : Link.Serves (fun _ _ => True) k.refreshed (k.refreshed.sweep sup) :=
    Link.serves_sweep fun _ _ _ _ _ => trivial
  refine ⟨fun v hv kind hkind => ?_, hserves.level (.inl rfl)⟩
  obtain ⟨u, hu, hflag, hkeep⟩ := exists_of_forall₂ hserves.units hv
  obtain ⟨w, _, rfl⟩ := List.mem_map.mp hu
  have hw : kind ∈ w.kinds := kinds_of_flagged (w.flagged_refresh.trans hflag) ▸ hkind
  exact (hkeep kind).1 (.inr (by simp [hw]))

theorem changesOnly_refreshLink (l : LinkId) (s : State) : ChangesOnly [.link l, .dirty] s (refreshLink l s) :=
  changesOnly_trans (changesOnly_onLink l _ s) (changesOnly_onLink l _ _)

theorem dirtyRises_refreshLink (l : LinkId) (s : State) : DirtyRises s (refreshLink l s) :=
  dirtyRises_trans (dirtyRises_onLink l _ s) (dirtyRises_onLink l _ _)

/-- Settles O26: the sweep pays no owed flag without queueing its content. -/
theorem refreshOwesEveryKind : Obligations.RefreshOwesEveryKind := by
  intro b v s l r a k hidle h hon
  have hanswered := changesOnly_answer (tagOf v) .refresh .done none a
  refine ⟨_, exec_refresh r k hidle, ?_⟩
  rw [judgeLinkRequest_done h hon]
  generalize hb : answer (tagOf v) .refresh .done none a = b' at hanswered ⊢
  have hframe := changesOnly_refreshLink l b'
  have hlink : b'.link l = a.link l := hanswered (.link l) (by simp)
  have hself := refreshLink_link l b'
  rw [hlink] at hself
  generalize (onLink l Link.refreshed b').supply l = sup at hself
  obtain ⟨hunits, hlevel⟩ := (a.link l).awaits_refreshed sup
  obtain ⟨hstate, htransaction, -⟩ := Link.of_control (sweep_control sup (a.link l).refreshed)
  have haddresses := (Link.carries_sweep sup (a.link l).refreshed).addresses
  rw [hself]
  refine ⟨?_, haddresses.trans (map_address refresh_address _), fun u hu kind hkind => ?_, hlevel, fun hdown => ?_,
    htransaction, hstate, ?_, ?_⟩
  · exact (hframe .request (by simp)).trans (hb ▸ answer_idle hidle v _ _)
  · exact (hunits u hu kind hkind).symm.imp_right fun ⟨c, hc, hq⟩ => ⟨_, hq, rfl, c, rfl, hc⟩
  · rw [Link.sweep_of_down (by simp [Link.refreshed, hdown, LinkState.up])]
    rfl
  · exact hb ▸ dirtyRises_trans (dirtyRises_answer _ _ _ _ _) (dirtyRises_refreshLink l _)
  · exact changesOnly_trans (changesOnly_mono (by simp) hanswered) (changesOnly_mono (by simp) hframe)

end Sys2Proof.Machine
end

section
/-! PROOFS. SET_LEVEL, REST and ROUSE end at their last word (R110, R132 to R134). -/

namespace Sys2Proof.Machine

/-! ## SET_LEVEL -/

/-- A change that LINK_x does not show marks no word. -/
theorem changesOnly_onLink_unshown {l : LinkId} {f : Link → Link} (h : ∀ k, (f k).shown = k.shown) (s : State) :
    ChangesOnly [.link l] s (onLink l f s) := by
  intro p hp
  cases p with
  | dirty => simp [Part.same, onLink, setLink, h, markStatusIf]
  | _ => simp_all [Part.same]

/-! ## REST -/

/-- The link as the last word of a REST leaves it (R132). -/
def Link.atRest (k : Link) : Link :=
  { k with
    state := .resting, restDue := false
    units := k.units.map fun u => if u.able && u.page.canRest then { u with state := .resting, rested := true } else u }

theorem rested_link (l : LinkId) (s : State) : (rested l s).link l =
    { (s.link l).atRest with rouseDue := s.route.consist.inService || (s.link l).rouseDue } := by
  simp [rested, Link.atRest]

theorem changesOnly_rested (l : LinkId) (s : State) : ChangesOnly [.link l, .dirty] s (rested l s) := by
  intro p hp; cases p <;> simp_all [Part.same]

theorem isDirty_setLinkUnits {l : LinkId} {k : Link} {s : State} (h : k.state ≠ (s.link l).state) :
    (setLinkUnits l k s).isDirty (.status l.word) = true := by
  have hshown : k.shown ≠ (s.link l).shown := fun heq => h (congrArg Prod.fst heq :)
  exact dirtyRises_markMany _ _ _ (isDirty_markStatusIf (by simpa using hshown) l.word _)

theorem isDirty_rested {l : LinkId} {s : State} (h : (s.link l).state ≠ .resting) :
    (rested l s).isDirty (.status l.word) = true :=
  dirtyRises_onLink l _ _ _ (isDirty_setLinkUnits h.symm)

/-! ## ROUSE -/

/-- The link as the last word of a ROUSE leaves it, before the first unit is probed (R132). -/
def Link.rousing (k : Link) (expiry : Time) : Link :=
  { k with rouseDue := false, state := .rousing, wakeExpiry := some expiry, wakePosition := k.nextRested none }

theorem roused_eq (l : LinkId) (s : State) :
    ∃ t, roused l s = finishRousing l t ∧ t.link l = (s.link l).rousing (s.timebase + ms s.items.wakeTime) := by
  refine ⟨_, rfl, ?_⟩
  simp [advanceWake, Link.rousing, Link.nextRested]

/-- The link as the end of a rousing leaves it, before its sweep (R134). -/
def Link.awake (k : Link) : Link :=
  { k with state := .running, wakeExpiry := none, wakePosition := none, levelOwed := true }

/-- A rousing goes on while a rested unit is left to probe (R133). -/
theorem finishRousing_waits {l : LinkId} {s : State} {a : Nat} (h : (s.link l).nextRested none = some a) :
    finishRousing l s = s := if_neg (by simp [h])

/-- A rousing that leaves no rested unit ends (R134). -/
theorem finishRousing_ends {l : LinkId} {s : State} (hstate : (s.link l).state = .rousing)
    (h : (s.link l).nextRested none = none) :
    finishRousing l s = judgeQuiet l (sweepLink l (onLink l Link.awake s)) := if_pos ⟨hstate, h⟩

/-- A quiet delay judged changes nothing of a link but its quiet delay. -/
theorem judgeQuiet_link (l : LinkId) (s : State) :
    ∃ delay, (judgeQuiet l s).link l = { s.link l with quietDelay := delay } := by
  rw [judgeQuiet_self]
  split
  · exact ⟨_, rfl⟩
  · exact ⟨(s.link l).quietDelay, rfl⟩

theorem finishRousing_running {l : LinkId} {s : State} (hstate : (s.link l).state = .rousing)
    (h : (s.link l).nextRested none = none) : ((finishRousing l s).link l).state = .running ∧
      ((finishRousing l s).link l).wakeExpiry = none ∧ ((finishRousing l s).link l).wakePosition = none ∧
      ((finishRousing l s).link l).rouseDue = (s.link l).rouseDue := by
  have hswept := onLink_control (sweep_control ((onLink l Link.awake s).supply l)) l (onLink l Link.awake s) l
  rw [onLink_self l Link.awake s] at hswept
  obtain ⟨delay, hdelay⟩ := judgeQuiet_link l (sweepLink l (onLink l Link.awake s))
  rw [finishRousing_ends hstate h, hdelay]
  exact ⟨(congrArg Link.state hswept :), (congrArg Link.wakeExpiry hswept :), (congrArg Link.wakePosition hswept :),
    (congrArg Link.rouseDue hswept :)⟩

theorem nextRested_none (k : Link) :
    k.nextRested none = (k.units.find? fun u => u.rested).map UnitEntry.address := by simp [Link.nextRested]

theorem nextRested_congr {k k' : Link} (h : k'.units = k.units) (x : Option Nat) : k'.nextRested x = k.nextRested x := by
  rw [Link.nextRested, h, Link.nextRested]

theorem rouseDue_roused (l : LinkId) (s : State) : ((roused l s).link l).rouseDue = false := by
  obtain ⟨t, ht, hlink⟩ := roused_eq l s
  rw [ht]
  rcases hnext : (t.link l).nextRested none with _ | a
  · obtain ⟨-, -, -, hdue⟩ := finishRousing_running (by simp [hlink, Link.rousing]) hnext
    simp [hdue, hlink, Link.rousing]
  · simp [finishRousing_waits hnext, hlink, Link.rousing]

/-- A link with a rested unit is ROUSING at the first one. -/
theorem roused_waits {l : LinkId} {s : State} {u : UnitEntry} (h : (s.link l).units.find? (fun u => u.rested) = some u) :
    (roused l s).link l = { s.link l with
      rouseDue := false, state := .rousing, wakeExpiry := some (s.timebase + ms s.items.wakeTime)
      wakePosition := some u.address } := by
  obtain ⟨t, ht, hlink⟩ := roused_eq l s
  have hfirst : (s.link l).nextRested none = some u.address := by simp [nextRested_none, h]
  have hnext : (t.link l).nextRested none = some u.address := (nextRested_congr (by rw [hlink]; rfl) none).trans hfirst
  rw [ht, finishRousing_waits hnext, hlink, Link.rousing, hfirst]

/-- A link without rested units is RUNNING again. -/
theorem roused_ends {l : LinkId} {s : State} (h : ∀ u ∈ (s.link l).units, u.rested = false) :
    ((roused l s).link l).state = .running ∧ ((roused l s).link l).wakeExpiry = none ∧
      ((roused l s).link l).wakePosition = none := by
  obtain ⟨t, ht, hlink⟩ := roused_eq l s
  have hnone : (t.link l).nextRested none = none := by
    rw [nextRested_congr (k := s.link l) (by rw [hlink]; rfl), nextRested_none,
      List.find?_eq_none.mpr fun u hu => by simp [h u hu]]
    rfl
  obtain ⟨hstate, hexpiry, hposition, -⟩ := finishRousing_running (by simp [hlink, Link.rousing]) hnone
  rw [ht]
  exact ⟨hstate, hexpiry, hposition⟩

theorem changesOnly_roused (l : LinkId) (s : State) : ChangesOnly [.link l, .dirty] s (roused l s) := by
  intro p hp; cases p <;> simp_all [Part.same]

/-! ## The obligation -/

theorem idled_consist (l : LinkId) (s : State) : (idled l s).route.consist = s.route.consist := by simp [idled]

theorem able_iff (u : UnitEntry) : u.able = true ↔ u.state = .active ∨ u.state = .suspect := by
  simp [UnitEntry.able]

/-- Settles O51: each last word is handed to its handler on the idled link. -/
theorem broadcastsActAtTheirLastWord : Obligations.BroadcastsActAtTheirLastWord := by
  intro s l x r k hx hn entry
  have hidled := changesOnly_idled l s
  have hlink : (idled l s).link l = { entry with transaction := none } := idled_link l s
  obtain ⟨-, hitems, htime, -⟩ := idled_keeps l s
  refine ⟨fun a code hp => ?_, fun hp => ?_, fun hp => ?_⟩
  · refine ⟨_, exec_replied k r hx hn rfl (by simp only [hp]; rfl), ?_, ?_⟩
    · exact changesOnly_trans hidled (changesOnly_onLink_unshown (fun _ => by rfl) _)
    · rw [onLink_self, hlink]
  · refine ⟨_, exec_replied k r hx hn rfl (by simp only [hp]; rfl), ?_, ?_, fun hstate => ?_⟩
    · exact changesOnly_trans (changesOnly_mono (by simp) hidled) (changesOnly_rested l _)
    · rw [rested_link, hlink, idled_consist, Link.atRest]
      simp only [Bool.and_eq_true, able_iff]
    · exact isDirty_rested (by rw [hlink]; exact hstate)
  · refine ⟨_, exec_replied k r hx hn rfl (by simp only [hp]), ?_, rouseDue_roused l _, fun u hu => ?_, fun hnone => ?_⟩
    · exact changesOnly_trans (changesOnly_mono (by simp) hidled) (changesOnly_roused l _)
    · rw [roused_waits (u := u) (by rw [hlink]; exact hu), hlink, hitems, htime]
      rfl
    · exact roused_ends (by rw [hlink]; exact hnone)

end Sys2Proof.Machine
end

section
/-! PROOFS. Replies to the items of the queue act on the unit and the queue (R113, R117 to R119, R121). -/

namespace Sys2Proof.Machine

/-! ## A unit answered -/

theorem acknowledge_eq (u : UnitEntry) (c : Content) : u.acknowledge c =
    { u with
      ackSeat := if c.kind = .seat then some c else u.ackSeat
      ackStrip := if c.kind = .strip then some c else u.ackStrip
      ackHeadline := if c.kind = .headline then some c else u.ackHeadline } := by
  cases h : c.kind <;> simp [UnitEntry.acknowledge, h]

theorem beginHold_eq (u : UnitEntry) (now : Time) (seconds : Nat) : u.beginHold now seconds =
    { u with hold := if u.page.technology = 2 ∧ 0 < seconds then some (now + ms (seconds * 1000)) else u.hold } := by
  unfold UnitEntry.beginHold
  split <;> rfl

theorem showOk_link (l : LinkId) (a : Nat) (c : Content) (s : State) : (showOk l a c s).link l =
    (s.link l).mapUnit a fun u =>
      ((u.acknowledge c).answered.succeed s.timebase s.items.probeInterval).beginHold s.timebase s.items.ePaperHold :=
  updateUnit_self l a _ s

theorem changesOnly_updateUnit (l : LinkId) (a : Nat) (f : UnitEntry → UnitEntry) (s : State) :
    ChangesOnly [.link l, .dirty] s (updateUnit l a f s) := by
  intro p hp; cases p <;> simp_all [Part.same]

/-! ## An item given back -/

theorem giveBack_newer {k : Link} {it : Item} (h : k.queued it = true) : k.giveBack it = k := if_pos h

theorem giveBack_appended {k : Link} {it : Item} (h : k.queued it = false) (hroom : k.queue.length < 32) :
    k.giveBack it = { k with queue := k.queue ++ [it] } :=
  (if_neg (Bool.eq_false_iff.mp h)).trans (if_pos hroom)

theorem giveBack_full {k : Link} {it : Item} (h : k.queued it = false) (hfull : 32 ≤ k.queue.length) :
    k.giveBack it = k.overflows it :=
  (if_neg (Bool.eq_false_iff.mp h)).trans (if_neg (Nat.not_lt.mpr hfull))

/-- Content given back: discarded for a newer one, at the tail, or owed at a queue of 32 items (R113, R117, R121). -/
theorem giveBack_content (k : Link) (a : Nat) (c : Content) :
    let it : Item := ⟨a, .content c⟩
    (k.giveBack it).transaction = k.transaction ∧
    (k.giveBack it).queue =
      (if k.queued it = false ∧ k.queue.length < 32 then k.queue ++ [it] else k.queue) ∧
    (k.queued it = true ∨ k.queue.length < 32 →
      (k.giveBack it).overflow = k.overflow ∧ (k.giveBack it).units = k.units) ∧
    (k.queued it = false → 32 ≤ k.queue.length → (k.giveBack it).overflow = true ∧
      (k.giveBack it).units = (k.mapUnit a fun u => u.setOwed c.kind true).units) := by
  intro it
  rcases h : k.queued it with _ | _
  · by_cases hroom : k.queue.length < 32
    · rw [giveBack_appended h hroom]
      simp [hroom]
    · rw [giveBack_full h (Nat.le_of_not_lt hroom)]
      simp [hroom, Link.overflows, Link.owe, Link.mapUnit, it]
  · rw [giveBack_newer h]
    simp

/-! ## The obligation -/

theorem changesOnly_showBusy (l : LinkId) (it : Item) (s : State) : ChangesOnly [.link l, .dirty] s (showBusy l it s) :=
  changesOnly_trans (changesOnly_updateUnit l _ _ s) (changesOnly_onLink l _ _)

section
variable {s : State} {l : LinkId} {x : Transaction} {a : Nat}

theorem exec_showOk (k : s.items.softReset = false) (r : s.bus.resetAsserted = false)
    (hx : (s.link l).transaction = some x) (hn : (s.link l).reenumerate = false) {c : Content}
    (hp : x.purpose = .item ⟨a, .content c⟩) : exec (.showOk l) s = .next (showOk l a c (idled l s)) :=
  exec_replied k r hx hn rfl (by simp only [hp])

theorem exec_showBusy (k : s.items.softReset = false) (r : s.bus.resetAsserted = false)
    (hx : (s.link l).transaction = some x) (hn : (s.link l).reenumerate = false) {c : Content}
    (hp : x.purpose = .item ⟨a, .content c⟩) :
    exec (.showBusy l) s = .next (showBusy l ⟨a, .content c⟩ (idled l s)) :=
  exec_replied k r hx hn rfl (by simp only [hp])

theorem exec_probeReply (k : s.items.softReset = false) (r : s.bus.resetAsserted = false)
    (hx : (s.link l).transaction = some x) (hn : (s.link l).reenumerate = false)
    (hp : x.purpose = .item ⟨a, .probe⟩) (busy : Bool) :
    exec (.probeReply l busy) s = .next ((if busy then probeBusy l a else probeOk l a) (idled l s)) :=
  exec_replied k r hx hn rfl (by simp only [hp])

end

/-- Settles O52: each reply is handed to its handler on the idled link. -/
theorem repliesToItemsAct : Obligations.RepliesToItemsAct := by
  intro s l x a r k hx hn entry deadline calm
  have hidled : ChangesOnly [.link l, .dirty] s.ready (idled l s) := changesOnly_mono (by simp) (changesOnly_idled l s)
  have hlink : (idled l s).link l = { entry with transaction := none } := idled_link l s
  obtain ⟨-, hitems, htime, -⟩ := idled_keeps l s
  refine ⟨fun c hp => ?_, ?_, fun busy hp => ?_⟩
  · refine ⟨_, exec_showOk k r hx hn hp, changesOnly_trans hidled (changesOnly_updateUnit l a _ _), ?_⟩
    rw [showOk_link, hlink, hitems, htime]
    simp only [beginHold_eq, acknowledge_eq, Link.mapUnit, beq_iff_eq]
    rfl
  · intro c hp newer
    have hself : (showBusy l ⟨a, .content c⟩ (idled l s)).link l = Link.giveBack
        (({ entry with transaction := none } : Link).mapUnit a fun u =>
          { u with lastSuccess := s.timebase, probeDeadline := deadline }) ⟨a, .content c⟩ := by
      rw [showBusy, onLink_self, updateUnit_self, hlink, hitems, htime]
      rfl
    refine ⟨_, exec_showBusy k r hx hn hp, changesOnly_trans hidled (changesOnly_showBusy l _ _), ?_⟩
    obtain ⟨hnone, hqueue, hroom, hfull⟩ := giveBack_content
      (({ entry with transaction := none } : Link).mapUnit a fun u =>
        { u with lastSuccess := s.timebase, probeDeadline := deadline }) a c
    rw [hself]
    refine ⟨hnone, hqueue, fun h => ?_, fun h hlength => ?_⟩
    · obtain ⟨hoverflow, hunits⟩ := hroom h
      exact ⟨hoverflow, hunits.trans (by simp only [Link.mapUnit, beq_iff_eq])⟩
    · obtain ⟨hoverflow, hunits⟩ := hfull h hlength
      refine ⟨hoverflow, hunits.trans ?_⟩
      simp only [Link.mapUnit, List.map_map, beq_iff_eq]
      refine List.map_congr_left fun u _ => ?_
      by_cases ha : u.address = a <;> simp [ha]
  · refine ⟨_, exec_probeReply k r hx hn hp busy, ?_, ?_⟩
    · cases busy <;> exact changesOnly_trans hidled (changesOnly_updateUnit l a _ _)
    · cases busy with
      | false =>
        rw [if_neg Bool.false_ne_true, probeOk, updateUnit_self, hlink, hitems, htime]
        simp only [Link.mapUnit, beq_iff_eq]
        rfl
      | true =>
        rw [if_pos rfl, probeBusy, updateUnit_self, hlink, hitems, htime]
        simp only [Link.mapUnit, beq_iff_eq]
        rfl

end Sys2Proof.Machine
end

section
/-! PROOFS. What an offer of one content does to its unit, and the owed contents paid at the end of a hold (R113, R118). -/

namespace Sys2Proof.Machine

/-! ## The unit at an address -/

theorem unit_mapUnit {f : UnitEntry → UnitEntry} (hf : ∀ u, (f u).address = u.address) {k : Link} {a : Nat}
    {u : UnitEntry} (hu : k.unit a = some u) : (k.mapUnit a f).unit a = some (f u) := by
  have hmap := forall₂_mapUnit (R := fun u v => v.address = u.address ∧ (u.address = a → v = f u)) k a f
    (fun u _ _ => ⟨hf u, fun _ => rfl⟩) (fun u _ hne => ⟨rfl, fun h => absurd h hne⟩)
  obtain ⟨v, hv, -, heq⟩ := find_of_forall₂ (fun _ _ h => h.1) hmap hu
  rw [← heq (Link.unit_mem hu).2]
  exact hv

/-! ## One content offered -/

/-- What an offer of content leaves of the unit it is for: its other kinds stand, in its flags and in the queue, and the
content is queued and paid, or owed, or the link is OFF and nothing has changed (R113). -/
structure Link.Answers (a : Nat) (c : Content) (k k' : Link) (u v : UnitEntry) : Prop where
  unit : k'.unit a = some v
  flagged : u.Flagged v
  flags : ∀ kind, kind ≠ c.kind → v.owed kind = u.owed kind
  other : ∀ q : Item, q.sameKey ⟨a, .content c⟩ = false → (q ∈ k'.queue ↔ q ∈ k.queue)
  length : k'.queue.length ≤ k.queue.length + 1
  outcome : (k.state = .off ∧ v = u) ∨ v.owed c.kind = true ∨ (⟨a, .content c⟩ : Item) ∈ k'.queue

/-- A link that owes content owes it to its unit. -/
theorem Link.answers_owe {a : Nat} {c : Content} {k k' : Link} {u : UnitEntry} (hu : k.unit a = some u)
    (hunits : k'.units = (k.owe ⟨a, .content c⟩).units) (hqueue : k'.queue = k.queue) :
    Link.Answers a c k k' u (u.setOwed c.kind true) := by
  have hself := unit_mapUnit (fun u => setOwed_address u c.kind true) hu
  refine ⟨?_, u.flagged_setOwed c.kind true, fun kind hne => by simp [hne], fun q _ => by rw [hqueue],
    by simp [hqueue], .inr (.inl (by simp))⟩
  rw [Link.unit, hunits]
  exact hself

/-- A unit whose content was taken is owed it no more. -/
theorem unit_took {a : Nat} {k : Link} {u : UnitEntry} (hu : k.unit a = some u) (c : Content) (r : List Item) :
    (k.took ⟨a, .content c⟩ r).unit a = some (u.setOwed c.kind false) :=
  unit_mapUnit (k := { k with queue := r }) (fun u => setOwed_address u c.kind false) hu

theorem Link.Offered.answers {a : Nat} {c : Content} {k k' : Link} (h : Link.Offered ⟨a, .content c⟩ k k')
    {u : UnitEntry} (hu : k.unit a = some u) : ∃ v, Link.Answers a c k k' u v := by
  cases h with
  | left h =>
    have hoff : k.state = .off := by simpa [hu] using h
    exact ⟨u, hu, .refl u, fun _ _ => rfl, fun _ _ => .rfl, Nat.le_succ _, .inl ⟨hoff, rfl⟩⟩
  | owed => exact ⟨_, Link.answers_owe hu rfl rfl⟩
  | overflowed => exact ⟨_, Link.answers_owe hu rfl rfl⟩
  | taken hjoins =>
    exact ⟨_, unit_took hu c _, u.flagged_setOwed c.kind false, fun kind hne => by simp [hne],
      fun q hq => by rw [took_queue, hjoins.other q hq], by rw [took_queue]; exact hjoins.length,
      .inr (.inr (by rw [took_queue]; exact hjoins.mem))⟩

/-- Content for a unit that can take it is queued and paid below the two bounds of the queue (R113). -/
theorem offer_taken {a : Nat} {c : Content} {k : Link} {u : UnitEntry} (hu : k.unit a = some u) (hup : k.state.up = true)
    (hable : u.able = true) (hhold : u.hold = none) {nearFull : Nat} (hnear : k.queue.length < nearFull)
    (hroom : k.queue.length < 32) : ∃ r, Item.Joins ⟨a, .content c⟩ k.queue r ∧
      k.offer nearFull ⟨a, .content c⟩ = k.took ⟨a, .content c⟩ r := by
  have hoff : k.state ≠ .off := by rintro h; simp [h, LinkState.up] at hup
  have hcalm : k.state ≠ .enumerating := by rintro h; simp [h, LinkState.up] at hup
  have hoffer : k.offer nearFull ⟨a, .content c⟩ = k.enqueue nearFull ⟨a, .content c⟩ := by
    simp [Link.offer, hu, hoff, hcalm, hable, UnitEntry.holds, hhold]
  rw [hoffer, Link.enqueue]
  split
  · rename_i hqueued
    exact ⟨_, Item.joins_replace hqueued, rfl⟩
  · rename_i hqueued
    rw [if_neg (Nat.not_le.mpr hroom), if_neg (Nat.not_le.mpr hnear)]
    exact ⟨_, Item.joins_append (Bool.eq_false_iff.mpr hqueued), rfl⟩

/-! ## Targets -/

theorem target_kind (s : State) (l : LinkId) (u : UnitEntry) (kind : ContentKind) :
    (target s l u kind).kind = kind := by
  cases kind with
  | seat => rfl
  | strip =>
    rw [target, stripTarget]
    split <;> rfl
  | headline =>
    rw [target, headlineTarget]
    dsimp only
    split <;> rfl

/-- The target of a unit draws on its address and its page. -/
theorem target_congr_unit {u v : UnitEntry} (ha : v.address = u.address) (hp : v.page = u.page) (s : State)
    (l : LinkId) (kind : ContentKind) : target s l v kind = target s l u kind := by
  cases kind <;> simp only [target, seatTarget, ha, hp]

/-- Two states show the same: what the targets draw on is the same in both (R107 to R109). -/
structure State.Shows (s t : State) : Prop where
  seats : t.res.seats = s.res.seats
  active : t.route.active = s.route.active
  consist : t.route.consist = s.route.consist
  approach : t.tracker.approach = s.tracker.approach
  delay : t.tracker.delay = s.tracker.delay
  estimated : t.filter.estimated = s.filter.estimated

theorem State.Shows.target_eq {s t : State} (h : s.Shows t) : target t = target s := by
  funext l u kind
  cases kind with
  | seat => simp only [target, seatTarget, h.seats]
  | strip => simp only [target, stripTarget, h.active, h.approach, h.delay, h.estimated]
  | headline => simp only [target, headlineTarget, h.active, h.approach, h.delay, h.estimated, h.consist]

/-- A supply gives each unit a target of the kind asked for, whatever is owed to it. -/
structure Supply.Sound (sup : Supply) : Prop where
  kind : ∀ u kind, (sup.target u kind).kind = kind
  flagged : ∀ u v kind, u.Flagged v → sup.target v kind = sup.target u kind

theorem supply_sound (s : State) (l : LinkId) : (s.supply l).Sound := by
  refine ⟨target_kind s l, fun u v kind h => ?_⟩
  obtain ⟨_, _, _, rfl⟩ := h
  exact target_congr_unit rfl rfl s l kind

/-! ## Owed contents paid one after the other -/

/-- Where the owed content of a kind stands in the queue when its turn comes: behind those of the kinds before it. -/
def UnitEntry.before (u : UnitEntry) (k : Link) (kinds : List ContentKind) (kind : ContentKind) : Nat :=
  k.queue.length + (kinds.takeWhile fun x => x ≠ kind).countP fun x => u.owed x

/-- What paying the owed contents of some kinds leaves of a unit: other kinds stand; an owed content is queued or still
owed, and it is queued where the unit can take it and the queue has room for it at its turn. -/
structure Link.Pays (sup : Supply) (a : Nat) (kinds : List ContentKind) (k k' : Link) (u v : UnitEntry) : Prop where
  control : k'.control = k.control
  unit : k'.unit a = some v
  flagged : u.Flagged v
  flags : ∀ kind ∉ kinds, v.owed kind = u.owed kind
  other : ∀ c : Content, c.kind ∉ kinds → (⟨a, .content c⟩ : Item) ∈ k.queue → (⟨a, .content c⟩ : Item) ∈ k'.queue
  length : k'.queue.length ≤ k.queue.length + kinds.countP fun x => u.owed x
  kept : ∀ kind ∈ kinds, u.owed kind = true →
    v.owed kind = true ∨ (⟨a, .content (sup.target u kind)⟩ : Item) ∈ k'.queue
  paid : k.state.up = true → u.able = true → u.hold = none → ∀ kind ∈ kinds, u.owed kind = true →
    u.before k kinds kind < sup.nearFull → u.before k kinds kind < 32 →
    v.owed kind = false ∧ (⟨a, .content (sup.target u kind)⟩ : Item) ∈ k'.queue

theorem payOwed_pays {sup : Supply} (hsup : sup.Sound) {k : Link} {a : Nat} {u : UnitEntry} (hu : k.unit a = some u)
    (kind : ContentKind) : ∃ v, Link.Pays sup a [kind] k (Link.payOwed sup a k kind) u v := by
  have hbefore : u.before k [kind] kind = k.queue.length := by simp [UnitEntry.before]
  rcases howed : u.owed kind with _ | _
  · have hstays : Link.payOwed sup a k kind = k := by simp [Link.payOwed, hu, howed]
    rw [hstays]
    refine ⟨u, rfl, hu, .refl u, fun _ _ => rfl, fun _ _ => id, by simp, ?_, ?_⟩ <;> simp +contextual [howed]
  · have hoffers : Link.payOwed sup a k kind = k.offer sup.nearFull ⟨a, .content (sup.target u kind)⟩ := by
      simp [Link.payOwed, hu, howed]
    rw [hoffers]
    obtain ⟨v, hv⟩ := (k.offered_offer sup.nearFull ⟨a, .content (sup.target u kind)⟩).answers hu
    have hkind := hsup.kind u kind
    refine ⟨v, offer_control k _ _, hv.unit, hv.flagged, fun other hne => ?_, fun c hc => ?_, ?_, fun x hx _ => ?_,
      fun hup hable hhold x hx _ hnear hroom => ?_⟩
    · exact hv.flags other (by simpa [hkind] using hne)
    · exact (hv.other _ (by simpa [Item.sameKey, hkind] using hc)).mpr
    · simpa [howed] using hv.length
    · obtain rfl := List.mem_singleton.mp hx
      rcases hv.outcome with ⟨-, rfl⟩ | h | h
      · exact .inl howed
      · exact .inl (hkind ▸ h)
      · exact .inr h
    · obtain rfl := List.mem_singleton.mp hx
      rw [hbefore] at hnear hroom
      obtain ⟨r, hjoins, htaken⟩ := offer_taken (c := sup.target u x) hu hup hable hhold hnear hroom
      have hunit := hv.unit
      rw [htaken] at hunit ⊢
      rw [unit_took hu] at hunit
      obtain rfl := Option.some.inj hunit
      exact ⟨by simp [hkind], by rw [took_queue]; exact hjoins.mem⟩

theorem able_of_flagged {u v : UnitEntry} (h : u.Flagged v) : v.able = u.able ∧ v.hold = u.hold := by
  obtain ⟨_, _, _, rfl⟩ := h
  exact ⟨rfl, rfl⟩

/-- A kind paid before others takes one place of the queue at most. -/
theorem before_cons {u v : UnitEntry} {k k' : Link} {x kind : ContentKind} {kinds : List ContentKind}
    (hne : kind ≠ x) (hflags : ∀ kind, kind ≠ x → v.owed kind = u.owed kind) (hx : x ∉ kinds)
    (hlength : k'.queue.length ≤ k.queue.length + [x].countP fun x => u.owed x) :
    v.before k' kinds kind ≤ u.before k (x :: kinds) kind := by
  have hcount : (kinds.takeWhile fun y => y ≠ kind).countP (fun y => v.owed y) =
      (kinds.takeWhile fun y => y ≠ kind).countP fun y => u.owed y := by
    refine List.countP_congr fun y hy => ?_
    have hmem := (List.takeWhile_subset _) hy
    rw [hflags y (by rintro rfl; exact hx hmem)]
  unfold UnitEntry.before
  rw [hcount, List.takeWhile_cons_of_pos (by simpa using hne.symm), List.countP_cons]
  simp only [List.countP_cons, List.countP_nil, Nat.zero_add] at hlength
  omega

theorem Link.Pays.cons {sup : Supply} (hsup : sup.Sound) {a : Nat} {x : ContentKind} {kinds : List ContentKind}
    (hx : x ∉ kinds) {k k' k'' : Link} {u v w : UnitEntry} (h : Link.Pays sup a [x] k k' u v)
    (h' : Link.Pays sup a kinds k' k'' v w) : Link.Pays sup a (x :: kinds) k k'' u w := by
  have hflags (kind : ContentKind) (hne : kind ≠ x) : v.owed kind = u.owed kind := h.flags kind (by simpa using hne)
  have htarget (kind : ContentKind) : sup.target v kind = sup.target u kind := hsup.flagged u v kind h.flagged
  have hstands : (⟨a, .content (sup.target u x)⟩ : Item) ∈ k'.queue → (⟨a, .content (sup.target u x)⟩ : Item) ∈ k''.queue :=
    h'.other _ (by rwa [hsup.kind])
  obtain ⟨hable, hhold⟩ := able_of_flagged h.flagged
  obtain ⟨hstate, -⟩ := Link.of_control h.control
  refine ⟨h'.control.trans h.control, h'.unit, h.flagged.trans h'.flagged, fun kind hkind => ?_, fun c hc hq => ?_, ?_,
    fun kind hkind howed => ?_, fun hup hu hfree kind hkind howed hnear hroom => ?_⟩
  · rw [List.mem_cons, not_or] at hkind
    rw [h'.flags kind hkind.2, hflags kind hkind.1]
  · rw [List.mem_cons, not_or] at hc
    exact h'.other c hc.2 (h.other c (by simpa using hc.1) hq)
  · have hcount : kinds.countP (fun y => v.owed y) = kinds.countP fun y => u.owed y :=
      List.countP_congr fun y hy => by rw [hflags y (by rintro rfl; exact hx hy)]
    have hfirst := h.length
    have hrest := h'.length
    rw [hcount] at hrest
    simp only [List.countP_cons, List.countP_nil, Nat.zero_add] at hfirst ⊢
    omega
  · by_cases hne : kind = x
    · subst hne
      rw [h'.flags kind hx]
      exact (h.kept kind (by simp) howed).imp_right hstands
    · have hmem : kind ∈ kinds := (List.mem_cons.mp hkind).resolve_left hne
      rw [← htarget]
      exact h'.kept kind hmem (by rwa [hflags kind hne])
  · by_cases hne : kind = x
    · subst hne
      have hbefore : u.before k [kind] kind = u.before k (kind :: kinds) kind := by simp [UnitEntry.before]
      obtain ⟨hpaid, hqueued⟩ := h.paid hup hu hfree kind (by simp) howed (hbefore ▸ hnear) (hbefore ▸ hroom)
      rw [h'.flags kind hx]
      exact ⟨hpaid, hstands hqueued⟩
    · have hmem : kind ∈ kinds := (List.mem_cons.mp hkind).resolve_left hne
      have hbefore := before_cons hne hflags hx h.length
      rw [← htarget]
      exact h'.paid (hstate ▸ hup) (hable ▸ hu) (hhold ▸ hfree) kind hmem (by rwa [hflags kind hne])
        (hbefore.trans_lt hnear) (hbefore.trans_lt hroom)

theorem foldl_payOwed_pays {sup : Supply} (hsup : sup.Sound) {a : Nat} {kinds : List ContentKind} (hkinds : kinds.Nodup)
    {k : Link} {u : UnitEntry} (hu : k.unit a = some u) :
    ∃ v, Link.Pays sup a kinds k (kinds.foldl (Link.payOwed sup a) k) u v := by
  induction kinds generalizing k u with
  | nil => exact ⟨u, rfl, hu, .refl u, by simp, by simp, by simp, by simp, by simp⟩
  | cons x kinds ih =>
    obtain ⟨hx, hkinds⟩ := List.nodup_cons.mp hkinds
    obtain ⟨v, hv⟩ := payOwed_pays hsup hu x
    obtain ⟨w, hw⟩ := ih hkinds hv.unit
    exact ⟨w, .cons hsup hx hv hw⟩

end Sys2Proof.Machine
end

section
/-! PROOFS. The deadlines of a unit, the quiet delay and the whole second act when they are reached (R118, R119, R128,
R131, R143). -/

namespace Sys2Proof.Machine

/-! ## A timer that expires -/

theorem changesOnly_atExpiry (s : State) (t : Time) : ChangesOnly [.timebase, .dirty] s.ready (s.atExpiry t) :=
  changesOnly_advanceTo t s.ready

theorem atExpiry_link (s : State) (t : Time) (l : LinkId) : (s.atExpiry t).link l = s.link l := by
  simp [State.atExpiry]

/-- What acts on one link at an expiry changes that link and the timebase. -/
theorem changesOnly_expired {l : LinkId} {s u : State} {t : Time}
    (h : ChangesOnly [.link l, .dirty] (s.atExpiry t) u) : ChangesOnly [.timebase, .link l, .dirty] s.ready u :=
  changesOnly_trans (changesOnly_mono (by simp) (changesOnly_atExpiry s t)) (changesOnly_mono (by simp) h)

/-- What acts on one link at an expiry leaves the timebase at the deadline. -/
theorem timebase_expired {l : LinkId} {s u : State} {t : Time}
    (h : ChangesOnly [.link l, .dirty] (s.atExpiry t) u) : u.timebase = s.reached t :=
  (h .timebase (by simp)).trans (atExpiry_keeps s t).2.2.2.2.2

/-- An event on the entry at an address acts on it once the port has chosen. -/
theorem onEvent_unit {s : State} {l : LinkId} {a : Nat} {u : UnitEntry} (f : UnitEntry → State → State)
    (h : s.items.softReset = false) (r : s.bus.resetAsserted = false) (hu : (s.link l).unit a = some u) :
    onEvent (onUnit l a f) s = f u s.ready := by
  rw [onEvent_run _ h r]
  simp [onUnit, hu]

/-! ## The probe deadline -/

/-- A PROBE that no item of its unit waits for is queued below the two bounds of the queue, and discarded otherwise
(R113, log 18). -/
theorem offer_probe {k : Link} {a : Nat} {u : UnitEntry} (hstate : k.state = .running) (hu : k.unit a = some u)
    (hable : u.able = true) (hnew : ∀ q ∈ k.queue, q.address ≠ a) (nearFull : Nat) :
    k.offer nearFull ⟨a, .probe⟩ = { k with
      queue := if k.queue.length < 32 ∧ k.queue.length < nearFull then k.queue ++ [⟨a, .probe⟩] else k.queue } := by
  have hqueued : k.queued ⟨a, .probe⟩ = false :=
    List.any_eq_false.mpr fun q hq => by simp [Item.sameKey, hnew q hq]
  have hoffer : k.offer nearFull ⟨a, .probe⟩ = k.enqueue nearFull ⟨a, .probe⟩ := by
    simp [Link.offer, hstate, hu, hable, UnitEntry.holds]
  rw [hoffer, Link.enqueue, hqueued, if_neg Bool.false_ne_true]
  split
  · rename_i hfull
    rw [if_neg fun h => Nat.not_le.mpr h.1 hfull]
    rfl
  · rename_i hroom
    split
    · rename_i hnear
      rw [if_neg fun h => Nat.not_le.mpr h.2 hnear]
      rfl
    · rename_i hfar
      rw [if_pos ⟨Nat.lt_of_not_le hroom, Nat.lt_of_not_le hfar⟩]
      rfl

/-- Something waits for a unit: an item of it is queued or in flight. -/
theorem waiting_iff (k : Link) (a : Nat) :
    (k.queue.any (fun q => q.address == a) || k.inFlight.any fun q => q.address == a) = false ↔
      (∀ q ∈ k.queue, q.address ≠ a) ∧ k.inFlight.all (fun it => it.address != a) = true := by
  rw [Bool.or_eq_false_iff, List.any_eq_false]
  cases k.inFlight <;> simp

theorem expireProbe_link {l : LinkId} {s : State} {u : UnitEntry} (hu : (s.link l).unit u.address = some u) :
    (expireProbe l u s).link l = { s.link l with
      units := (s.link l).units.map fun v => if v.address = u.address then
        { v with probeDeadline := u.probeDeadline + BitVec.ofNat 32 (s.items.probeInterval * 1000) } else v
      queue := if (s.link l).state = .running ∧ (u.state = .active ∨ u.state = .suspect) ∧
          (∀ q ∈ (s.link l).queue, q.address ≠ u.address) ∧
          (s.link l).inFlight.all (fun it => it.address != u.address) = true ∧
          (s.link l).queue.length < 32 ∧ (s.link l).queue.length < s.items.queueNearFull then
        (s.link l).queue ++ [⟨u.address, .probe⟩] else (s.link l).queue } := by
  have hlink : (advanceTo u.probeDeadline s).link l = s.link l := by simp
  have hitems : (advanceTo u.probeDeadline s).items = s.items := by simp
  have hwaiting := waiting_iff (s.link l) u.address
  rw [expireProbe, updateUnit_self, hlink, hitems]
  generalize ((s.link l).queue.any (fun q => q.address == u.address) ||
    (s.link l).inFlight.any fun q => q.address == u.address) = waiting at hwaiting
  have hoffers : ((s.link l).state = .running ∧ u.able ∧ !waiting) ↔ (s.link l).state = .running ∧
      (u.state = .active ∨ u.state = .suspect) ∧ (∀ q ∈ (s.link l).queue, q.address ≠ u.address) ∧
      (s.link l).inFlight.all (fun it => it.address != u.address) = true := by
    rw [← hwaiting, ← able_iff, Bool.not_eq_true']
  split
  · rename_i h
    obtain ⟨hstate, hactive, hnew, hidle⟩ := hoffers.mp h
    rw [onLink_self, hlink, offer_probe hstate hu ((able_iff u).mpr hactive) hnew]
    simp only [Link.mapUnit, beq_iff_eq]
    congr 1
    exact if_congr ⟨fun hroom => ⟨hstate, hactive, hnew, hidle, hroom⟩, fun ⟨_, _, _, _, hroom⟩ => hroom⟩ rfl rfl
  · rename_i h
    rw [if_neg fun ⟨hstate, hactive, hnew, hidle, _⟩ => h (hoffers.mpr ⟨hstate, hactive, hnew, hidle⟩), hlink]
    simp only [Link.mapUnit, beq_iff_eq]
    rfl

theorem changesOnly_expireProbe (l : LinkId) (u : UnitEntry) (s : State) :
    ChangesOnly [.link l, .dirty] (advanceTo u.probeDeadline s) (expireProbe l u s) := by
  refine changesOnly_trans ?_ (changesOnly_updateUnit l _ _ _)
  split
  · exact changesOnly_onLink l _ _
  · exact changesOnly_refl _ _

/-! ## The end of an e-paper hold -/

/-- A unit freed of its hold. -/
def UnitEntry.freed (u : UnitEntry) : UnitEntry := { u with hold := none }

/-- The end of a hold pays the unit what it is owed, where it can take it (R118). -/
theorem expireHold_link (l : LinkId) (a : Nat) (t : Time) (s : State) : ∃ sup : Supply, sup.Sound ∧
    sup.nearFull = s.items.queueNearFull ∧ sup.target = target s l ∧ (expireHold l a t s).link l =
      if (((s.link l).mapUnit a UnitEntry.freed).unit a).any UnitEntry.able then
        [ContentKind.seat, .strip, .headline].foldl (Link.payOwed sup a) ((s.link l).mapUnit a UnitEntry.freed)
      else (s.link l).mapUnit a UnitEntry.freed := by
  have hlink : (updateUnit l a UnitEntry.freed (advanceTo t s)).link l = (s.link l).mapUnit a UnitEntry.freed := by simp
  have hshows : s.Shows (updateUnit l a UnitEntry.freed (advanceTo t s)) := ⟨by simp, by simp, by simp, by simp, by simp, by simp⟩
  refine ⟨(updateUnit l a UnitEntry.freed (advanceTo t s)).supply l, supply_sound _ l, by simp [State.supply],
    congrFun hshows.target_eq l, ?_⟩
  have hexpire : expireHold l a t s =
      if (((updateUnit l a UnitEntry.freed (advanceTo t s)).link l).unit a).any UnitEntry.able then
        onLink l (fun k => [ContentKind.seat, .strip, .headline].foldl
          (Link.payOwed ((updateUnit l a UnitEntry.freed (advanceTo t s)).supply l) a) k)
          (updateUnit l a UnitEntry.freed (advanceTo t s))
      else updateUnit l a UnitEntry.freed (advanceTo t s) := rfl
  rw [hexpire, hlink]
  split
  · rw [onLink_self, hlink]
  · exact hlink

theorem changesOnly_expireHold (l : LinkId) (a : Nat) (t : Time) (s : State) :
    ChangesOnly [.link l, .dirty] (advanceTo t s) (expireHold l a t s) := by
  have hfreed : ChangesOnly [.link l, .dirty] (advanceTo t s) (updateUnit l a UnitEntry.freed (advanceTo t s)) :=
    changesOnly_updateUnit l a _ _
  unfold expireHold
  dsimp only
  split
  · exact changesOnly_trans hfreed (changesOnly_onLink l _ _)
  · exact hfreed

theorem freed_eq {u v : UnitEntry} (h : u.freed.Flagged v) : v.hold = none ∧ v.state = u.state := by
  obtain ⟨_, _, _, rfl⟩ := h
  exact ⟨rfl, rfl⟩

theorem freed_owed (u : UnitEntry) (kind : ContentKind) : u.freed.owed kind = u.owed kind := by cases kind <;> rfl

theorem contentKind_mem (kind : ContentKind) : kind ∈ [ContentKind.seat, .strip, .headline] := by cases kind <;> simp

/-- What the end of a hold leaves of the unit it frees. -/
theorem expireHold_pays {l : LinkId} {a : Nat} {s : State} {u : UnitEntry} (hu : (s.link l).unit a = some u) (t : Time) :
    ∃ u', ((expireHold l a t s).link l).unit a = some u' ∧ u'.hold = none ∧ u'.state = u.state ∧
      (u.able = false → ((expireHold l a t s).link l).queue = (s.link l).queue ∧ u' = u.freed) ∧
      (∀ kind, u.owed kind = true → u'.owed kind = true ∨
        ⟨a, .content (target s l u kind)⟩ ∈ ((expireHold l a t s).link l).queue) ∧
      ∀ kind, u.owed kind = true → u.able = true → (s.link l).state.up = true →
        u.before (s.link l) [.seat, .strip, .headline] kind < s.items.queueNearFull →
        u.before (s.link l) [.seat, .strip, .headline] kind < 32 →
        u'.owed kind = false ∧ ⟨a, .content (target s l u kind)⟩ ∈ ((expireHold l a t s).link l).queue := by
  obtain ⟨sup, hsup, hnear, htarget, hlink⟩ := expireHold_link l a t s
  have hfree : ((s.link l).mapUnit a UnitEntry.freed).unit a = some u.freed := unit_mapUnit (f := UnitEntry.freed) (fun _ => rfl) hu
  have hable : u.freed.able = u.able := rfl
  have hcontent (kind : ContentKind) : sup.target u.freed kind = target s l u kind := by
    rw [htarget]
    exact target_congr_unit rfl rfl s l kind
  have hbefore (kind : ContentKind) : u.freed.before ((s.link l).mapUnit a UnitEntry.freed) [.seat, .strip, .headline] kind =
      u.before (s.link l) [.seat, .strip, .headline] kind := by
    simp only [UnitEntry.before, freed_owed]
    rfl
  rw [hfree, Option.any_some, hable] at hlink
  rw [hlink]
  cases hcan : u.able with
  | false =>
    rw [if_neg Bool.false_ne_true]
    refine ⟨u.freed, hfree, rfl, rfl, fun _ => ⟨rfl, rfl⟩, fun kind h => .inl ((freed_owed u kind).trans h), ?_⟩
    simp
  | true =>
    rw [if_pos rfl]
    obtain ⟨v, hv⟩ := foldl_payOwed_pays hsup (kinds := [.seat, .strip, .headline]) (by decide) hfree
    obtain ⟨hhold, hstate⟩ := freed_eq hv.flagged
    refine ⟨v, hv.unit, hhold, hstate, by simp, fun kind h => ?_, fun kind h _ hup hn hr => ?_⟩
    · exact hcontent kind ▸ hv.kept kind (contentKind_mem kind) ((freed_owed u kind).trans h)
    · rw [← hbefore] at hn hr
      exact hcontent kind ▸ hv.paid hup (hable.trans hcan) rfl kind (contentKind_mem kind)
        ((freed_owed u kind).trans h) (hnear ▸ hn) hr

/-! ## A whole second -/

theorem index_eq_second {w : ViewWord} (h : w.index = 13) : w = .status 13 := by
  cases w with
  | status w =>
    rw [ViewWord.index] at h
    rw [Fin.ext (a := w) (b := 13) h]
  | unit l n => cases l <;> simp only [ViewWord.index] at h <;> omega
  | seat w =>
    simp only [ViewWord.index] at h
    omega

theorem isDirty_markStatus_other {w : ViewWord} (h : w ≠ .status 13) (s : State) :
    (markStatus 13 s).isDirty w = s.isDirty w := by
  have hne : w.index ≠ 13 := fun hw => h (index_eq_second hw)
  have hbit : (dirtyBit (.status 13)).getLsbD w.index = false := by
    rw [show dirtyBit (.status 13) = 1#704 <<< 13 from rfl, BitVec.getLsbD_shiftLeft]
    simp
    omega
  simp [markStatus, markDirty, State.isDirty, hbit]

theorem nextSecond_toNat (t : Time) : (nextSecond t).toNat =
    if (t.toNat / 1000 + 1) * 1000 < 2 ^ 32 then (t.toNat / 1000 + 1) * 1000 else 0 := by
  rw [show (2 : Nat) ^ 32 = 4294967296 from rfl]
  unfold nextSecond
  dsimp only
  split
  · rename_i h
    rw [BitVec.toNat_ofNat, Nat.mod_eq_of_lt h]
  · rfl

theorem changesOnly_setTimebase (t : Time) (s : State) : ChangesOnly [.timebase, .dirty] s (setTimebase t s) := by
  intro p hp
  cases p <;> simp_all [Part.same]

theorem nextSecond_passes (t : Time) : (nextSecond t).toNat / 1000 ≠ t.toNat / 1000 := by
  rw [nextSecond_toNat]
  have := t.isLt
  split <;> omega

theorem exec_quietDelayExpiry {s : State} {l : LinkId} {expiry : Time} (r : s.bus.resetAsserted = false)
    (k : s.items.softReset = false) (h : (s.link l).quietDelay = some expiry) :
    exec (.quietDelayExpiry l) s = .next (expireQuiet l expiry s.ready) := by
  refine congrArg Host.Outcome.next ((onEvent_run _ k r).trans ?_)
  simp [h]

theorem exec_ePaperHoldExpiry {s : State} {l : LinkId} {a : Nat} {u : UnitEntry} {expiry : Time}
    (r : s.bus.resetAsserted = false) (k : s.items.softReset = false) (hu : (s.link l).unit a = some u)
    (h : u.hold = some expiry) : exec (.ePaperHoldExpiry l a) s = .next (expireHold l a expiry s.ready) := by
  refine congrArg Host.Outcome.next ((onEvent_unit _ k r hu).trans ?_)
  simp only [h]

theorem shows_ready (s : State) : s.Shows s.ready := ⟨by simp, by simp, by simp, by simp, by simp, by simp⟩

theorem up_iff (x : LinkState) : x.up = true ↔ x = .running ∨ x = .resting ∨ x = .rousing := by
  cases x <;> simp [LinkState.up]

/-- Settles O46: each timer acts on the state at its deadline. -/
theorem deadlinesAndDelaysAct : Obligations.DeadlinesAndDelaysAct := by
  refine ⟨fun s l address u r k hu => ⟨?_, fun expiry he => ?_, fun expiry he => ?_⟩, fun s l expiry r k he => ?_,
    fun s r => ?_⟩
  · obtain ⟨-, rfl⟩ := Link.unit_mem hu
    have hframe := changesOnly_expireProbe l u s.ready
    refine ⟨_, congrArg Host.Outcome.next (onEvent_unit _ k r hu), timebase_expired hframe, changesOnly_expired hframe, ?_⟩
    rw [expireProbe_link (by rwa [link_ready]), link_ready]
    simp
  · have hframe : ChangesOnly [.link l, .dirty] (s.atExpiry expiry) (expireBackoff l address expiry s.ready) :=
      changesOnly_updateUnit l address _ _
    refine ⟨_, congrArg Host.Outcome.next ((onEvent_unit _ k r hu).trans ?_), timebase_expired hframe,
      changesOnly_expired hframe, ?_⟩
    · simp only [he]
    · rw [expireBackoff, updateUnit_self, ← State.atExpiry, atExpiry_link]
      simp only [Link.mapUnit, beq_iff_eq]
  · have hframe := changesOnly_expireHold l address expiry s.ready
    have hpays := expireHold_pays (s := s.ready) (by rwa [link_ready]) expiry
    rw [link_ready, (shows_ready s).target_eq, show s.ready.items = s.items by simp] at hpays
    obtain ⟨u', hu', hhold, hstate, hunable, hkept, hpaid⟩ := hpays
    refine ⟨_, u', exec_ePaperHoldExpiry r k hu he, timebase_expired hframe, changesOnly_expired hframe, hu', hhold,
      hstate, hunable, hkept, fun kind howed hactive hup hroom => ?_⟩
    obtain ⟨hnear, hdepth⟩ := hroom
    exact hpaid kind howed ((able_iff u).mpr hactive) ((up_iff _).mpr hup) hnear hdepth
  · have hframe : ChangesOnly [.link l, .dirty] (s.atExpiry expiry) (expireQuiet l expiry s.ready) :=
      changesOnly_onLink l _ _
    refine ⟨_, exec_quietDelayExpiry r k he, timebase_expired hframe, changesOnly_expired hframe, ?_⟩
    rw [expireQuiet, onLink_self, ← State.atExpiry, atExpiry_link]
    simp only [atExpiry_keeps, beq_eq_decide]
  · have hexec : exec .timebaseSecond s = .next (setTimebase (nextSecond s.timebase) s.ready) := by
      have hport : onPort (fun s => setTimebase (nextSecond s.timebase) s.ready) s =
          setTimebase (nextSecond s.timebase) s.ready := if_neg (Bool.eq_false_iff.mp r)
      exact congrArg Host.Outcome.next hport
    have hpasses := nextSecond_passes s.timebase
    have hmarked : setTimebase (nextSecond s.timebase) s.ready =
        markStatus 13 { s.ready with timebase := nextSecond s.timebase } := by
      simp [setTimebase, markStatusIf, hpasses]
    refine ⟨_, hexec, ?_, ?_, fun w hw => ?_, changesOnly_setTimebase _ _⟩
    · simp [hmarked, nextSecond_toNat]
    · rw [hmarked]
      exact isDirty_markDirty _ _
    · rw [hmarked, isDirty_markStatus_other hw]
      simp [State.isDirty]

end Sys2Proof.Machine
end

section
/-! PROOFS. The law of R112 on one link: what a link must hold for every target to be on its way, and what it means that
one link leads to another without losing a target. -/

namespace Sys2Proof.Machine

/-! ## References and goals -/

/-- The reference content of a unit and kind while an item is out of the queue: that item's content, if it is of the unit
and kind, else the acknowledged one (R112). -/
def referenceBy (held : Option Item) (u : UnitEntry) (kind : ContentKind) : Option Content :=
  match held with
  | some ⟨a, .content c⟩ => if a = u.address ∧ c.kind = kind then some c else u.acknowledged kind
  | _ => u.acknowledged kind

theorem reference_eq (k : Link) (u : UnitEntry) (kind : ContentKind) :
    k.reference u kind = referenceBy k.inFlight u kind := rfl

theorem referenceBy_none (u : UnitEntry) (kind : ContentKind) : referenceBy none u kind = u.acknowledged kind := rfl

theorem referenceBy_self (a : Nat) (c : Content) {u : UnitEntry} (h : u.address = a) :
    referenceBy (some ⟨a, .content c⟩) u c.kind = some c := by simp [referenceBy, h]

theorem referenceBy_other {it : Item} {u : UnitEntry} {kind : ContentKind}
    (h : ∀ c, it.body = .content c → it.address = u.address → c.kind ≠ kind) :
    referenceBy (some it) u kind = u.acknowledged kind := by
  obtain ⟨a, body⟩ := it
  cases body with
  | content c => exact if_neg fun hkey => h c rfl hkey.1 hkey.2
  | level _ => rfl
  | probe => rfl

theorem referenceBy_congr {held : Option Item} {u v : UnitEntry} {kind : ContentKind} (ha : v.address = u.address)
    (hack : v.acknowledged kind = u.acknowledged kind) : referenceBy held v kind = referenceBy held u kind := by
  cases held with
  | none => exact hack
  | some it =>
    obtain ⟨a, body⟩ := it
    cases body <;> simp [referenceBy, ha, hack]

/-- What each unit should show: content of the kind asked for, drawn from the unit's address and page. -/
structure Aim (goal : UnitEntry → ContentKind → Content) : Prop where
  kind : ∀ u kind, (goal u kind).kind = kind
  unit : ∀ u v kind, v.address = u.address → v.page = u.page → goal v kind = goal u kind

theorem aim_target (s : State) (l : LinkId) : Aim (target s l) :=
  ⟨target_kind s l, fun _ _ kind ha hp => target_congr_unit ha hp s l kind⟩

/-! ## Units -/

/-- A unit rests, backs off or is due for a back-off probe (R127, R128, R132). -/
def UnitEntry.Timed (u : UnitEntry) : Prop := u.rested = true ∨ u.backoff.isSome = true ∨ u.probeDue.isSome = true

/-- What stands of a unit on a running link: its address, its page, and whether it shows content; and it comes to rest
or to back off only if it shows content. -/
structure UnitEntry.Stays (u v : UnitEntry) : Prop where
  address : v.address = u.address
  page : v.page = u.page
  shows : v.shows ↔ u.shows
  timed : v.Timed → u.Timed ∨ u.shows

theorem UnitEntry.Stays.refl (u : UnitEntry) : u.Stays u := ⟨rfl, rfl, .rfl, .inl⟩

theorem UnitEntry.Stays.trans {u v w : UnitEntry} (h : u.Stays v) (k : v.Stays w) : u.Stays w :=
  ⟨k.address.trans h.address, k.page.trans h.page, k.shows.trans h.shows,
    fun x => (k.timed x).elim h.timed fun y => .inr (h.shows.mp y)⟩

theorem UnitEntry.Flagged.stays {u v : UnitEntry} (h : u.Flagged v) : u.Stays v := by
  obtain ⟨_, _, _, rfl⟩ := h
  exact ⟨rfl, rfl, .rfl, .inl⟩

/-- The kinds of a unit are those of its page, where it shows content at all (Table 7-1). -/
theorem kinds_congr {u v : UnitEntry} (hp : v.page = u.page) (hs : v.shows ↔ u.shows) : v.kinds = u.kinds := by
  have hstate (w : UnitEntry) : (w.state = .foreign ∨ w.state = .duplicate) ↔ ¬ w.shows := by
    unfold UnitEntry.shows
    tauto
  unfold UnitEntry.kinds
  rw [hp]
  exact if_congr (by rw [hstate, hstate, hs]) rfl rfl

theorem kinds_of_not_shows {u : UnitEntry} (h : ¬ u.shows) : u.kinds = [] := by
  refine if_pos ?_
  unfold UnitEntry.shows at h
  tauto

theorem UnitEntry.Stays.kinds {u v : UnitEntry} (h : u.Stays v) : v.kinds = u.kinds := kinds_congr h.page h.shows

/-! ## A target on its way -/

/-- A target of a unit is on its way while an item is out of the queue: where it differs from the reference content it is
queued or owed, and what is queued of its kind is the target, or the kind is owed (R112). -/
def Link.Settled (goal : UnitEntry → ContentKind → Content) (held : Option Item) (k : Link) (u : UnitEntry)
    (kind : ContentKind) : Prop :=
  (referenceBy held u kind ≠ some (goal u kind) → k.Awaits u kind) ∧
    ∀ c : Content, c.kind = kind → (⟨u.address, .content c⟩ : Item) ∈ k.queue → c = goal u kind ∨ u.owed kind = true

section
variable {goal : UnitEntry → ContentKind → Content} {held held' : Option Item} {k k' : Link} {u v : UnitEntry}
  {kind : ContentKind}

theorem Link.settled_of_owed (h : u.owed kind = true) : k.Settled goal held u kind := ⟨fun _ => .inr h, fun _ _ _ => .inr h⟩

/-- A target stays on its way where the queue holds of its kind what it held, the reference stands, and the kind is owed
if it was. -/
theorem Link.Settled.mono (h : k.Settled goal held u kind) (ha : v.address = u.address)
    (hgoal : goal v kind = goal u kind) (href : referenceBy held' v kind = referenceBy held u kind)
    (howed : u.owed kind = true → v.owed kind = true)
    (hqueue : ∀ c : Content, c.kind = kind →
      ((⟨u.address, .content c⟩ : Item) ∈ k'.queue ↔ (⟨u.address, .content c⟩ : Item) ∈ k.queue)) :
    k'.Settled goal held' v kind := by
  obtain ⟨htarget, hcurrent⟩ := h
  refine ⟨fun hne => ?_, fun c hc hq => ?_⟩
  · rw [href, hgoal] at hne
    refine (htarget hne).imp (fun ⟨c, hc, hq⟩ => ⟨c, hc, ?_⟩) howed
    rw [ha]
    exact (hqueue c hc).mpr hq
  · rw [ha] at hq
    rw [hgoal]
    exact (hcurrent c hc ((hqueue c hc).mp hq)).imp_right howed

end

/-! ## A link that leads to another -/

/-- An entry of a link has become an entry of another, and its targets are still on their way. On a link that is not up
the unit keeps its state. -/
def Link.Led (goal : UnitEntry → ContentKind → Content) (held held' : Option Item) (k k' : Link) (u v : UnitEntry) : Prop :=
  u.Stays v ∧ (k.state.up = true ∨ v.state = u.state) ∧
    ∀ kind ∈ u.kinds, k.Settled goal held u kind → k'.Settled goal held' v kind

/-- One link leads to another: no target is lost between them, and the link keeps its state but for a change from one
state of a link that is up to another. -/
structure Link.Leads (goal : UnitEntry → ContentKind → Content) (held held' : Option Item) (k k' : Link) : Prop where
  state : k'.state = k.state ∨ k.state.up = true ∧ k'.state.up = true
  next : k'.nextAddress = k.nextAddress
  reenumerate : k'.reenumerate = k.reenumerate
  transaction : k'.transaction = k.transaction
  wake : k'.wakePosition = k.wakePosition ∨ k.state.up = true ∧
    ∀ a, k'.wakePosition = some a → ∃ u ∈ k.units, u.address = a ∧ (u.Timed ∨ u.shows)
  units : List.Forall₂ (Link.Led goal held held' k k') k.units k'.units

section
variable {goal : UnitEntry → ContentKind → Content} {held held' held'' : Option Item} {k k' k'' : Link}

theorem Link.Leads.up (h : Link.Leads goal held held' k k') : k'.state.up = k.state.up := by
  rcases h.state with heq | ⟨hup, hup'⟩
  · rw [heq]
  · rw [hup, hup']

theorem Link.Leads.trans (h : Link.Leads goal held held' k k') (h' : Link.Leads goal held' held'' k' k'') :
    Link.Leads goal held held'' k k'' := by
  have hup := h.up
  refine ⟨?_, h'.next.trans h.next, h'.reenumerate.trans h.reenumerate, h'.transaction.trans h.transaction, ?_,
    forall₂_trans (fun u v w huv hvw => ?_) h.units h'.units⟩
  · rcases h'.state with heq | ⟨hup', hup''⟩
    · exact heq ▸ h.state
    · exact .inr ⟨hup ▸ hup', hup''⟩
  · rcases h'.wake with heq | ⟨hup', hwake⟩
    · exact heq ▸ h.wake
    · refine .inr ⟨hup ▸ hup', fun a ha => ?_⟩
      obtain ⟨v, hv, hva, hacts⟩ := hwake a ha
      obtain ⟨u, hu, hstays, -⟩ := exists_of_forall₂ h.units hv
      exact ⟨u, hu, hstays.address.symm.trans hva, hacts.elim hstays.timed fun x => .inr (hstays.shows.mp x)⟩
  · obtain ⟨hstays, hstate, hsettled⟩ := huv
    obtain ⟨hstays', hstate', hsettled'⟩ := hvw
    refine ⟨hstays.trans hstays', ?_, fun kind hkind x => ?_⟩
    · rcases hstate' with hup' | hsame'
      · exact .inl (hup ▸ hup')
      · exact hstate.imp_right fun hsame => hsame'.trans hsame
    · exact hsettled' kind (hstays.kinds ▸ hkind) (hsettled kind hkind x)

theorem Link.Leads.addresses (h : Link.Leads goal held held' k k') :
    k'.units.map UnitEntry.address = k.units.map UnitEntry.address :=
  map_address_of_forall₂ (fun _ _ hled => hled.1.address) h.units

theorem Link.Leads.length (h : Link.Leads goal held held' k k') : k'.units.length = k.units.length :=
  h.units.length_eq.symm

end

/-! ## A link in order -/

/-- A link is in order: its table and its next address are numbered (R102), and it holds the frames and the units that
belong to its state. -/
structure Link.Orderly (l : LinkId) (k : Link) : Prop where
  addresses : k.units.map UnitEntry.address = List.range' 1 k.units.length
  next : k.nextAddress = k.units.length + 1
  idle : k.state = .off → k.transaction = none
  steps : k.state = .enumerating → k.reenumerate = false → k.wakePosition = none ∧
    (∀ t, k.transaction = some t → t.purpose.enumerates = true) ∧
    ∀ u ∈ k.units, u.state = .active ∨ u.state = .foreign ∨ u.state = .duplicate
  frames : k.state.up = true → ∀ t, k.transaction = some t → t.purpose.enumerates = false ∧
    ∀ u ∈ k.units, t.purpose.shownUnit = some u.address → u.shows
  resting : ∀ u ∈ k.units, u.Timed ∨ k.wakePosition = some u.address → u.shows
  kinds : ∀ u ∈ k.units, u.shows → if l = .p then panelKind u.page.kind = true else seatKind u.page.kind = true

/-- Every target of a link is on its way, but for those of some units and kinds. -/
structure Link.OnWay (l : LinkId) (X : Nat → ContentKind → Prop) (held : Option Item)
    (goal : UnitEntry → ContentKind → Content) (k : Link) : Prop where
  orderly : k.Orderly l
  settled : k.state.up = true → ∀ u ∈ k.units, ∀ kind ∈ u.kinds, ¬ X u.address kind → k.Settled goal held u kind

/-- No two entries of a table have one address. -/
def Link.Distinct (k : Link) : Prop := (k.units.map UnitEntry.address).Nodup

theorem Link.Distinct.eq {k : Link} (h : k.Distinct) {u v : UnitEntry} (hu : u ∈ k.units) (hv : v ∈ k.units)
    (ha : u.address = v.address) : u = v := List.inj_on_of_nodup_map h hu hv ha

theorem Link.Orderly.distinct {l : LinkId} {k : Link} (h : k.Orderly l) : k.Distinct := by
  rw [Link.Distinct, h.addresses]
  exact List.nodup_range'

section
variable {goal : UnitEntry → ContentKind → Content} {held held' : Option Item} {k k' : Link} {l : LinkId}
  {X : Nat → ContentKind → Prop}

theorem Link.Leads.orderly (h : Link.Leads goal held held' k k') (hk : k.Orderly l) : k'.Orderly l := by
  have hup := h.up
  have hfrom : ∀ v ∈ k'.units, ∃ u ∈ k.units, Link.Led goal held held' k k' u v := fun v hv => exists_of_forall₂ h.units hv
  have hdown (x : LinkState) (hx : x.up = false) (hstate : k'.state = x) : k.state = x :=
    h.state.elim (fun heq => heq.symm.trans hstate) fun ⟨_, hup'⟩ => by rw [hstate, hx] at hup'; cases hup'
  refine ⟨by rw [h.addresses, h.length, hk.addresses], by rw [h.next, h.length, hk.next],
    fun hoff => h.transaction.trans (hk.idle (hdown _ rfl hoff)), fun hstate hcalm => ?_, fun hup' t ht => ?_,
    fun v hv hacts => ?_, fun v hv hshows => ?_⟩
  · have hstate' := hdown _ rfl hstate
    have hlow : ¬ k.state.up = true := by simp [hstate', LinkState.up]
    obtain ⟨hwake, htrans, hunits⟩ := hk.steps hstate' (h.reenumerate.symm.trans hcalm)
    refine ⟨(h.wake.resolve_right fun x => hlow x.1).trans hwake, fun t ht => htrans t (h.transaction.symm.trans ht),
      fun v hv => ?_⟩
    obtain ⟨u, hu, -, hsame, -⟩ := hfrom v hv
    exact (hsame.resolve_left hlow).symm ▸ hunits u hu
  · obtain ⟨hcalm, hshown⟩ := hk.frames (hup ▸ hup') t (h.transaction.symm.trans ht)
    refine ⟨hcalm, fun v hv hv' => ?_⟩
    obtain ⟨u, hu, hstays, -⟩ := hfrom v hv
    exact hstays.shows.mpr (hshown u hu (hstays.address ▸ hv'))
  · obtain ⟨u, hu, hstays, -⟩ := hfrom v hv
    refine hstays.shows.mpr ?_
    have hself (x : u.Timed ∨ u.shows) : u.shows := x.elim (fun x => hk.resting u hu (.inl x)) id
    rcases hacts with htimed | hwake
    · exact hself (hstays.timed htimed)
    · rcases h.wake with heq | ⟨-, hfound⟩
      · exact hk.resting u hu (.inr (by rw [← heq, hwake, hstays.address]))
      · obtain ⟨w, hw, hwa, hacts⟩ := hfound _ hwake
        obtain rfl := hk.distinct.eq hw hu (hwa.trans hstays.address)
        exact hself hacts
  · obtain ⟨u, hu, hstays, -⟩ := hfrom v hv
    rw [hstays.page]
    exact hk.kinds u hu (hstays.shows.mp hshows)

theorem Link.Leads.onWay (h : Link.Leads goal held held' k k') (hk : Link.OnWay l X held goal k) :
    Link.OnWay l X held' goal k' := by
  refine ⟨h.orderly hk.orderly, fun hup' v hv kind hkind hx => ?_⟩
  obtain ⟨u, hu, hstays, -, hsettled⟩ := exists_of_forall₂ h.units hv
  have hkind' : kind ∈ u.kinds := hstays.kinds ▸ hkind
  exact hsettled kind hkind' (hk.settled (h.up ▸ hup') u hu kind hkind' (hstays.address ▸ hx))

theorem Link.OnWay.weaken {Y : Nat → ContentKind → Prop} (h : Link.OnWay l X held goal k)
    (hxy : ∀ a kind, X a kind → Y a kind) : Link.OnWay l Y held goal k :=
  ⟨h.orderly, fun hup u hu kind hkind hy => h.settled hup u hu kind hkind fun hx => hy (hxy _ _ hx)⟩

/-! ## Frames -/

/-- The transaction of a link gone (R93). -/
theorem Link.OnWay.cleared (h : Link.OnWay l X held goal k) : Link.OnWay l X held goal { k with transaction := none } := by
  refine ⟨⟨h.orderly.addresses, h.orderly.next, fun _ => rfl, fun hstate hcalm => ?_, fun _ => nofun,
    h.orderly.resting, h.orderly.kinds⟩, h.settled⟩
  obtain ⟨hwake, -, hunits⟩ := h.orderly.steps hstate hcalm
  exact ⟨hwake, nofun, hunits⟩

/-- A frame of a link that is up begun: it is no step of an enumeration, and its unit shows content. -/
theorem Link.OnWay.begun (h : Link.OnWay l X held goal k) (hup : k.state.up = true) {t : Transaction}
    (hcalm : t.purpose.enumerates = false) (hshown : ∀ u ∈ k.units, t.purpose.shownUnit = some u.address → u.shows) :
    Link.OnWay l X held goal { k with transaction := some t } := by
  refine ⟨⟨h.orderly.addresses, h.orderly.next, fun hoff => ?_, fun hstate _ => ?_, fun _ t' ht => ?_, h.orderly.resting,
    h.orderly.kinds⟩, h.settled⟩
  · simp [show k.state = .off from hoff, LinkState.up] at hup
  · simp [show k.state = .enumerating from hstate, LinkState.up] at hup
  · obtain rfl := Option.some.inj ht
    exact ⟨hcalm, hshown⟩

/-- The frame of a step of an enumeration begun. -/
theorem Link.OnWay.stepped (h : Link.OnWay l X held goal k) (hstate : k.state = .enumerating) {t : Transaction}
    (hstep : t.purpose.enumerates = true) : Link.OnWay l X held goal { k with transaction := some t } := by
  refine ⟨⟨h.orderly.addresses, h.orderly.next, fun hoff => ?_, fun _ hcalm => ?_, fun hup => ?_, h.orderly.resting,
    h.orderly.kinds⟩, h.settled⟩
  · rw [show k.state = .off from hoff] at hstate
    cases hstate
  · obtain ⟨hwake, -, hunits⟩ := h.orderly.steps hstate hcalm
    refine ⟨hwake, fun t' ht => ?_, hunits⟩
    obtain rfl := Option.some.inj ht
    exact hstep
  · simp [hstate, LinkState.up] at hup

end

end Sys2Proof.Machine
end

section
/-! PROOFS. What is done to a link loses no target: offers and sweeps, an item withdrawn, taken out, owed and given back
(R112 to R118, R124). -/

namespace Sys2Proof.Machine

section
variable {goal : UnitEntry → ContentKind → Content} {held held' : Option Item} {k k' : Link} {u v : UnitEntry}

/-! ## Entries changed -/

theorem UnitEntry.Flagged.state (h : u.Flagged v) : v.state = u.state := by
  obtain ⟨_, _, _, rfl⟩ := h
  rfl

theorem UnitEntry.Flagged.acknowledged (h : u.Flagged v) (kind : ContentKind) :
    v.acknowledged kind = u.acknowledged kind := by
  obtain ⟨_, _, _, rfl⟩ := h
  cases kind <;> rfl

/-- An entry changed on a link with the same queue: the reference contents stand, and what was owed is owed. -/
theorem Link.led_of (haim : Aim goal) (hstays : u.Stays v) (hstate : k.state.up = true ∨ v.state = u.state)
    (hqueue : k'.queue = k.queue) (hkinds : ∀ kind ∈ u.kinds,
      referenceBy held' v kind = referenceBy held u kind ∧ (u.owed kind = true → v.owed kind = true)) :
    Link.Led goal held held' k k' u v := by
  refine ⟨hstays, hstate, fun kind hkind h => ?_⟩
  obtain ⟨href, howed⟩ := hkinds kind hkind
  exact h.mono hstays.address (haim.unit u v kind hstays.address hstays.page) href howed fun c _ => by rw [hqueue]

theorem Link.led_self (haim : Aim goal) (hqueue : k'.queue = k.queue) (u : UnitEntry) :
    Link.Led goal held held k k' u u :=
  Link.led_of haim (.refl u) (.inr rfl) hqueue fun _ _ => ⟨rfl, id⟩

theorem Link.Leads.of_control (hcontrol : k'.control = k.control)
    (hunits : List.Forall₂ (Link.Led goal held held' k k') k.units k'.units) : Link.Leads goal held held' k k' := by
  obtain ⟨hstate, htransaction, hnext, hreenumerate, hwake⟩ := Link.of_control hcontrol
  exact ⟨.inl hstate, hnext, hreenumerate, htransaction, .inl hwake, hunits⟩

/-- Some flags or times of a link changed, and nothing of its table, its frames or its queue. -/
theorem Link.leads_flags (haim : Aim goal) (h : k'.state = k.state ∧ k'.nextAddress = k.nextAddress ∧
    k'.reenumerate = k.reenumerate ∧ k'.transaction = k.transaction ∧ k'.wakePosition = k.wakePosition ∧
    k'.units = k.units ∧ k'.queue = k.queue) : Link.Leads goal held held k k' := by
  obtain ⟨hstate, hnext, hreenumerate, htransaction, hwake, hunits, hqueue⟩ := h
  have hself : List.Forall₂ (Link.Led goal held held k k') k.units k.units :=
    forall₂_self (fun u => Link.led_self haim hqueue u) k.units
  exact ⟨.inl hstate, hnext, hreenumerate, htransaction, .inl hwake, hunits ▸ hself⟩

theorem Link.Leads.refl (haim : Aim goal) (k : Link) : Link.Leads goal held held k k :=
  Link.leads_flags haim ⟨rfl, rfl, rfl, rfl, rfl, rfl, rfl⟩

/-- The entry at an address changed: what it shows stands, and what was owed to it is owed. -/
theorem Link.leads_mapUnit (haim : Aim goal) (k : Link) (a : Nat) {f : UnitEntry → UnitEntry}
    (hf : ∀ u ∈ k.units, u.address = a → u.Stays (f u) ∧ (k.state.up = true ∨ (f u).state = u.state) ∧
      ∀ kind ∈ u.kinds, referenceBy held' (f u) kind = referenceBy held u kind ∧
        (u.owed kind = true → (f u).owed kind = true))
    (hother : ∀ u ∈ k.units, u.address ≠ a → ∀ kind, referenceBy held' u kind = referenceBy held u kind) :
    Link.Leads goal held held' k (k.mapUnit a f) := by
  refine .of_control rfl (forall₂_mapUnit k a f (fun u hu ha => ?_) fun u hu ha => ?_)
  · obtain ⟨hstays, hstate, hkinds⟩ := hf u hu ha
    exact Link.led_of haim hstays hstate rfl hkinds
  · exact Link.led_of haim (.refl u) (.inr rfl) rfl fun kind _ => ⟨hother u hu ha kind, id⟩

/-- An item that is out of the queue and of no content leaves the reference contents alone. -/
theorem Link.Leads.of_held {it : Item} (hbody : ∀ c, it.body ≠ .content c)
    (h : Link.Leads goal none held' k k') : Link.Leads goal (some it) held' k k' := by
  refine ⟨h.state, h.next, h.reenumerate, h.transaction, h.wake, h.units.imp fun u v hled => ?_⟩
  obtain ⟨hstays, hstate, hsettled⟩ := hled
  refine ⟨hstays, hstate, fun kind hkind x => hsettled kind hkind ?_⟩
  unfold Link.Settled at x ⊢
  rwa [referenceBy_other fun c hc => absurd hc (hbody c), ← referenceBy_none] at x

/-! ## Offers and sweeps -/

/-- A content fits an address where it is the target of every unit there. -/
def Link.fit (goal : UnitEntry → ContentKind → Content) (k : Link) (a : Nat) (c : Content) : Prop :=
  ∀ u ∈ k.units, u.address = a → c = goal u c.kind

theorem Link.fit_iff (hdistinct : k.Distinct) (hu : u ∈ k.units) {kind : ContentKind} {c : Content}
    (hc : c.kind = kind) : k.fit goal u.address c ↔ c = goal u kind := by
  subst hc
  refine ⟨fun h => h u hu rfl, fun h w hw ha => ?_⟩
  obtain rfl := hdistinct.eq hw hu ha
  exact h

/-- What serves every unit with its target loses none. -/
theorem Link.Serves.leads (haim : Aim goal) (hdistinct : k.Distinct) (h : Link.Serves (k.fit goal) k k') :
    Link.Leads goal held held k k' := by
  have hsettled : ∀ u ∈ k.units, ∀ v, Link.Served (k.fit goal) k k' u v → Link.Led goal held held k k' u v := by
    intro u hu v ⟨hflag, hkeep⟩
    refine ⟨hflag.stays, .inr hflag.state, fun kind _ ⟨htarget, hcurrent⟩ => ?_⟩
    have hgoal : goal v kind = goal u kind := haim.unit u v kind hflag.stays.address hflag.stays.page
    refine ⟨fun hne => (hkeep kind).1 (htarget ?_), fun c hc hq => ?_⟩
    · rwa [referenceBy_congr hflag.address (hflag.acknowledged kind), hgoal] at hne
    · rw [hgoal, ← Link.fit_iff hdistinct hu hc, ← hflag.address]
      exact (hkeep kind).2 (fun d hd hq => (hcurrent d hd hq).imp_left (Link.fit_iff hdistinct hu hd).mpr) c hc hq
  refine .of_control h.control ?_
  have hall := (List.forall₂_and_left k.units k'.units).mpr ⟨fun u hu => hu, h.units⟩
  exact hall.imp fun u v ⟨hu, huv⟩ => hsettled u hu v huv

/-- A supply of the targets. -/
theorem fits_goal (haim : Aim goal) (hdistinct : k.Distinct) {sup : Supply} (h : sup.target = goal) :
    sup.Fits (k.fit goal) k := by
  intro u hu v hflag kind
  rw [h, Link.fit_iff hdistinct hu (haim.kind v kind)]
  exact haim.unit u v kind hflag.stays.address hflag.stays.page

theorem Link.leads_sweep (haim : Aim goal) (hdistinct : k.Distinct) {sup : Supply} (h : sup.target = goal) :
    Link.Leads goal held held k (k.sweep sup) := (Link.serves_sweep (fits_goal haim hdistinct h)).leads haim hdistinct

theorem Link.leads_payOwed (haim : Aim goal) (hdistinct : k.Distinct) {sup : Supply} (h : sup.target = goal) (a : Nat)
    (kinds : List ContentKind) : Link.Leads goal held held k (kinds.foldl (Link.payOwed sup a) k) :=
  (Link.serves_foldl (fun _ kind hk => Link.serves_payOwed hk a kind) kinds (fits_goal haim hdistinct h)).leads haim
    hdistinct

/-- LEVEL or a PROBE offered. -/
theorem Link.leads_offer_other (haim : Aim goal) (hdistinct : k.Distinct) (nearFull : Nat) {it : Item}
    (hbody : ∀ c, it.body ≠ .content c) : Link.Leads goal held held k (k.offer nearFull it) :=
  (k.serves_offer nearFull fun c hc => absurd hc (hbody c)).leads haim hdistinct

/-- A unit's target offered. -/
theorem Link.leads_offer_target (haim : Aim goal) (hdistinct : k.Distinct) (hu : u ∈ k.units) (nearFull : Nat)
    (kind : ContentKind) : Link.Leads goal held held k (k.offer nearFull ⟨u.address, .content (goal u kind)⟩) := by
  refine (k.serves_offer nearFull fun c hc => ?_).leads haim hdistinct
  obtain rfl : goal u kind = c := by simpa using hc
  exact (Link.fit_iff hdistinct hu (haim.kind u kind)).mpr rfl

theorem Link.leads_owe (haim : Aim goal) (hdistinct : k.Distinct) (it : Item) : Link.Leads goal held held k (k.owe it) :=
  (k.serves_owe it).leads haim hdistinct

/-! ## An item withdrawn -/

/-- The queue without the items of a key (R112). -/
def Link.without (k : Link) (it : Item) : Link := { k with queue := k.queue.filter fun q => !Item.sameKey q it }

theorem Link.mem_without (k : Link) (it q : Item) : q ∈ (k.without it).queue ↔ q ∈ k.queue ∧ q.sameKey it = false := by
  simp [Link.without]

/-- LEVEL withdrawn. -/
theorem Link.leads_withoutLevel (k : Link) (code : Byte) :
    Link.Leads goal held held k (k.without (levelItem code)) := by
  refine .of_control rfl (forall₂_self (fun u => ⟨.refl u, .inr rfl, fun kind _ h => ?_⟩) k.units)
  refine h.mono rfl rfl rfl id fun c _ => ?_
  simp [Link.mem_without, levelItem, Item.sameKey]

/-- A target that is the reference content is on its way without any queued item. -/
theorem Link.settled_without {c : Content} (href : referenceBy held u c.kind = some (goal u c.kind)) :
    (k.without ⟨u.address, .content c⟩).Settled goal held u c.kind := by
  refine ⟨fun hne => absurd href hne, fun d hd hq => ?_⟩
  rw [Link.mem_without, sameKey_of_kind hd] at hq
  exact absurd hq.2 Bool.true_eq_false.mp

/-- An item of a unit whose reference content is its target withdrawn. -/
theorem Link.leads_without (hdistinct : k.Distinct) (hu : u ∈ k.units) {c : Content}
    (href : referenceBy held u c.kind = some (goal u c.kind)) :
    Link.Leads goal held held k (k.without ⟨u.address, .content c⟩) := by
  refine .of_control rfl (List.forall₂_same.mpr fun w hw => ⟨.refl w, .inr rfl, fun kind _ h => ?_⟩)
  by_cases hkey : w.address = u.address ∧ kind = c.kind
  · obtain ⟨ha, rfl⟩ := hkey
    obtain rfl := hdistinct.eq hw hu ha
    exact Link.settled_without href
  · refine h.mono rfl rfl rfl id fun d hd => ?_
    have hdiffers : Item.sameKey ⟨w.address, .content d⟩ ⟨u.address, .content c⟩ = false := by
      simp only [Item.sameKey, hd, Bool.and_eq_false_iff, beq_eq_false_iff_ne]
      tauto
    simp [Link.mem_without, hdiffers]

/-! ## A target settled -/

/-- The targets of one kind at an address are on their way. -/
def Link.SettledAt (goal : UnitEntry → ContentKind → Content) (held : Option Item) (k : Link) (a : Nat)
    (kind : ContentKind) : Prop :=
  ∀ u ∈ k.units, u.address = a → kind ∈ u.kinds → k.Settled goal held u kind

theorem Link.Leads.settledAt (h : Link.Leads goal held held' k k') {a : Nat} {kind : ContentKind}
    (hk : k.SettledAt goal held a kind) : k'.SettledAt goal held' a kind := by
  intro v hv ha hkind
  obtain ⟨u, hu, hstays, -, hsettled⟩ := exists_of_forall₂ h.units hv
  have hkind' : kind ∈ u.kinds := hstays.kinds ▸ hkind
  exact hsettled kind hkind' (hk u hu (hstays.address.symm.trans ha) hkind')

/-- The unit's target offered on a link that is up is queued or owed. -/
theorem Link.offer_settles (haim : Aim goal) (hdistinct : k.Distinct) (hup : k.state.up = true) {a : Nat}
    (hu : k.unit a = some u) (nearFull : Nat) (kind : ContentKind) :
    (k.offer nearFull ⟨a, .content (goal u kind)⟩).SettledAt goal held a kind := by
  have hkind := haim.kind u kind
  have hoffered := k.offered_offer nearFull ⟨a, .content (goal u kind)⟩
  have howes (v : UnitEntry) (hv : v ∈ (k.owe ⟨a, .content (goal u kind)⟩).units) (ha : v.address = a) :
      v.owed kind = true := by
    obtain ⟨w, _, rfl⟩ := List.mem_map.mp hv
    by_cases hw : w.address = a
    · simp [hw, hkind]
    · simp [hw] at ha
  generalize k.offer nearFull ⟨a, .content (goal u kind)⟩ = k' at hoffered ⊢
  intro v hv ha _
  cases hoffered with
  | left h =>
    have hoff : k.state = .off := by simpa [hu] using h
    simp [hoff, LinkState.up] at hup
  | owed => exact Link.settled_of_owed (howes v hv ha)
  | overflowed => exact Link.settled_of_owed (howes v hv ha)
  | taken hjoins =>
    obtain ⟨w, hw, rfl⟩ := List.mem_map.mp hv
    have hwa : w.address = a := by
      by_cases hw : w.address = a
      · exact hw
      · simp [hw] at ha
    obtain ⟨humem, hua⟩ := Link.unit_mem hu
    obtain rfl := hdistinct.eq hw humem (hwa.trans hua.symm)
    have hgoal : goal (w.setOwed kind false) kind = goal w kind :=
      haim.unit _ _ kind (w.flagged_setOwed kind false).stays.address (w.flagged_setOwed kind false).stays.page
    simp only [hua, beq_self_eq_true, if_true, hkind] at ha ⊢
    refine ⟨fun _ => .inl ⟨goal w kind, hkind, ?_⟩, fun d hd hq => .inl ?_⟩
    · rw [ha, took_queue]
      exact hjoins.mem
    · rw [ha, took_queue] at hq
      have halone := hjoins.alone _ hq (sameKey_of_kind (hd.trans hkind.symm))
      rw [hgoal]
      simpa using congrArg Item.body halone

/-! ## An item taken out, owed and given back -/

/-- The head of the queue taken out: what it carried is the reference content from then on. -/
theorem Link.leads_taken {it : Item} {rest : List Item} (hqueue : k.queue = it :: rest) :
    Link.Leads goal none (some it) k { k with queue := rest } := by
  have hother (q : Item) (hne : q ≠ it) : q ∈ rest ↔ q ∈ k.queue := by simp [hqueue, hne]
  refine .of_control rfl (forall₂_self (fun u => ⟨.refl u, .inr rfl, fun kind _ h => ?_⟩) k.units)
  by_cases hkey : ∃ c, it = ⟨u.address, .content c⟩ ∧ c.kind = kind
  · obtain ⟨c, rfl, rfl⟩ := hkey
    obtain ⟨-, hcurrent⟩ := h
    have hhead := hcurrent c rfl (hqueue ▸ List.mem_cons_self)
    refine ⟨fun hne => ?_, fun d hd hq => hcurrent d hd (hqueue ▸ List.mem_cons_of_mem _ hq)⟩
    rw [referenceBy_self _ _ rfl] at hne
    exact .inr (hhead.resolve_left fun heq => hne (congrArg some heq))
  · have hdiffers (c : Content) (hc : c.kind = kind) : (⟨u.address, .content c⟩ : Item) ≠ it := by
      rintro rfl
      exact hkey ⟨c, rfl, hc⟩
    refine h.mono rfl rfl (referenceBy_other fun c hc ha hkind => hkey ⟨c, ?_, hkind⟩) id fun c hc => hother _ (hdiffers c hc)
    obtain ⟨a, body⟩ := it
    simp_all

/-- The content out of the queue is of a unit and kind: the one key whose reference content it decides. -/
theorem referenceBy_released {a : Nat} {c : Content} {kind : ContentKind} (h : u.address = a → kind ≠ c.kind) :
    referenceBy none u kind = referenceBy (some ⟨a, .content c⟩) u kind :=
  (referenceBy_other fun d hd ha hkind => by
    obtain rfl : c = d := by simpa using hd
    exact h ha.symm hkind.symm).symm

/-- The item out of the queue owed. -/
theorem Link.leads_oweHeld (haim : Aim goal) (hdistinct : k.Distinct) (it : Item) :
    Link.Leads goal (some it) none k (k.owe it) := by
  obtain ⟨a, body⟩ := it
  cases body with
  | content c =>
    refine .of_control rfl (forall₂_mapUnit k a _ (fun u _ ha => ?_) fun u _ ha => ?_)
    · have hflag := u.flagged_setOwed c.kind true
      refine ⟨hflag.stays, .inr hflag.state, fun kind _ h => ?_⟩
      by_cases hkind : kind = c.kind
      · exact Link.settled_of_owed (by simp [hkind])
      · refine h.mono hflag.address (haim.unit _ _ kind hflag.address hflag.stays.page) ?_ (by simp [hkind]) fun _ _ => .rfl
        rw [← referenceBy_released fun _ => hkind]
        exact hflag.acknowledged kind
    · exact Link.led_of haim (.refl u) (.inr rfl) rfl fun kind _ => ⟨referenceBy_released (absurd · ha), id⟩
  | level code => exact (Link.leads_owe haim hdistinct _).of_held (by simp)
  | probe => exact (Link.leads_owe haim hdistinct _).of_held (by simp)

/-- A content out of the queue goes back to its tail, where a newer one is not queued (R117). -/
theorem Link.leads_appendHeld {a : Nat} {c : Content} (hnew : k.queued ⟨a, .content c⟩ = false) :
    Link.Leads goal (some ⟨a, .content c⟩) none k { k with queue := k.queue ++ [⟨a, .content c⟩] } := by
  refine .of_control rfl (forall₂_self (fun u => ⟨.refl u, .inr rfl, fun kind _ h => ?_⟩) k.units)
  by_cases hkey : u.address = a ∧ kind = c.kind
  · obtain ⟨rfl, rfl⟩ := hkey
    refine ⟨fun _ => .inl ⟨c, rfl, by simp⟩, fun d hd hq => ?_⟩
    obtain ⟨htarget, -⟩ := h
    rcases List.mem_append.mp hq with hold | hlast
    · have hsame := List.any_eq_false.mp hnew _ hold
      rw [sameKey_of_kind hd] at hsame
      exact absurd rfl hsame
    · obtain rfl : d = c := by simpa using hlast
      by_cases hgoal : d = goal u d.kind
      · exact .inl hgoal
      · rw [referenceBy_self _ _ rfl] at htarget
        refine .inr ((htarget fun heq => hgoal (Option.some.inj heq)).resolve_left fun ⟨e, he, hold⟩ => ?_)
        have hsame := List.any_eq_false.mp hnew _ hold
        rw [sameKey_of_kind he] at hsame
        exact hsame rfl
  · refine h.mono rfl rfl (referenceBy_released fun ha hkind => hkey ⟨ha, hkind⟩) id fun d hd => ?_
    have hne : (⟨u.address, .content d⟩ : Item) ≠ ⟨a, .content c⟩ := by
      rintro heq
      obtain ⟨ha, rfl⟩ : u.address = a ∧ d = c := by simpa using heq
      exact hkey ⟨ha, hd.symm⟩
    simp [hne]

/-- A content out of the queue discarded for a newer one (R117). -/
theorem Link.leads_newer {a : Nat} {c : Content} (hqueued : k.queued ⟨a, .content c⟩ = true) :
    Link.Leads goal (some ⟨a, .content c⟩) none k k := by
  obtain ⟨q, hq, hsame⟩ := List.any_eq_true.mp hqueued
  obtain ⟨d, rfl, hd⟩ := sameKey_content hsame
  refine .of_control rfl (forall₂_self (fun u => ⟨.refl u, .inr rfl, fun kind _ h => ?_⟩) k.units)
  by_cases hkey : u.address = a ∧ kind = c.kind
  · obtain ⟨rfl, rfl⟩ := hkey
    obtain ⟨-, hcurrent⟩ := h
    exact ⟨fun _ => .inl ⟨d, hd, hq⟩, hcurrent⟩
  · exact h.mono rfl rfl (referenceBy_released fun ha hkind => hkey ⟨ha, hkind⟩) id fun _ _ => .rfl

/-- The item out of the queue owed at a queue of 32 items, or discarded if it is a PROBE (R113). -/
theorem Link.leads_overflowsHeld (haim : Aim goal) (hdistinct : k.Distinct) (it : Item) :
    Link.Leads goal (some it) none k (k.overflows it) := by
  unfold Link.overflows
  split
  · rename_i hprobe
    exact (Link.Leads.refl haim k).of_held (by simp [hprobe])
  · exact (Link.leads_oweHeld haim hdistinct it).trans (Link.leads_flags haim ⟨rfl, rfl, rfl, rfl, rfl, rfl, rfl⟩)

/-- LEVEL or a PROBE at the tail of the queue. -/
theorem Link.leads_appendOther {it : Item} (hbody : ∀ c, it.body ≠ .content c) :
    Link.Leads goal held held k { k with queue := k.queue ++ [it] } := by
  refine .of_control rfl (forall₂_self (fun u => ⟨.refl u, .inr rfl, fun kind _ h => ?_⟩) k.units)
  refine h.mono rfl rfl rfl id fun c _ => ?_
  have hne : (⟨u.address, .content c⟩ : Item) ≠ it := by
    rintro rfl
    exact hbody c rfl
  simp [hne]

/-- The item out of the queue given back (R117, R124). -/
theorem Link.leads_giveBack (haim : Aim goal) (hdistinct : k.Distinct) (it : Item) :
    Link.Leads goal (some it) none k (k.giveBack it) := by
  by_cases hbody : ∃ c, it.body = .content c
  · obtain ⟨a, body⟩ := it
    obtain ⟨c, rfl : body = .content c⟩ := hbody
    rcases hqueued : k.queued ⟨a, .content c⟩ with _ | _
    · by_cases hroom : k.queue.length < 32
      · rw [giveBack_appended hqueued hroom]
        exact Link.leads_appendHeld hqueued
      · rw [giveBack_full hqueued (Nat.le_of_not_lt hroom)]
        exact Link.leads_overflowsHeld haim hdistinct _
    · rw [giveBack_newer hqueued]
      exact Link.leads_newer hqueued
  · rw [not_exists] at hbody
    unfold Link.giveBack Link.reappend
    split
    · exact (Link.Leads.refl haim k).of_held hbody
    · split
      · exact (Link.leads_appendOther hbody).of_held hbody
      · exact Link.leads_overflowsHeld haim hdistinct it

/-- An item of no unit of the table is dropped. -/
theorem Link.leads_dropped (haim : Aim goal) {it : Item} (h : ∀ u ∈ k.units, u.address ≠ it.address) :
    Link.Leads goal (some it) none k k := by
  refine .of_control rfl (List.forall₂_same.mpr fun u hu => Link.led_of haim (.refl u) (.inr rfl) rfl fun kind _ => ⟨?_, id⟩)
  exact (referenceBy_other fun _ _ ha => absurd ha.symm (h u hu)).symm

end

end Sys2Proof.Machine
end

section
/-! PROOFS. The law of R112 on all links: what happens on one link, and what changes nothing that the links or the targets
draw on. -/

namespace Sys2Proof.Machine

/-! ## States alike -/

theorem State.Shows.refl (s : State) : s.Shows s := ⟨rfl, rfl, rfl, rfl, rfl, rfl⟩

theorem State.Shows.trans {s t u : State} (h : s.Shows t) (k : t.Shows u) : s.Shows u :=
  ⟨k.seats.trans h.seats, k.active.trans h.active, k.consist.trans h.consist, k.approach.trans h.approach,
    k.delay.trans h.delay, k.estimated.trans h.estimated⟩

theorem shows_of {s t : State} (h : t.res = s.res ∧ t.route = s.route ∧ t.tracker = s.tracker ∧ t.filter = s.filter) :
    s.Shows t := by
  obtain ⟨hres, hroute, htracker, hfilter⟩ := h
  exact ⟨by rw [hres], by rw [hroute], by rw [hroute], by rw [htracker], by rw [htracker], by rw [hfilter]⟩

/-- Two states show the same on the same links. -/
structure State.Alike (s t : State) : Prop where
  shows : s.Shows t
  bus : t.bus = s.bus
  link : ∀ l, t.link l = s.link l

theorem alike_of {s t : State} (h : t.res = s.res ∧ t.route = s.route ∧ t.tracker = s.tracker ∧ t.filter = s.filter)
    (hbus : t.bus = s.bus) (hlink : ∀ l, t.link l = s.link l) : s.Alike t := ⟨shows_of h, hbus, hlink⟩

/-! ## What happens on one link -/

/-- One state leads to another by what happens on one link: no target of the link is lost, and the other links, the bus
and what the targets draw on stand. -/
structure LeadsLink (l : LinkId) (held held' : Option Item) (s t : State) : Prop where
  shows : s.Shows t
  bus : t.bus = s.bus
  others : ∀ m, m ≠ l → t.link m = s.link m
  link : (s.link l).Distinct → Link.Leads (target s l) held held' (s.link l) (t.link l)

section
variable {l : LinkId} {held held' held'' : Option Item} {s t u : State}

theorem LeadsLink.distinct (h : LeadsLink l held held' s t) (hs : (s.link l).Distinct) : (t.link l).Distinct := by
  rw [Link.Distinct, (h.link hs).addresses]
  exact hs

theorem LeadsLink.trans (h : LeadsLink l held held' s t) (k : LeadsLink l held' held'' t u) :
    LeadsLink l held held'' s u :=
  ⟨h.shows.trans k.shows, k.bus.trans h.bus, fun m hm => (k.others m hm).trans (h.others m hm),
    fun hs => (h.link hs).trans (h.shows.target_eq ▸ k.link (h.distinct hs))⟩

theorem State.Alike.leadsLink (h : s.Alike t) (l : LinkId) (held : Option Item) : LeadsLink l held held s t :=
  ⟨h.shows, h.bus, fun m _ => h.link m, fun _ => h.link l ▸ Link.Leads.refl (aim_target s l) _⟩

theorem LeadsLink.refl (l : LinkId) (held : Option Item) (s : State) : LeadsLink l held held s s :=
  State.Alike.leadsLink ⟨.refl s, rfl, fun _ => rfl⟩ l held

/-- A link controller changed, and what it leads to. -/
theorem leadsLink_onLink {f : Link → Link}
    (h : (s.link l).Distinct → Link.Leads (target s l) held held' (s.link l) (f (s.link l))) :
    LeadsLink l held held' s (onLink l f s) :=
  ⟨shows_of (by simp), by simp, fun m hm => onLink_other l f s m hm, fun hs => (onLink_self l f s).symm ▸ h hs⟩

theorem leadsLink_putLink {k : Link}
    (h : (s.link l).Distinct → Link.Leads (target s l) held held' (s.link l) k) :
    LeadsLink l held held' s (s.putLink l k) :=
  ⟨shows_of (by simp), by simp, fun m hm => putLink_other l k s m hm, fun hs => (putLink_self l k s).symm ▸ h hs⟩

theorem leadsLink_setLinkUnits {k : Link}
    (h : (s.link l).Distinct → Link.Leads (target s l) held held' (s.link l) k) :
    LeadsLink l held held' s (setLinkUnits l k s) :=
  ⟨shows_of (by simp), by simp, fun m hm => setLinkUnits_other l k s m hm, fun hs => (setLinkUnits_self l k s).symm ▸ h hs⟩

theorem leadsLink_updateUnit {a : Nat} {f : UnitEntry → UnitEntry}
    (h : (s.link l).Distinct → Link.Leads (target s l) held held' (s.link l) ((s.link l).mapUnit a f)) :
    LeadsLink l held held' s (updateUnit l a f s) := leadsLink_setLinkUnits h

/-- Some flags or times of a link changed. -/
theorem leadsLink_flags {f : Link → Link} (h : ∀ k, (f k).state = k.state ∧ (f k).nextAddress = k.nextAddress ∧
    (f k).reenumerate = k.reenumerate ∧ (f k).transaction = k.transaction ∧ (f k).wakePosition = k.wakePosition ∧
    (f k).units = k.units ∧ (f k).queue = k.queue) : LeadsLink l held held s (onLink l f s) :=
  leadsLink_onLink fun _ => Link.leads_flags (aim_target s l) (h _)

/-! ## Offers, sweeps and withdrawals -/

theorem leadsLink_sweepLink (l : LinkId) (held : Option Item) (s : State) : LeadsLink l held held s (sweepLink l s) :=
  leadsLink_onLink fun hs => Link.leads_sweep (aim_target s l) hs rfl

theorem leadsLink_sweepAfterRemoval (l : LinkId) (held : Option Item) (n : Nat) (s : State) :
    LeadsLink l held held s (sweepAfterRemoval l n s) := by
  unfold sweepAfterRemoval
  split
  · exact leadsLink_sweepLink l held s
  · exact .refl l held s

/-- LEVEL or a PROBE offered. -/
theorem leadsLink_offerItem {it : Item} (hbody : ∀ c, it.body ≠ .content c) (l : LinkId) (held : Option Item)
    (s : State) : LeadsLink l held held s (offerItem l it s) :=
  leadsLink_onLink fun hs => Link.leads_offer_other (aim_target s l) hs _ hbody

theorem leadsLink_judgeLevel (l : LinkId) (held : Option Item) (s : State) : LeadsLink l held held s (judgeLevel s l) := by
  unfold judgeLevel
  split
  · split
    · have hwithdrawn : LeadsLink l held held s (onLink l (fun k => k.without (levelItem (levelCode s))) s) :=
        leadsLink_onLink fun _ => Link.leads_withoutLevel _ _
      exact hwithdrawn.trans (leadsLink_sweepAfterRemoval l held _ _)
    · exact leadsLink_offerItem (by simp [levelItem]) l held s
  · exact .refl l held s

theorem inFlight_congr {k k' : Link} (h : k'.transaction = k.transaction) : k'.inFlight = k.inFlight := by
  rw [Link.inFlight, h, Link.inFlight]

/-- A target judged loses none, and it is on its way itself (R112). -/
theorem judgeTarget_leads (l : LinkId) (s : State) (x : Nat × ContentKind) :
    LeadsLink l (s.link l).inFlight (s.link l).inFlight s (judgeTarget l s x) ∧
      ((s.link l).Distinct → (s.link l).state.up = true →
        ((judgeTarget l s x).link l).SettledAt (target s l) (s.link l).inFlight x.1 x.2) := by
  obtain ⟨a, kind⟩ := x
  unfold judgeTarget
  dsimp only
  split
  · rename_i hnone
    refine ⟨.refl l _ s, fun _ _ u hu ha => ?_⟩
    exact absurd ha (by simpa using List.find?_eq_none.mp hnone u hu)
  · rename_i u hu
    obtain ⟨hmem, rfl⟩ := Link.unit_mem hu
    have hkind := target_kind s l u kind
    split
    · split
      · rename_i href
        have href' : referenceBy (s.link l).inFlight u (target s l u kind).kind =
            some (target s l u (target s l u kind).kind) := by rwa [hkind]
        have hwithdrawn : LeadsLink l (s.link l).inFlight (s.link l).inFlight s
            (onLink l (fun k => k.without ⟨u.address, .content (target s l u kind)⟩) s) :=
          leadsLink_onLink fun hs => Link.leads_without hs hmem href'
        have hswept := leadsLink_sweepAfterRemoval l (s.link l).inFlight (s.link l).queue.length
          (onLink l (fun k => k.without ⟨u.address, .content (target s l u kind)⟩) s)
        refine ⟨hwithdrawn.trans hswept, fun hs _ => ?_⟩
        refine (hwithdrawn.shows.target_eq ▸ hswept.link (hwithdrawn.distinct hs)).settledAt ?_
        rw [onLink_self]
        intro v hv ha _
        obtain rfl := hs.eq hv hmem ha
        have hsettled := Link.settled_without (k := s.link l) href'
        rwa [hkind] at hsettled
      · exact ⟨leadsLink_onLink fun hs => Link.leads_offer_target (aim_target s l) hs hmem _ kind,
          fun hs hup => (onLink_self l _ s).symm ▸ Link.offer_settles (aim_target s l) hs hup hu _ kind⟩
    · rename_i hnot
      refine ⟨.refl l _ s, fun hs _ v hv ha hv' => ?_⟩
      obtain rfl := hs.eq hv hmem ha
      exact absurd hv' hnot

end

/-! ## All links -/

/-- Every target of every link is on its way, but for those of some units and kinds; and there are 128 seats. -/
structure OnTheWay (X : LinkId → Nat → ContentKind → Prop) (s : State) : Prop where
  seats : s.res.seats.length = 128
  link : ∀ l, Link.OnWay l (X l) (s.link l).inFlight (target s l) (s.link l)

/-- No target is left out. -/
def noTarget : LinkId → Nat → ContentKind → Prop := fun _ _ _ => False

/-- What leads from one state to another keeps every target on its way that was, and leaves the bus alone. -/
structure KeepsWay (s t : State) : Prop where
  bus : t.bus = s.bus
  way : ∀ X, OnTheWay X s → OnTheWay X t

section
variable {l : LinkId} {s t u : State} {X Y : LinkId → Nat → ContentKind → Prop}

theorem KeepsWay.refl (s : State) : KeepsWay s s := ⟨rfl, fun _ h => h⟩

theorem KeepsWay.trans (h : KeepsWay s t) (k : KeepsWay t u) : KeepsWay s u :=
  ⟨k.bus.trans h.bus, fun X hs => k.way X (h.way X hs)⟩

theorem keepsWay_foldl {α : Type} {f : State → α → State} (h : ∀ s x, KeepsWay s (f s x)) (xs : List α) (s : State) :
    KeepsWay s (xs.foldl f s) :=
  List.foldlRecOn (motive := KeepsWay s) xs f (.refl s) fun _ hs x _ => hs.trans (h _ x)

theorem OnTheWay.weaken (h : OnTheWay X s) (hxy : ∀ l a kind, X l a kind → Y l a kind) : OnTheWay Y s :=
  ⟨h.seats, fun l => (h.link l).weaken (hxy l)⟩

theorem OnTheWay.distinct (h : OnTheWay X s) (l : LinkId) : (s.link l).Distinct := (h.link l).orderly.distinct

/-- What happens on one link under the item in flight keeps every target on its way. -/
theorem LeadsLink.keepsWay (h : LeadsLink l (s.link l).inFlight (s.link l).inFlight s t) : KeepsWay s t := by
  refine ⟨h.bus, fun X hs => ⟨(congrArg List.length h.shows.seats).trans hs.seats, fun m => ?_⟩⟩
  rw [h.shows.target_eq]
  by_cases hm : m = l
  · subst hm
    have hleads := h.link (hs.distinct m)
    rw [inFlight_congr hleads.transaction]
    exact hleads.onWay (hs.link m)
  · rw [h.others m hm]
    exact hs.link m

theorem State.Alike.keepsWay (h : s.Alike t) : KeepsWay s t := (h.leadsLink .a _).keepsWay

/-- A target judged is on its way from then on. -/
theorem OnTheWay.judged (h : OnTheWay X s) (x : Nat × ContentKind) :
    OnTheWay (fun m a kind => X m a kind ∧ ¬ (m = l ∧ a = x.1 ∧ kind = x.2)) (judgeTarget l s x) := by
  obtain ⟨hleads, hsettled⟩ := judgeTarget_leads l s x
  have hkept := hleads.keepsWay.way X h
  refine ⟨hkept.seats, fun m => ⟨(hkept.link m).orderly, fun hup u hu kind hkind hx => ?_⟩⟩
  by_cases hkey : m = l ∧ u.address = x.1 ∧ kind = x.2
  · obtain ⟨rfl, ha, rfl⟩ := hkey
    have hleadsLink := hleads.link (h.distinct m)
    rw [hleads.shows.target_eq, inFlight_congr hleadsLink.transaction]
    exact hsettled (h.distinct m) (hleadsLink.up ▸ hup) u hu ha hkind
  · exact (hkept.link m).settled hup u hu kind hkind fun hx' => hx ⟨hx', hkey⟩

end

end Sys2Proof.Machine
end

section
/-! PROOFS. The composer's events: targets that have changed are on their way once the panels or the seats concerned have
been composed (R72, R111, R112). -/

namespace Sys2Proof.Machine

section
variable {s t u : State} {X Y : LinkId → Nat → ContentKind → Prop}

/-! ## Targets left out -/

theorem OnTheWay.restrict (h : OnTheWay Y s)
    (hxy : ∀ l, ∀ u ∈ (s.link l).units, ∀ kind ∈ u.kinds, Y l u.address kind → X l u.address kind) : OnTheWay X s :=
  ⟨h.seats, fun l => ⟨(h.link l).orderly, fun hup u hu kind hkind hx =>
    (h.link l).settled hup u hu kind hkind fun hy => hx (hxy l u hu kind hkind hy)⟩⟩

/-- Another state with the same links: the targets that have changed are left out. -/
theorem OnTheWay.changed (h : OnTheWay X s) (hseats : t.res.seats.length = s.res.seats.length)
    (hlink : ∀ l, t.link l = s.link l) (hxy : ∀ l a kind, X l a kind → Y l a kind)
    (htarget : ∀ l, ∀ u ∈ (s.link l).units, ∀ kind ∈ u.kinds, ¬ Y l u.address kind → target t l u kind = target s l u kind) :
    OnTheWay Y t := by
  refine ⟨hseats.trans h.seats, fun l => ?_⟩
  rw [hlink]
  refine ⟨(h.link l).orderly, fun hup u hu kind hkind hy => ?_⟩
  have hsettled := (h.link l).settled hup u hu kind hkind fun hx => hy (hxy l _ kind hx)
  unfold Link.Settled
  rw [htarget l u hu kind hkind hy]
  exact hsettled

/-- Targets of a link judged one after the other are on their way. -/
theorem OnTheWay.judgedAll {l : LinkId} (xs : List (Nat × ContentKind)) (h : OnTheWay X s) :
    OnTheWay (fun m a kind => X m a kind ∧ ¬ (m = l ∧ (a, kind) ∈ xs)) (xs.foldl (judgeTarget l) s) := by
  induction xs generalizing s X with
  | nil => exact h.weaken fun _ _ _ hx => ⟨hx, by simp⟩
  | cons x xs ih =>
    refine (ih (h.judged x)).weaken fun m a kind ⟨⟨hx, hfirst⟩, hrest⟩ => ⟨hx, fun ⟨hm, hmem⟩ => ?_⟩
    rcases List.mem_cons.mp hmem with heq | hmem
    · exact hfirst ⟨hm, congrArg Prod.fst heq, congrArg Prod.snd heq⟩
    · exact hrest ⟨hm, hmem⟩

/-! ## Panels -/

/-- What leads from one state to another may lose the targets of panels, and no others. -/
structure LosesPanels (s t : State) : Prop where
  bus : t.bus = s.bus
  way : ∀ X, OnTheWay X s → OnTheWay (fun l a kind => X l a kind ∨ kind ≠ .seat) t

theorem KeepsWay.losesPanels (h : KeepsWay s t) : LosesPanels s t :=
  ⟨h.bus, fun X hs => (h.way X hs).weaken fun _ _ _ => .inl⟩

theorem LosesPanels.trans (h : LosesPanels s t) (k : LosesPanels t u) : LosesPanels s u :=
  ⟨k.bus.trans h.bus, fun X hs => (k.way _ (h.way X hs)).weaken fun _ _ _ hx => hx.elim id .inr⟩

/-- A change that leaves the links and the seats alone. -/
theorem losesPanels_of {s t : State} (hbus : t.bus = s.bus) (hseats : t.res.seats = s.res.seats)
    (hlink : ∀ l, t.link l = s.link l) : LosesPanels s t := by
  refine ⟨hbus, fun X hs => hs.changed (congrArg List.length hseats) hlink (fun _ _ _ => .inl) ?_⟩
  intro l u _ kind _ hy
  obtain rfl : kind = .seat := by
    by_contra hne
    exact hy (.inr hne)
  simp only [target, seatTarget, hseats]

theorem kinds_of_seatKind {u : UnitEntry} (h : seatKind u.page.kind = true) {kind : ContentKind} (hk : kind ∈ u.kinds) :
    kind = .seat := by
  unfold UnitEntry.kinds at hk
  split at hk
  · cases hk
  · simpa [h] using hk

/-- The panels composed: every target of a panel is on its way. -/
theorem keepsWay_composePanels_of (h : LosesPanels s t) : KeepsWay s (composePanels t) := by
  refine ⟨(composePanels_keeps t).2.2.1.trans h.bus, fun X hs => ?_⟩
  have hcomposed := (h.way X hs).judgedAll (l := .p)
    ((t.link .p).units.flatMap fun u => [(u.address, .strip), (u.address, .headline)])
  refine hcomposed.restrict fun l u hu kind hkind ⟨hx, hjudged⟩ => hx.resolve_right fun hne => hjudged ?_
  have hshows : u.shows := by
    by_contra hnot
    simp [kinds_of_not_shows hnot] at hkind
  have horder := (hcomposed.link l).orderly.kinds u hu hshows
  by_cases hl : l = .p
  · subst hl
    refine ⟨rfl, List.mem_flatMap.mpr ?_⟩
    have haddresses := (carriesLinks_composePanels t .p).addresses
    obtain ⟨v, hv, hva⟩ := List.mem_map.mp (haddresses ▸ List.mem_map_of_mem hu)
    refine ⟨v, hv, ?_⟩
    rw [← hva]
    cases kind with
    | seat => exact absurd rfl hne
    | strip => simp
    | headline => simp
  · rw [if_neg hl] at horder
    exact absurd (kinds_of_seatKind horder hkind) hne

/-! ## Seats -/

/-- Two seat tables that differ in the resolved statuses of some seats, and not in their bindings. -/
structure SeatsMoved (ns : List Nat) (es es' : List SeatEntry) : Prop where
  length : es'.length = es.length
  entry : ∀ i e e', es[i]? = some e → es'[i]? = some e' →
    e'.bound = e.bound ∧ ((∀ n ∈ ns, n - 1 ≠ i) → e'.resolved = e.resolved)

theorem SeatsMoved.refl (ns : List Nat) (es : List SeatEntry) : SeatsMoved ns es es := by
  refine ⟨rfl, fun i e e' he he' => ?_⟩
  obtain rfl := Option.some.inj (he.symm.trans he')
  exact ⟨rfl, fun _ => rfl⟩

theorem SeatsMoved.trans {ns : List Nat} {es es' es'' : List SeatEntry} (h : SeatsMoved ns es es')
    (k : SeatsMoved ns es' es'') : SeatsMoved ns es es'' := by
  refine ⟨k.length.trans h.length, fun i e e'' he he'' => ?_⟩
  have hi : i < es'.length := by
    rw [h.length]
    exact (List.getElem?_eq_some_iff.mp he).1
  obtain ⟨hbound, hresolved⟩ := h.entry i e _ he (List.getElem?_eq_getElem hi)
  obtain ⟨hbound', hresolved'⟩ := k.entry i _ e'' (List.getElem?_eq_getElem hi) he''
  exact ⟨hbound'.trans hbound, fun hn => (hresolved' hn).trans (hresolved hn)⟩

/-- A slot shows the same where the same seats are bound to it, with the same statuses. -/
theorem slotContent_congr {l : LinkId} {a slot : Nat} {es es' : List SeatEntry}
    (h : List.Forall₂ (fun e e' : SeatEntry => (e'.bound = some ⟨l, a, slot⟩ ↔ e.bound = some ⟨l, a, slot⟩) ∧
      (e.bound = some ⟨l, a, slot⟩ → e'.resolved = e.resolved)) es es') :
    slotContent es' l a slot = slotContent es l a slot := by
  unfold slotContent
  induction h with
  | nil => rfl
  | @cons e e' _ _ he _ ih =>
    obtain ⟨hbound, hresolved⟩ := he
    rw [List.find?_cons, List.find?_cons]
    by_cases hfound : e.bound = some ⟨l, a, slot⟩
    · simp only [beq_iff_eq.mpr hfound, beq_iff_eq.mpr (hbound.mpr hfound), hresolved hfound]
    · simp only [beq_eq_false_iff_ne.mpr hfound, beq_eq_false_iff_ne.mpr (mt hbound.mp hfound)]
      exact ih

/-- A seat of some is bound to a unit. -/
def State.bindsTo (t : State) (ns : List Nat) (l : LinkId) (a : Nat) : Prop :=
  ∃ n ∈ ns, ∃ slot, (t.seat n).bound = some ⟨l, a, slot⟩

theorem SeatsMoved.slotContent {ns : List Nat} (h : SeatsMoved ns s.res.seats t.res.seats) {l : LinkId} {a : Nat}
    (hfree : ¬ t.bindsTo ns l a) (slot : Nat) :
    slotContent t.res.seats l a slot = slotContent s.res.seats l a slot := by
  refine slotContent_congr (List.forall₂_iff_get.mpr ⟨h.length.symm, fun i hi hi' => ?_⟩)
  simp only [List.get_eq_getElem]
  obtain ⟨hbound, hresolved⟩ := h.entry i _ _ (List.getElem?_eq_getElem hi) (List.getElem?_eq_getElem hi')
  refine ⟨by rw [hbound], fun hslot => hresolved fun n hn heq => hfree ⟨n, hn, slot, ?_⟩⟩
  subst heq
  simpa [State.seat, List.getD, List.getElem?_eq_getElem hi'] using hbound.trans hslot

/-- One state leads to another by a change of the statuses of some seats. -/
structure MovesSeats (ns : List Nat) (s t : State) : Prop where
  bus : t.bus = s.bus
  link : ∀ l, t.link l = s.link l
  active : t.route.active = s.route.active
  consist : t.route.consist = s.route.consist
  approach : t.tracker.approach = s.tracker.approach
  delay : t.tracker.delay = s.tracker.delay
  estimated : t.filter.estimated = s.filter.estimated
  seats : SeatsMoved ns s.res.seats t.res.seats

theorem State.Alike.movesSeats (h : s.Alike t) (ns : List Nat) : MovesSeats ns s t :=
  ⟨h.bus, h.link, h.shows.active, h.shows.consist, h.shows.approach, h.shows.delay, h.shows.estimated,
    h.shows.seats ▸ .refl ns _⟩

theorem MovesSeats.trans {ns : List Nat} (h : MovesSeats ns s t) (k : MovesSeats ns t u) : MovesSeats ns s u :=
  ⟨k.bus.trans h.bus, fun l => (k.link l).trans (h.link l), k.active.trans h.active, k.consist.trans h.consist,
    k.approach.trans h.approach, k.delay.trans h.delay, k.estimated.trans h.estimated, h.seats.trans k.seats⟩

/-- Until they are composed, the targets of the units that the seats are bound to are left out. -/
theorem MovesSeats.way {ns : List Nat} (h : MovesSeats ns s t) (hs : OnTheWay X s) :
    OnTheWay (fun l a kind => X l a kind ∨ kind = .seat ∧ t.bindsTo ns l a) t := by
  refine hs.changed h.seats.length h.link (fun _ _ _ => .inl) fun l u _ kind _ hy => ?_
  cases kind with
  | seat =>
    have hfree : ¬ t.bindsTo ns l u.address := fun hbound => hy (.inr ⟨rfl, hbound⟩)
    have hslot : slotContent t.res.seats l u.address = slotContent s.res.seats l u.address :=
      funext fun slot => h.seats.slotContent hfree slot
    simp only [target, seatTarget, hslot]
  | strip => simp only [target, stripTarget, h.active, h.approach, h.delay, h.estimated]
  | headline => simp only [target, headlineTarget, h.active, h.approach, h.delay, h.estimated, h.consist]

/-- The unit of a seat composed: its seat target is on its way. -/
theorem OnTheWay.composedSeat (h : OnTheWay X s) (n : Nat) :
    OnTheWay (fun l a kind => X l a kind ∧ ¬ (kind = .seat ∧ s.bindsTo [n] l a)) (composeSeat s n) := by
  unfold composeSeat
  split
  · rename_i hnone
    refine h.weaken fun l a kind hx => ⟨hx, fun ⟨_, m, hm, slot, hbound⟩ => ?_⟩
    rw [List.mem_singleton.mp hm, hnone] at hbound
    cases hbound
  · rename_i b hb
    refine (h.judged (l := b.link) (b.address, .seat)).weaken fun l a kind ⟨hx, hnot⟩ => ⟨hx, fun ⟨hkind, m, hm, slot, hbound⟩ => ?_⟩
    rw [List.mem_singleton.mp hm, hb] at hbound
    obtain rfl := Option.some.inj hbound
    exact hnot ⟨rfl, rfl, hkind⟩

theorem OnTheWay.composedSeats (ns : List Nat) (h : OnTheWay X s) :
    OnTheWay (fun l a kind => X l a kind ∧ ¬ (kind = .seat ∧ s.bindsTo ns l a)) (composeSeats ns s) := by
  induction ns generalizing s X with
  | nil => exact h.weaken fun _ _ _ hx => ⟨hx, fun ⟨_, _, hm, _⟩ => by cases hm⟩
  | cons n ns ih =>
    refine (ih (h.composedSeat n)).weaken fun l a kind ⟨⟨hx, hfirst⟩, hrest⟩ => ⟨hx, fun ⟨hkind, m, hm, hbound⟩ => ?_⟩
    rcases List.mem_cons.mp hm with rfl | hm
    · exact hfirst ⟨hkind, m, List.mem_singleton_self m, hbound⟩
    · refine hrest ⟨hkind, m, hm, ?_⟩
      rwa [seat_congr (s := s) (by simp) m]

/-- The seats that have changed composed: no target is lost. -/
theorem MovesSeats.composed {ns : List Nat} (h : MovesSeats ns s t) : KeepsWay s (composeSeats ns t) := by
  refine ⟨(composeSeats_keeps ns t).2.2.1.trans h.bus, fun X hs => ?_⟩
  exact ((h.way hs).composedSeats ns).weaken fun l a kind ⟨hx, hnot⟩ => hx.resolve_right hnot

theorem keepsWay_composeLevels (s : State) : KeepsWay s (composeLevels s) :=
  keepsWay_foldl (fun s l => (leadsLink_judgeLevel l _ s).keepsWay) _ s

end

end Sys2Proof.Machine
end

section
/-! PROOFS. The reservation engine keeps every target on its way: the seats whose statuses change are composed (R66 to
R88). -/

namespace Sys2Proof.Machine

section
variable {s t u : State}

/-! ## Statuses changed -/

theorem keepsWay_of_length (hbus : t.bus = s.bus) (h : s.res.seats.length = 128 → KeepsWay s t) : KeepsWay s t :=
  ⟨hbus, fun X hs => (h hs.seats).way X hs⟩

/-- A place at which two lists over the seats differ is listed. -/
theorem mem_changedSeats {α : Type} [DecidableEq α] {before after : List α} {i : Nat} {x y : α}
    (hx : before[i]? = some x) (hy : after[i]? = some y) (hne : x ≠ y) : i + 1 ∈ changedSeats before after := by
  refine List.mem_filterMap.mpr ⟨((x, y), i + 1), ?_, by simp [hne]⟩
  rw [List.mk_mem_zipIdx_iff_le_and_getElem?_sub]
  exact ⟨Nat.le_add_left 1 i, by simp [List.getElem?_zip_eq_some, hx, hy]⟩

theorem seatsMoved_map {ns : List Nat} {es : List SeatEntry} {f : SeatEntry → SeatEntry}
    (hbound : ∀ e, (f e).bound = e.bound)
    (h : ∀ i e, es[i]? = some e → (∀ n ∈ ns, n - 1 ≠ i) → (f e).resolved = e.resolved) :
    SeatsMoved ns es (es.map f) := by
  refine ⟨by simp, fun i e e' he he' => ?_⟩
  obtain rfl : f e = e' := by simpa [he] using he'
  exact ⟨hbound e, h i e he⟩

/-- Every seat is one of the 128. -/
theorem seatsMoved_all {es : List SeatEntry} (hlength : es.length = 128) {f : SeatEntry → SeatEntry}
    (hbound : ∀ e, (f e).bound = e.bound) : SeatsMoved seatNumbers es (es.map f) := by
  refine seatsMoved_map hbound fun i e he hfree => absurd rfl (hfree (i + 1) ?_)
  have hi : i < es.length := (List.getElem?_eq_some_iff.mp he).1
  exact List.mem_map.mpr ⟨i, List.mem_range.mpr (hlength ▸ hi), rfl⟩

/-- One seat entry replaced by one with the same binding. -/
theorem seatsMoved_set {n : Nat} {es : List SeatEntry} {e : SeatEntry}
    (hbound : ∀ d, es[n - 1]? = some d → e.bound = d.bound) : SeatsMoved [n] es (es.set (n - 1) e) := by
  refine ⟨by simp, fun i d d' hd hd' => ?_⟩
  by_cases hi : n - 1 = i
  · subst hi
    rw [List.getElem?_set_self (List.getElem?_eq_some_iff.mp hd).1] at hd'
    obtain rfl := Option.some.inj hd'
    exact ⟨hbound d hd, fun hfree => absurd rfl (hfree n (List.mem_singleton_self n))⟩
  · rw [List.getElem?_set_ne hi, hd] at hd'
    obtain rfl := Option.some.inj hd'
    exact ⟨rfl, fun _ => rfl⟩

/-- A change of the seat table alone. -/
theorem movesSeats_setSeats {ns : List Nat} {es : List SeatEntry} (h : SeatsMoved ns s.res.seats es) :
    MovesSeats ns s (setSeats es s) :=
  ⟨by simp, by simp, by simp, by simp, by simp, by simp, by simp, by simpa using h⟩

theorem alike_setReleaseList (rs : List ReleaseEntry) (s : State) : s.Alike (setReleaseList rs s) :=
  ⟨⟨by simp, by simp, by simp, by simp, by simp, by simp⟩, by simp, by simp⟩

theorem alike_pruneReleases (s : State) : s.Alike (pruneReleases s) := alike_setReleaseList _ s

theorem alike_dropRelease (n : Nat) (s : State) : s.Alike (dropRelease n s) := alike_setReleaseList _ s

theorem alike_raise (n : Notice) (s : State) : s.Alike (raise n s) := alike_of (by simp) (by simp) (by simp)

theorem alike_bump (c : Counter) (s : State) : s.Alike (bump c s) := alike_of (by simp) (by simp) (by simp)

theorem alike_answer (tag : Byte) (kind : RequestKind) (code : ResultCode) (reason : Option InvalidReason) (s : State) :
    s.Alike (answer tag kind code reason s) := alike_of (by simp) (by simp) (by simp)

theorem alike_markStatusIf (b : Bool) (w : Fin 256) (s : State) : s.Alike (markStatusIf b w s) :=
  alike_of (by simp) (by simp) (by simp)

theorem alike_markStatus (w : Fin 256) (s : State) : s.Alike (markStatus w s) :=
  alike_of (by simp) (by simp) (by simp)

theorem State.Alike.trans (h : s.Alike t) (k : t.Alike u) : s.Alike u :=
  ⟨h.shows.trans k.shows, k.bus.trans h.bus, fun l => (k.link l).trans (h.link l)⟩

theorem State.Alike.refl (s : State) : s.Alike s := ⟨.refl s, rfl, fun _ => rfl⟩

theorem alike_foldl {α : Type} {f : State → α → State} (h : ∀ (s : State) x, s.Alike (f s x)) (xs : List α) (s : State) :
    s.Alike (xs.foldl f s) :=
  List.foldlRecOn (motive := s.Alike) xs f (.refl s) fun _ hs x _ => hs.trans (h _ x)

/-! ## The acts of the engine -/

theorem keepsWay_rejudge (s : State) : KeepsWay s (rejudge s) := by
  refine (alike_pruneReleases s).keepsWay.trans (MovesSeats.composed ?_)
  refine movesSeats_setSeats (seatsMoved_map (fun _ => rfl) fun i e he hfree => ?_)
  by_contra hne
  refine hfree (i + 1) (mem_changedSeats (x := e.resolved) (y := (resolved (pruneReleases s) e).resolved) ?_ ?_ (Ne.symm hne)) rfl
  · rw [List.getElem?_map, he]
    rfl
  · rw [resolveAll_res, List.map_map, List.getElem?_map, he]
    rfl

theorem keepsWay_retag (examined : Segment → Bool) (r : ActiveRoute) (removed : Option Nat) (s : State) :
    KeepsWay s (retag examined r removed s) := by
  unfold retag
  dsimp only
  refine MovesSeats.composed ?_
  generalize changedSeats (α := List Segment) _ _ = changed
  have hafter : MovesSeats changed s (setSeats ((s.res.seats.map (dropService removed)).map fun e =>
      { e with segments := e.segments.map (retagSegment examined r) }) s) := by
    refine movesSeats_setSeats ?_
    rw [List.map_map]
    exact seatsMoved_map (fun _ => rfl) fun _ _ _ _ => rfl
  refine hafter.trans ?_
  generalize setSeats _ s = v
  have hraised : v.Alike (raiseMisrouted examined r (s.res.seats.map (dropService removed)) v) :=
    alike_foldl (fun s x => alike_foldl (fun s g => alike_raise _ s) _ s) _ v
  refine ((hraised.trans (alike_pruneReleases _)).movesSeats changed).trans ?_
  generalize pruneReleases _ = w
  refine movesSeats_setSeats ⟨by simp, fun i e e' he he' => ?_⟩
  rw [List.getElem?_map, List.getElem?_zipIdx, he] at he'
  obtain rfl : (if 1 + i ∈ changed then resolved w e else e) = e' := by simpa using he'
  split
  · rename_i hmem
    exact ⟨rfl, fun hfree => absurd (Nat.add_sub_cancel_left 1 i) (hfree _ hmem)⟩
  · exact ⟨rfl, fun _ => rfl⟩

theorem keepsWay_setUnverified (b : Bool) (s : State) : KeepsWay s (setUnverified b s) := by
  refine keepsWay_of_length (by simp) fun hlength => ?_
  unfold setUnverified
  split
  · exact .refl s
  · have hset : s.Alike (markStatus 9 { s with res := { s.res with unverified := b } }) :=
      ⟨⟨by simp, by simp, by simp, by simp, by simp, by simp⟩, by simp, by simp⟩
    refine hset.keepsWay.trans (MovesSeats.composed (movesSeats_setSeats (seatsMoved_all ?_ fun _ => rfl)))
    rwa [hset.shows.seats]

theorem keepsWay_clearSeats (s : State) : KeepsWay s (clearSeats s) := by
  refine keepsWay_of_length (by simp) fun hlength => ?_
  have hemptied := alike_setReleaseList [] s
  unfold clearSeats
  dsimp only
  generalize setReleaseList [] s = v at hemptied
  have hready : s.Alike (markStatus 9 { v with res := { v.res with unverified := false } }) :=
    hemptied.trans ⟨⟨by simp, by simp, by simp, by simp, by simp, by simp⟩, by simp, by simp⟩
  refine hready.keepsWay.trans (MovesSeats.composed (movesSeats_setSeats (seatsMoved_all ?_ fun _ => rfl)))
  rwa [hready.shows.seats]

/-- One seat entry replaced, with the same binding. -/
theorem movesSeats_putSeat {n : Nat} {e : SeatEntry} (h : e.bound = (s.seat n).bound) : MovesSeats [n] s (putSeat n e s) := by
  refine ⟨by simp, by simp, by simp, by simp, by simp, by simp, by simp, ?_⟩
  rw [putSeat_res]
  refine seatsMoved_set fun d hd => h.trans ?_
  simp [State.seat, List.getD, hd]

/-- One seat entry replaced with the same binding, and composed. -/
theorem keepsWay_putSeat {n : Nat} {e : SeatEntry} (h : e.bound = (s.seat n).bound) :
    KeepsWay s (composeSeat (putSeat n e s) n) := (movesSeats_putSeat h).composed

theorem keepsWay_takeCommit (e : CommitEntry) (s : State) : KeepsWay s (takeCommit e s) := by
  unfold takeCommit
  split
  · exact State.Alike.keepsWay ⟨⟨by simp, by simp, by simp, by simp, by simp, by simp⟩, by simp, by simp⟩
  · exact ((alike_bump _ s).keepsWay.trans (keepsWay_setUnverified true _)).trans (alike_raise _ _).keepsWay

theorem keepsWay_applyRecord (r : Record) (s : State) : KeepsWay s (applyRecord r s) := by
  unfold applyRecord
  dsimp only
  have hdropped := alike_dropRelease r.seat s
  generalize dropRelease r.seat s = v at hdropped
  refine hdropped.keepsWay.trans ?_
  split
  · rename_i a _
    have hraised : v.Alike (((newSegments v.route.active r).filter fun g => g.tag == .misrouted).foldl
        (fun s g => raise (misroutedNotice a r.seat g) s) v) := alike_foldl (fun s g => alike_raise _ s) _ v
    refine hraised.keepsWay.trans (keepsWay_putSeat ?_)
    rw [seat_congr hraised.shows.seats]
  · exact keepsWay_putSeat rfl

theorem keepsWay_judgeRecord (e : CommitEntry) (r : Record) (s : State) : KeepsWay s (judgeRecord e r s) := by
  unfold judgeRecord
  split
  · exact ((alike_bump _ s).keepsWay.trans (keepsWay_setUnverified true _)).trans (alike_raise _ _).keepsWay
  · split
    · exact (alike_bump _ s).keepsWay
    · split
      · exact keepsWay_applyRecord r s
      · exact (alike_bump _ s).keepsWay

theorem keepsWay_completeFetch (s : State) : KeepsWay s (completeFetch s) := by
  unfold completeFetch
  split
  · exact .refl s
  · rename_i e rest _
    have htaken : s.Alike { s with res := { s.res with fetchQueue := rest } } :=
      ⟨⟨rfl, rfl, rfl, rfl, rfl, rfl⟩, rfl, by simp⟩
    exact htaken.keepsWay.trans (keepsWay_judgeRecord _ _ _)

theorem keepsWay_expireRelease (x : ReleaseEntry) (s : State) : KeepsWay s (expireRelease x s) := by
  unfold expireRelease
  dsimp only
  have hdropped := alike_dropRelease x.seat s
  generalize dropRelease x.seat s = v at hdropped
  refine hdropped.keepsWay.trans ?_
  split
  · exact .refl v
  · split
    · exact .refl v
    · rename_i r c _ _ g _
      have hraised := alike_raise (.seatReleased x.seat (r.copy.stop g.fromIndex).code g.fromIndex) v
      refine hraised.keepsWay.trans ?_
      generalize raise _ v = w at hraised
      have hput : MovesSeats [x.seat] w (putSeat x.seat (mapSegment (v.seat x.seat) g fun h => { h with released := true }) w) := by
        refine movesSeats_putSeat ?_
        rw [seat_congr hraised.shows.seats]
        rfl
      exact (hput.trans ((alike_markStatus 9 _).movesSeats _)).composed

theorem keepsWay_confirmSeat (tag : Byte) (n : Nat) (s : State) : KeepsWay s (confirmSeat tag n s) := by
  unfold confirmSeat
  split
  · exact (alike_answer _ _ _ _ s).keepsWay
  · dsimp only
    split
    · exact (alike_answer _ _ _ _ s).keepsWay
    · rename_i g hg
      have hready : s.Alike (if g.released then s else dropRelease n s) := by
        split
        · exact .refl s
        · exact alike_dropRelease n s
      refine KeepsWay.trans ?_ (alike_answer _ _ _ _ _).keepsWay
      refine KeepsWay.trans ?_ (alike_markStatusIf _ _ _).keepsWay
      split
      · exact hready.keepsWay
      · refine hready.keepsWay.trans (keepsWay_putSeat ?_)
        rw [seat_congr hready.shows.seats]
        rfl

theorem alike_departed (c : Nat) (k : Lock) (s : State) : s.Alike (departed c k s) := by
  unfold departed
  split
  · split
    · exact alike_setReleaseList _ s
    · exact .refl s
  · exact .refl s

end

end Sys2Proof.Machine
end

section
/-! PROOFS. The filter, the route engine and the approach tracker keep every target on its way: the panels are composed
where what they show changes (R15, R19, R20, R34, R43 to R56). -/

namespace Sys2Proof.Machine

section
variable {s t : State}

/-! ## The motion mode -/

/-- A change that the panels may show: the seats, the links and the bus stand. -/
theorem losesPanels_setFilter (f : Filter) (s : State) : LosesPanels s (setFilter f s) :=
  losesPanels_of (by simp) (by simp) (by simp)

theorem losesPanels_setTracker (k : Tracker) (s : State) : LosesPanels s (setTracker k s) :=
  losesPanels_of (by simp) (by simp) (by simp)

theorem losesPanels_setRoute (r : Route) (s : State) : LosesPanels s (setRoute r s) :=
  losesPanels_of (by simp) (by simp) (by simp)

/-- A change of the filter that leaves the estimated flag as it is. -/
theorem alike_setFilter {f : Filter} (h : f.estimated = s.filter.estimated) : s.Alike (setFilter f s) :=
  ⟨⟨by simp, by simp, by simp, by simp, by simp, by simpa using h⟩, by simp, by simp⟩

/-- A change of the tracker that leaves the approach and the displayed delay as they are. -/
theorem alike_setTracker {k : Tracker} (ha : k.approach = s.tracker.approach) (hd : k.delay = s.tracker.delay) :
    s.Alike (setTracker k s) :=
  ⟨⟨by simp, by simp, by simp, by simpa using ha, by simpa using hd, by simp⟩, by simp, by simp⟩

/-- A change of the route engine that leaves the active route and the consist as they are. -/
theorem alike_setRoute {r : Route} (ha : r.active = s.route.active) (hc : r.consist = s.route.consist) :
    s.Alike (setRoute r s) :=
  ⟨⟨by simp, by simpa using ha, by simpa using hc, by simp, by simp, by simp⟩, by simp, by simp⟩

theorem alike_raiseSome (n : Option Notice) (s : State) : s.Alike (raiseSome n s) := by
  unfold raiseSome
  split
  · exact alike_raise _ s
  · exact .refl s

theorem alike_raiseIf (b : Bool) (n : Notice) (s : State) : s.Alike (raiseIf b n s) :=
  alike_of (by simp) (by simp) (by simp)

/-- The filter replaced: the panels are composed where the estimated flag has changed (R34). -/
theorem keepsWay_composePanelsIf {f : Filter} (h : (setFilter f s).Alike t) :
    KeepsWay s (composePanelsIf (f.estimated != s.filter.estimated) t) := by
  unfold composePanelsIf
  split
  · exact keepsWay_composePanels_of ((losesPanels_setFilter f s).trans h.keepsWay.losesPanels)
  · rename_i hsame
    exact ((alike_setFilter (by simpa using hsame)).trans h).keepsWay

theorem keepsWay_setMode (m : Mode) (s : State) : KeepsWay s (setMode m s) := by
  unfold setMode
  split
  · exact .refl s
  · exact keepsWay_composePanelsIf (alike_raiseSome _ _)

theorem keepsWay_moveBy (e : MotionEvent) (s : State) : KeepsWay s (moveBy e s) := keepsWay_setMode _ s

theorem keepsWay_readCap (s : State) : KeepsWay s (readCap s) := by
  unfold readCap
  split
  · split
    · exact keepsWay_setMode _ s
    · exact .refl s
  · exact .refl s

/-! ## The route engine -/

/-- The cap read, the segments tagged again and judged, and the panels composed. -/
theorem keepsWay_retagged (h : LosesPanels s t) (examined : Segment → Bool) (r : ActiveRoute) (removed : Option Nat) :
    KeepsWay s (composePanels (rejudge (retag examined r removed (readCap t)))) := by
  refine keepsWay_composePanels_of (h.trans (KeepsWay.losesPanels ?_))
  exact ((keepsWay_readCap t).trans (keepsWay_retag _ _ _ _)).trans (keepsWay_rejudge _)

theorem keepsWay_switchRoute (image : ImageId) (start : Start) (copy : RouteCopy) (s : State) :
    KeepsWay s (switchRoute image start copy s) := by
  refine KeepsWay.trans ?_ (alike_raise _ _).keepsWay
  refine keepsWay_retagged ?_ _ _ _
  exact ((losesPanels_setRoute _ s).trans (losesPanels_setTracker _ _)).trans (losesPanels_setFilter _ _)

theorem keepsWay_abandonSwitch (tag : Byte) (reason : InvalidReason) (s : State) :
    KeepsWay s (abandonSwitch tag reason s) := ((alike_setRoute (by rfl) (by rfl)).trans (alike_answer _ _ _ _ _)).keepsWay

theorem keepsWay_enterStop (s : State) : KeepsWay s (enterStop s) := by
  unfold enterStop
  split
  · split
    · exact keepsWay_switchRoute _ _ _ s
    · exact keepsWay_abandonSwitch _ _ s
  · exact .refl s

/-- The request unit replaced. -/
theorem alike_request (q : RequestUnit) (s : State) : s.Alike { s with request := q } :=
  alike_of ⟨rfl, rfl, rfl, rfl⟩ rfl (by simp)

theorem keepsWay_completeActivation (copy : RouteCopy) (s : State) : KeepsWay s (completeActivation copy s) := by
  unfold completeActivation
  split
  · rename_i image start tag _
    refine (alike_request { s.request with busy := none } s).keepsWay.trans ?_
    dsimp only
    split
    · exact keepsWay_abandonSwitch _ _ _
    · split
      · exact (keepsWay_switchRoute _ _ _ _).trans (alike_answer _ _ _ _ _).keepsWay
      · exact ((alike_setRoute (by rfl) (by rfl)).trans (alike_answer _ _ _ _ _)).keepsWay
  · exact .refl s

theorem keepsWay_completePreview (copy : RouteCopy) (s : State) : KeepsWay s (completePreview copy s) := by
  unfold completePreview
  split
  · exact .refl s
  · rename_i image _
    refine (alike_request { s.request with busy := none } s).keepsWay.trans ?_
    dsimp only
    split
    · exact ((alike_setRoute (by rfl) (by rfl)).trans (alike_answer _ _ _ _ _)).keepsWay
    · exact ((alike_setRoute (by rfl) (by rfl)).trans (alike_answer _ _ _ _ _)).keepsWay

/-- The served list replaced: the panels are composed, whatever of them has changed before (R20). -/
theorem keepsWay_replaceServed_of (h : LosesPanels s t) (old new : ActiveRoute) : KeepsWay s (replaceServed old new t) := by
  unfold replaceServed
  split
  · exact keepsWay_composePanels_of (h.trans (losesPanels_setRoute _ t))
  · have hreplaced (k : Tracker) (r : Route) := keepsWay_retagged (s := s) (t := setTracker k (setRoute r t))
      (h.trans ((losesPanels_setRoute r t).trans (losesPanels_setTracker k _)))
    dsimp only
    split
    · exact (hreplaced _ _ _ _ _).trans (keepsWay_enterStop _)
    · exact hreplaced _ _ _ _ _

/-- A consist of another portion taken: the panels are composed, whatever of them has changed before (R19). -/
theorem keepsWay_changePortion_of (h : LosesPanels s t) (r : ActiveRoute) (p : Portion) :
    KeepsWay s (changePortion r p t) := by
  unfold changePortion
  dsimp only
  split
  · refine keepsWay_composePanels_of (h.trans ?_)
    exact (losesPanels_setRoute _ t).trans (alike_raise _ _).keepsWay.losesPanels
  · split
    · have hset := losesPanels_setRoute { t.route with mismatch := false } t
      refine keepsWay_composePanels_of ((h.trans hset).trans (KeepsWay.losesPanels ?_))
      exact (keepsWay_retag _ _ _ _).trans (keepsWay_rejudge _)
    · exact keepsWay_replaceServed_of h _ _

theorem keepsWay_takeConsist (k : Consist) (s : State) : KeepsWay s (takeConsist k s) := by
  unfold takeConsist
  dsimp only
  have hheld : LosesPanels s (markStatus 8 (setRoute { s.route with consist := k } s)) :=
    (losesPanels_setRoute _ s).trans (alike_markStatus 8 _).keepsWay.losesPanels
  split
  · split
    · exact keepsWay_composePanels_of hheld
    · exact keepsWay_changePortion_of hheld _ _
  · exact keepsWay_composePanels_of hheld

/-! ## Transitions of the approach -/

theorem alike_announceNext (r : ActiveRoute) (n : Nat) (s : State) : s.Alike (announceNext r n s) := by
  unfold announceNext
  split
  · exact .refl s
  · exact ((alike_setTracker (by rfl) (by rfl)).trans (alike_raise _ _)).trans (alike_raiseIf _ _ _)

/-- The change of the current stop handed on: the panels are composed (R53). -/
theorem keepsWay_handCurrent (h : LosesPanels s t) : KeepsWay s (handCurrent t) :=
  (keepsWay_composePanels_of (h.trans (keepsWay_rejudge t).losesPanels)).trans (keepsWay_readCap _)

theorem keepsWay_beginApproach (r : ActiveRoute) (a : Approach) (s : State) : KeepsWay s (beginApproach r a s) :=
  (keepsWay_composePanels_of (losesPanels_setTracker _ s)).trans (alike_announceNext _ _ _).keepsWay

theorem keepsWay_beginArriving (r : ActiveRoute) (a : Approach) (s : State) : KeepsWay s (beginArriving r a s) := by
  have hbegun : KeepsWay s (composePanels (setApproach { a with state := .arriving } s)) :=
    keepsWay_composePanels_of (losesPanels_setTracker _ s)
  unfold beginArriving
  dsimp only
  split
  · exact hbegun
  · exact hbegun.trans ((alike_setTracker (by rfl) (by rfl)).trans (alike_raise _ _)).keepsWay

theorem keepsWay_depart (r : ActiveRoute) (a : Approach) (s : State) : KeepsWay s (depart r a s) := by
  have hdeparted (k : Approach) (n : Notice) (c : Nat) (lock : Lock) :
      KeepsWay s (departed c lock (composePanels (raise n (setApproach k s)))) := by
    refine (keepsWay_composePanels_of ?_).trans (alike_departed _ _ _).keepsWay
    exact (losesPanels_setTracker _ s).trans (alike_raise _ _).keepsWay.losesPanels
  unfold depart
  dsimp only
  split
  · exact (hdeparted _ _ _ _).trans (alike_announceNext _ _ _).keepsWay
  · exact hdeparted _ _ _ _

theorem keepsWay_arrive (r : ActiveRoute) (a : Approach) (s : State) : KeepsWay s (arrive r a s) := by
  refine (keepsWay_handCurrent ?_).trans (keepsWay_enterStop _)
  exact (losesPanels_setTracker _ s).trans (alike_raiseIf _ _ _).keepsWay.losesPanels

theorem keepsWay_passStop (r : ActiveRoute) (a : Approach) (s : State) : KeepsWay s (passStop r a s) := by
  have hpassed (k : Tracker) (n : Notice) (c : Nat) (lock : Lock) :
      KeepsWay s (departed c lock (handCurrent (raise n (setTracker k s)))) := by
    refine (keepsWay_handCurrent ?_).trans (alike_departed _ _ _).keepsWay
    exact (losesPanels_setTracker _ s).trans (alike_raise _ _).keepsWay.losesPanels
  cases hfinal : r.last (a.current + 1) with
  | true =>
    simp only [passStop, hfinal, if_true]
    exact (hpassed _ _ _ _).trans (keepsWay_enterStop _)
  | false =>
    simp only [passStop, hfinal, Bool.false_eq_true, if_false]
    exact hpassed _ _ _ _

/-- A round of the pass makes one transition, or none (R42). -/
theorem keepsWay_passRound (release : Bool) (x : Pass) : KeepsWay x.state (passRound release x).state := by
  unfold passRound
  dsimp only
  split
  · rename_i r a hr ha
    split
    case h_1 => split; exacts [keepsWay_depart r a _, .refl _]
    case h_2 =>
      split
      · exact keepsWay_passStop r a _
      · split; exacts [keepsWay_beginArriving r a _, .refl _]
    case h_3 =>
      split
      · exact keepsWay_passStop r a _
      · split; exacts [keepsWay_arrive r a _, .refl _]
    case h_4 =>
      split
      · exact keepsWay_passStop r a _
      · split; exacts [keepsWay_beginApproach r a _, .refl _]
    case h_5 => exact .refl _
  · exact .refl _

theorem keepsWay_runPass (release : Bool) (n : Nat) (x : Pass) : KeepsWay x.state (runPass release n x).state := by
  induction n generalizing x with
  | zero => exact .refl _
  | succ n ih =>
    unfold runPass
    split
    · exact .refl _
    · exact (keepsWay_passRound release x).trans (ih _)

/-! ## Evaluations -/

theorem keepsWay_showDelay (b : Bool) (code : Nat) (s : State) : KeepsWay s (showDelay b code s) := by
  unfold showDelay
  split
  · exact .refl s
  · dsimp only
    split
    · exact keepsWay_composePanels_of ((losesPanels_setTracker _ s).trans (alike_raise _ _).keepsWay.losesPanels)
    · exact .refl s

theorem keepsWay_arithmetic (b : Bool) (s : State) : KeepsWay s (arithmetic b s) := by
  unfold arithmetic
  split
  · split
    · exact (alike_setTracker (by rfl) (by rfl)).keepsWay.trans (keepsWay_showDelay _ _ _)
    · exact (alike_setTracker (by rfl) (by rfl)).keepsWay.trans (keepsWay_showDelay _ _ _)
  · exact .refl s

theorem alike_doorsAway (release : Bool) (x : Pass) : x.state.Alike (doorsAway release x) := by
  unfold doorsAway
  dsimp only
  split
  · exact alike_raiseIf _ _ _
  · exact .refl _

theorem keepsWay_evaluateReport (release : Bool) (s : State) : KeepsWay s (evaluateReport release s) := by
  unfold evaluateReport
  dsimp only
  refine (alike_setTracker (k := Tracker.counted s) (by rfl) (by rfl)).keepsWay.trans ?_
  split
  · exact .refl _
  · refine KeepsWay.trans ?_ (keepsWay_arithmetic _ _)
    refine KeepsWay.trans ?_ (alike_doorsAway _ _).keepsWay
    exact keepsWay_runPass release passRounds ⟨_, false, false, false⟩

theorem keepsWay_evaluateCoast (s : State) : KeepsWay s (evaluateCoast s) := by
  unfold evaluateCoast
  split
  · rename_i r a hr ha
    refine KeepsWay.trans ?_ (keepsWay_arithmetic _ _)
    cases a.state with
    | standing => dsimp only; split; exacts [keepsWay_depart r a s, .refl s]
    | cruising => dsimp only; split; exacts [keepsWay_beginApproach r a s, .refl s]
    | approaching => exact .refl s
    | arriving => exact .refl s
    | terminated => exact .refl s
  · exact .refl s

/-! ## Reports -/

theorem keepsWay_keepReport (v : Verdict) (r : Report) (s : State) : KeepsWay s (keepReport v r s) := by
  unfold keepReport
  dsimp only
  refine KeepsWay.trans ?_ (alike_setFilter (by rfl)).keepsWay
  cases v with
  | restart => exact (alike_bump _ s).keepsWay
  | inconsistent => exact (alike_bump _ s).keepsWay
  | reference => exact .refl s
  | duplicate => exact .refl s
  | consistent => exact .refl s

theorem keepsWay_freshen (s : State) : KeepsWay s (freshen s) := by
  unfold freshen
  dsimp only
  have hfreshened : s.Alike (setFilter { s.filter with
      sourcePresent := true
      freshness := some (s.timebase + ms (s.items.reportPeriod * s.items.freshnessCount)) } s) := alike_setFilter (by rfl)
  split
  · exact hfreshened.keepsWay.trans (keepsWay_moveBy _ _)
  · exact hfreshened.keepsWay

theorem keepsWay_judgeLock (v : Verdict) (s : State) : KeepsWay s (judgeLock v s) := by
  have hmode : (lockJudged s.items v s.filter).mode = s.filter.mode := by cases v <;> rfl
  rw [judgeLock_eq]
  split
  · rename_i hlock
    have hsame : (lockJudged s.items v s.filter).estimated = s.filter.estimated := by
      rw [Filter.estimated, hmode, hlock, Filter.estimated]
    exact (alike_setFilter hsame).keepsWay
  · exact (keepsWay_composePanelsIf (alike_raise _ _)).trans (keepsWay_moveBy _ _)

theorem keepsWay_judgeMode (before : Lock) (v : Verdict) (s : State) : KeepsWay s (judgeMode before v s) := by
  unfold judgeMode
  split
  · cases v with
    | inconsistent => exact keepsWay_moveBy _ s
    | consistent => exact keepsWay_moveBy _ s
    | reference => exact .refl s
    | restart => exact .refl s
    | duplicate => exact .refl s
  · exact .refl s

theorem alike_moveFigures (v : Verdict) (r : Report) (s : State) : s.Alike (moveFigures v r s) := alike_setFilter (by rfl)

theorem keepsWay_offerStates (r : Report) (s : State) : KeepsWay s (offerStates r s) := by
  unfold offerStates
  dsimp only
  split
  · exact (alike_setFilter (by rfl)).keepsWay
  · exact (alike_setFilter (by rfl)).keepsWay.trans (keepsWay_composeLevels _)

theorem keepsWay_takeReport (r : Report) (s : State) : KeepsWay s (takeReport r s) := by
  unfold takeReport
  dsimp only
  split
  · exact (alike_bump _ s).keepsWay
  · refine KeepsWay.trans ?_ (keepsWay_evaluateReport _ _)
    refine KeepsWay.trans ?_ (keepsWay_offerStates _ _)
    refine KeepsWay.trans ?_ (alike_moveFigures _ _ _).keepsWay
    refine KeepsWay.trans ?_ (keepsWay_judgeMode _ _ _)
    refine KeepsWay.trans ?_ (keepsWay_judgeLock _ _)
    exact (keepsWay_keepReport _ _ s).trans (keepsWay_freshen _)

theorem alike_advanceTo (d : Time) (s : State) : s.Alike (advanceTo d s) := alike_of (by simp) (by simp) (by simp)

theorem keepsWay_expireFreshness (s : State) : KeepsWay s (expireFreshness s) := by
  unfold expireFreshness
  split
  · split
    · exact ((alike_advanceTo _ s).trans (alike_setFilter (by rfl))).keepsWay.trans (keepsWay_moveBy _ _)
    · exact .refl s
  · exact .refl s

theorem keepsWay_fireCoastStep (s : State) : KeepsWay s (fireCoastStep s) := by
  unfold fireCoastStep
  split
  · rename_i due hdue
    split
    · refine ((alike_advanceTo due s).keepsWay.trans (keepsWay_readCap _)).trans ?_
      dsimp only
      split
      · split
        · exact (alike_setFilter (by rfl)).keepsWay
        · exact (alike_setFilter (by rfl)).keepsWay.trans (keepsWay_evaluateCoast _)
      · exact .refl _
    · exact .refl s
  · exact .refl s

end

end Sys2Proof.Machine
end

section
/-! PROOFS. Sending and its endings on a link that is up lose no target: replies, misses and fault modes, back-off, rest
and rousing, and the timers of units (R117 to R120, R124 to R134). -/

namespace Sys2Proof.Machine

/-! ## A link that delivers to a unit -/

/-- The units of an address show content. -/
def Link.ShowsAt (k : Link) (a : Nat) : Prop := ∀ u ∈ k.units, u.address = a → u.shows

/-- A link is up, and its unit of an address shows content. -/
structure Delivers (l : LinkId) (a : Nat) (s : State) : Prop where
  up : (s.link l).state.up = true
  distinct : (s.link l).Distinct
  shows : (s.link l).ShowsAt a

/-- What an entry keeps of the contents it acknowledged and of the kinds owed to it. -/
structure UnitEntry.Owes (u v : UnitEntry) : Prop where
  address : v.address = u.address
  page : v.page = u.page
  acknowledged : ∀ kind, v.acknowledged kind = u.acknowledged kind
  owed : ∀ kind, u.owed kind = true → v.owed kind = true

/-- The address, the page, the acknowledged contents and the owed flags of an entry. -/
def UnitEntry.contents (u : UnitEntry) :=
  (u.address, u.page, u.ackSeat, u.ackStrip, u.ackHeadline, u.owedSeat, u.owedStrip, u.owedHeadline)

theorem UnitEntry.owes_of {u v : UnitEntry} (h : v.contents = u.contents) : u.Owes v := by
  simp only [UnitEntry.contents, Prod.mk.injEq] at h
  obtain ⟨ha, hp, hseat, hstrip, hheadline, hseat', hstrip', hheadline'⟩ := h
  refine ⟨ha, hp, fun kind => ?_, fun kind => ?_⟩
  · cases kind with
    | seat => exact hseat
    | strip => exact hstrip
    | headline => exact hheadline
  · cases kind with
    | seat => exact hseat'.trans
    | strip => exact hstrip'.trans
    | headline => exact hheadline'.trans

theorem UnitEntry.Owes.trans {u v w : UnitEntry} (h : u.Owes v) (k : v.Owes w) : u.Owes w :=
  ⟨k.address.trans h.address, k.page.trans h.page, fun kind => (k.acknowledged kind).trans (h.acknowledged kind),
    fun kind x => k.owed kind (h.owed kind x)⟩

theorem UnitEntry.owes_refresh (u : UnitEntry) : u.Owes u.refresh :=
  ⟨u.flagged_refresh.address, u.flagged_refresh.stays.page, u.flagged_refresh.acknowledged, fun kind h => by simp [h]⟩

theorem UnitEntry.Flagged.timed {u v : UnitEntry} (h : u.Flagged v) : v.Timed ↔ u.Timed := by
  obtain ⟨_, _, _, rfl⟩ := h
  exact .rfl

theorem UnitEntry.shows_of_state {u v : UnitEntry} (h : v.state = u.state) : v.shows ↔ u.shows := by
  rw [UnitEntry.shows, UnitEntry.shows, h]

section
variable {l : LinkId} {held held' : Option Item} {s t : State} {a : Nat}

theorem LeadsLink.delivers (h : LeadsLink l held held' s t) (hs : Delivers l a s) : Delivers l a t := by
  have hleads := h.link hs.distinct
  refine ⟨hleads.up.trans hs.up, h.distinct hs.distinct, fun v hv ha => ?_⟩
  obtain ⟨u, hu, hstays, -⟩ := exists_of_forall₂ hleads.units hv
  exact hstays.shows.mpr (hs.shows u hu (hstays.address.symm.trans ha))

/-- A unit of a link that is up that shows content changed, and it still shows content. -/
theorem leadsLink_shown {f : UnitEntry → UnitEntry} (hs : Delivers l a s) (howes : ∀ u : UnitEntry, u.Owes (f u))
    (hshows : ∀ u : UnitEntry, u.shows → (f u).shows) : LeadsLink l held held s (updateUnit l a f s) := by
  refine leadsLink_updateUnit fun _ => Link.leads_mapUnit (aim_target s l) _ a (fun u hu ha => ?_) fun _ _ _ _ => rfl
  have hu' := hs.shows u hu ha
  have hdue := howes u
  exact ⟨⟨hdue.address, hdue.page, iff_of_true (hshows u hu') hu', fun _ => .inr hu'⟩, .inl hs.up, fun kind _ =>
    ⟨referenceBy_congr hdue.address (hdue.acknowledged kind), hdue.owed kind⟩⟩

/-- A unit changed whose state stands and that comes neither to rest nor to back off. -/
theorem leadsLink_calm {f : UnitEntry → UnitEntry} (howes : ∀ u : UnitEntry, u.Owes (f u)) (hstate : ∀ u, (f u).state = u.state)
    (htimed : ∀ u, (f u).Timed → u.Timed) : LeadsLink l held held s (updateUnit l a f s) := by
  refine leadsLink_updateUnit fun _ => Link.leads_mapUnit (aim_target s l) _ a (fun u _ _ => ?_) fun _ _ _ _ => rfl
  have hdue := howes u
  exact ⟨⟨hdue.address, hdue.page, UnitEntry.shows_of_state (hstate u), fun x => .inl (htimed u x)⟩, .inr (hstate u),
    fun kind _ => ⟨referenceBy_congr hdue.address (hdue.acknowledged kind), hdue.owed kind⟩⟩

/-! ## Replies -/

theorem leadsLink_alike (h : s.Alike t) : LeadsLink l held held s t := h.leadsLink l held

theorem leadsLink_judgeQuiet (l : LinkId) (held : Option Item) (s : State) : LeadsLink l held held s (judgeQuiet l s) := by
  unfold judgeQuiet
  dsimp only
  split
  · exact leadsLink_putLink fun _ => Link.leads_flags (aim_target s l) ⟨rfl, rfl, rfl, rfl, rfl, rfl, rfl⟩
  · exact .refl l held s

theorem leadsLink_countMiss (l : LinkId) (held : Option Item) (s : State) : LeadsLink l held held s (countMiss l s) := by
  refine (leadsLink_alike (alike_bump l.missCounter s)).trans ?_
  unfold countMiss
  dsimp only
  split
  · exact leadsLink_flags fun _ => ⟨rfl, rfl, rfl, rfl, rfl, rfl, rfl⟩
  · exact .refl l held _

/-- OK to a SHOW: its content is the acknowledged one (R117). -/
theorem leadsLink_showOk (hs : Delivers l a s) (c : Content) :
    LeadsLink l (some ⟨a, .content c⟩) none s (showOk l a c s) := by
  refine leadsLink_updateUnit fun _ => Link.leads_mapUnit (aim_target s l) _ a (fun u hu ha => ?_) fun u _ ha kind => ?_
  · rw [beginHold_eq, acknowledge_eq]
    have hu' := hs.shows u hu ha
    refine ⟨⟨rfl, rfl, iff_of_true ?_ hu', fun _ => .inr hu'⟩, .inl hs.up, fun kind _ => ⟨?_, fun h => ?_⟩⟩
    · unfold UnitEntry.shows at hu' ⊢
      dsimp only [UnitEntry.answered, UnitEntry.succeed]
      split <;> simp_all
    · rw [referenceBy_none]
      by_cases hkind : c.kind = kind
      · subst hkind
        rw [referenceBy_self a c ha]
        cases hc : c.kind <;> simp [UnitEntry.acknowledged, UnitEntry.answered, UnitEntry.succeed]
      · rw [← referenceBy_released fun _ h => hkind h.symm, referenceBy_none]
        cases kind <;> simp [UnitEntry.acknowledged, UnitEntry.answered, UnitEntry.succeed, hkind]
    · cases kind <;> exact h
  · exact referenceBy_released (absurd · ha)

theorem shows_answered {u : UnitEntry} (h : u.shows) : u.answered.shows := by
  unfold UnitEntry.shows UnitEntry.answered at *
  dsimp only
  split <;> simp_all

theorem leadsLink_probeReply (hs : Delivers l a s) (busy : Bool) :
    LeadsLink l held held s ((if busy then probeBusy l a else probeOk l a) s) := by
  cases busy
  · exact leadsLink_shown hs (fun _ => UnitEntry.owes_of rfl) fun _ h => shows_answered h
  · exact leadsLink_calm (fun _ => UnitEntry.owes_of rfl) (fun _ => rfl) fun _ => id

theorem leadsLink_giveBack (l : LinkId) (it : Item) (s : State) :
    LeadsLink l (some it) none s (onLink l (fun k => k.giveBack it) s) :=
  leadsLink_onLink fun hs => Link.leads_giveBack (aim_target s l) hs it

theorem leadsLink_showBusy (l : LinkId) (it : Item) (s : State) : LeadsLink l (some it) none s (showBusy l it s) := by
  refine LeadsLink.trans ?_ (leadsLink_giveBack l it _)
  exact leadsLink_calm (fun _ => UnitEntry.owes_of rfl) (fun _ => rfl) fun _ => id

/-! ## Fault handling -/

/-- The item handed to a fault handler is the one that is out of the queue, or none is handed over. -/
def Returned (it held held' : Option Item) : Prop := it = held ∧ held' = none ∨ it = none ∧ held' = held

theorem leadsLink_oweItem {it : Option Item} (h : Returned it held held') (l : LinkId) (s : State) :
    LeadsLink l held held' s (oweItem l it s) := by
  obtain ⟨rfl, rfl⟩ | ⟨rfl, rfl⟩ := h
  · cases it with
    | none => exact .refl l none s
    | some it => exact leadsLink_onLink (f := fun k => k.owe it) fun hs => Link.leads_oweHeld (aim_target s l) hs it
  · exact .refl l held' s

theorem leadsLink_giveBackItem {it : Option Item} (h : Returned it held held') (l : LinkId) (s : State) :
    LeadsLink l held held' s (giveBackItem l it s) := by
  obtain ⟨rfl, rfl⟩ | ⟨rfl, rfl⟩ := h
  · cases it with
    | none => exact .refl l none s
    | some it => exact leadsLink_giveBack l it s
  · exact .refl l held' s

/-- A unit that shows content enters fault handling in each mode (R126, R127, R129). -/
theorem leadsLink_enterFault (hs : Delivers l a s) (cause : FailCause) {it : Option Item}
    (h : Returned it held held') : LeadsLink l held held' s (enterFault l a cause it s) := by
  have hunit (f : UnitEntry → UnitEntry) (howes : ∀ u : UnitEntry, u.Owes (f u)) (hshows : ∀ u, (f u).shows) :
      LeadsLink l held held s (updateUnit l a f s) := leadsLink_shown hs howes fun u _ => hshows u
  unfold enterFault
  split
  · refine LeadsLink.trans ?_ (leadsLink_oweItem h l _)
    refine LeadsLink.trans ?_ (leadsLink_alike (alike_raise _ _))
    exact hunit _ (fun _ => UnitEntry.owes_of rfl) fun _ => ⟨nofun, nofun⟩
  · refine LeadsLink.trans ?_ (leadsLink_oweItem h l _)
    exact hunit _ (fun _ => UnitEntry.owes_of rfl) fun _ => ⟨nofun, nofun⟩
  · refine LeadsLink.trans ?_ (leadsLink_giveBackItem h l _)
    refine LeadsLink.trans ?_ (leadsLink_alike (alike_raiseIf _ _ _))
    exact hunit _ (fun _ => UnitEntry.owes_of rfl) fun _ => ⟨nofun, nofun⟩

theorem shows_suspect {u : UnitEntry} (h : u.shows) (n : Nat) :
    ({ u with missCount := n, state := if u.state = .active then .suspect else u.state } : UnitEntry).shows := by
  unfold UnitEntry.shows at *
  dsimp only
  split <;> simp_all

/-- A queued SHOW or PROBE has missed (R124). -/
theorem leadsLink_missItem {it : Item} (hs : Delivers l it.address s) :
    LeadsLink l (some it) none s (missItem l it s) := by
  unfold missItem
  split
  · rename_i hnone
    have habsent : ∀ u ∈ (s.link l).units, u.address ≠ it.address := by
      simpa [Link.unit, List.find?_eq_none] using hnone
    refine ⟨.refl s, rfl, fun _ _ => rfl, fun _ => Link.leads_dropped (aim_target s l) habsent⟩
  · dsimp only
    split
    · refine LeadsLink.trans ?_ (leadsLink_giveBack l it _)
      exact leadsLink_shown hs (fun _ => UnitEntry.owes_of rfl) fun _ h =>
        shows_suspect h _
    · have hcounted (n : Nat) :
          LeadsLink l (some it) (some it) s (updateUnit l it.address (fun u => { u with missCount := n }) s) :=
        leadsLink_calm (fun _ => UnitEntry.owes_of rfl) (fun _ => rfl) fun _ => id
      exact (hcounted _).trans (leadsLink_enterFault ((hcounted _).delivers hs) _ (.inl ⟨rfl, rfl⟩))

/-! ## Back-off probes -/

theorem leadsLink_recoverUnit (hs : Delivers l a s) : LeadsLink l held held s (recoverUnit l a s) := by
  unfold recoverUnit
  split
  · exact .refl l held s
  · refine LeadsLink.trans ?_ (leadsLink_sweepLink l held _)
    refine LeadsLink.trans ?_ (leadsLink_alike (alike_raise _ _))
    refine leadsLink_shown hs (fun u => ?_) fun u _ => ?_
    · refine UnitEntry.Owes.trans (v := u.succeed s.timebase s.items.probeInterval) (UnitEntry.owes_of ?_) ?_
      · exact rfl
      · exact (UnitEntry.owes_refresh _).trans (UnitEntry.owes_of rfl)
    · unfold UnitEntry.shows
      dsimp only
      split <;> exact ⟨nofun, nofun⟩

theorem leadsLink_missBackoff (hs : Delivers l a s) : LeadsLink l held held s (missBackoff l a s) := by
  unfold missBackoff
  split
  · exact .refl l held s
  · dsimp only
    split
    · refine LeadsLink.trans ?_ (leadsLink_alike (alike_raise _ _))
      exact leadsLink_shown hs (fun _ => UnitEntry.owes_of rfl) fun _ _ =>
        ⟨nofun, nofun⟩
    · exact leadsLink_shown hs (fun _ => UnitEntry.owes_of rfl) fun _ h => h

/-! ## Rest and rousing -/

/-- The state of a link that is up changed for another, with its wake probe position. -/
theorem Link.leads_awake {goal : UnitEntry → ContentKind → Content} (haim : Aim goal) {k k' : Link}
    (hup : k.state.up = true) (hup' : k'.state.up = true) (h : k'.nextAddress = k.nextAddress ∧
      k'.reenumerate = k.reenumerate ∧ k'.transaction = k.transaction ∧ k'.units = k.units ∧ k'.queue = k.queue)
    (hwake : ∀ b, k'.wakePosition = some b → ∃ u ∈ k.units, u.address = b ∧ (u.Timed ∨ u.shows)) :
    Link.Leads goal held held k k' := by
  obtain ⟨hnext, hreenumerate, htransaction, hunits, hqueue⟩ := h
  have hself : List.Forall₂ (Link.Led goal held held k k') k.units k.units :=
    forall₂_self (fun u => Link.led_self haim hqueue u) k.units
  exact ⟨.inr ⟨hup, hup'⟩, hnext, hreenumerate, htransaction, .inr ⟨hup, hwake⟩, hunits ▸ hself⟩

theorem leadsLink_finishRousing (l : LinkId) (held : Option Item) (s : State) :
    LeadsLink l held held s (finishRousing l s) := by
  unfold finishRousing
  split
  · rename_i hrousing
    obtain ⟨hrousing, -⟩ := hrousing
    refine LeadsLink.trans ?_ (leadsLink_judgeQuiet l held _)
    refine LeadsLink.trans ?_ (leadsLink_sweepLink l held _)
    exact leadsLink_onLink fun _ => Link.leads_awake (aim_target s l) (by rw [hrousing]; rfl) rfl
      ⟨rfl, rfl, rfl, rfl, rfl⟩ nofun
  · exact .refl l held s

/-- The next unit to be probed at rousing is rested. -/
theorem nextRested_timed {k : Link} {except : Option Nat} {b : Nat} (h : k.nextRested except = some b) :
    ∃ u ∈ k.units, u.address = b ∧ u.Timed := by
  obtain ⟨u, hu, rfl⟩ := Option.map_eq_some_iff.mp h
  have hrested := List.find?_some hu
  rw [Bool.and_eq_true] at hrested
  exact ⟨u, List.mem_of_find?_eq_some hu, rfl, .inl hrested.1⟩

theorem leadsLink_advanceWake (hup : (s.link l).state.up = true) (except : Option Nat) :
    LeadsLink l held held s (advanceWake l except s) :=
  leadsLink_onLink fun _ => Link.leads_awake (aim_target s l) hup hup ⟨rfl, rfl, rfl, rfl, rfl⟩ fun _ hb =>
    (nextRested_timed hb).imp fun _ ⟨hu, ha, htimed⟩ => ⟨hu, ha, .inl htimed⟩

theorem leadsLink_afterWake (hup : (s.link l).state.up = true) : LeadsLink l held held s (afterWake l s) :=
  (leadsLink_advanceWake hup none).trans (leadsLink_finishRousing l held _)

theorem leadsLink_wakeUnit (hs : Delivers l a s) (busy : Bool) : LeadsLink l held held s (wakeUnit l a busy s) := by
  refine leadsLink_shown hs (fun u => ?_) fun _ _ => ⟨nofun, nofun⟩
  refine UnitEntry.Owes.trans (v := u.succeed s.timebase s.items.probeInterval) (UnitEntry.owes_of ?_) ?_
  · exact rfl
  · exact (UnitEntry.owes_refresh _).trans (UnitEntry.owes_of rfl)

theorem leadsLink_endEpisode (l : LinkId) (a : Nat) (held : Option Item) (s : State) :
    LeadsLink l held held s (endEpisode l a s) :=
  leadsLink_calm (fun _ => UnitEntry.owes_of rfl) (fun _ => rfl) fun _ => id

/-- A unit has not answered at rousing (R133). -/
theorem leadsLink_wakeMissed (hs : Delivers l a s) : LeadsLink l held held s (wakeMissed l a s) := by
  have howed : LeadsLink l held held s
      (updateUnit l a (fun u => { u.refresh with rested := false }) (bump l.wakeCounter s)) := by
    refine (leadsLink_alike (alike_bump l.wakeCounter s)).trans (leadsLink_calm (fun u => ?_) (fun u => ?_) fun u => ?_)
    · exact u.owes_refresh.trans (UnitEntry.owes_of rfl)
    · exact u.flagged_refresh.state
    · rintro (hrested | hacts)
      · cases hrested
      · exact u.flagged_refresh.timed.mp (.inr hacts)
  exact howed.trans (leadsLink_enterFault (howed.delivers hs) _ (.inr ⟨rfl, rfl⟩))

/-- A wake probe answered, in time or late, and the next position (R129, R133). -/
theorem leadsLink_wakeAnswered (hs : Delivers l a s) (timely busy : Bool) :
    LeadsLink l held held s (afterWake l (if timely then wakeUnit l a busy s
      else wakeMissed l a (if busy then s else endEpisode l a s))) := by
  have hended : LeadsLink l held held s (if busy then s else endEpisode l a s) := by
    split
    · exact (.refl l held s)
    · exact leadsLink_endEpisode l a held s
  have hresolved : LeadsLink l held held s (if timely then wakeUnit l a busy s
      else wakeMissed l a (if busy then s else endEpisode l a s)) := by
    split
    · exact leadsLink_wakeUnit hs busy
    · exact hended.trans (leadsLink_wakeMissed (hended.delivers hs))
  exact hresolved.trans (leadsLink_afterWake (hresolved.delivers hs).up)

/-- REST sent: the units able to rest show content (R132). -/
theorem leadsLink_rested (hup : (s.link l).state.up = true) : LeadsLink l held held s (rested l s) := by
  unfold rested
  dsimp only
  refine LeadsLink.trans (leadsLink_setLinkUnits fun _ => ?_) (leadsLink_flags fun _ => ⟨rfl, rfl, rfl, rfl, rfl, rfl, rfl⟩)
  refine ⟨.inr ⟨hup, rfl⟩, rfl, rfl, rfl, .inl rfl, forall₂_map_self fun u _ => ?_⟩
  split
  · rename_i hrests
    rw [Bool.and_eq_true, able_iff] at hrests
    obtain ⟨hable, -⟩ := hrests
    have hshows : u.shows := by
      unfold UnitEntry.shows
      rcases hable with h | h <;> simp [h]
    refine Link.led_of (aim_target s l) ⟨rfl, rfl, iff_of_true ⟨nofun, nofun⟩ hshows, fun _ => .inr hshows⟩ (.inl hup) rfl
      fun kind _ => ⟨?_, fun h => ?_⟩
    · exact referenceBy_congr rfl (by cases kind <;> rfl)
    · cases kind <;> exact h
  · exact Link.led_self (aim_target s l) rfl u

/-- ROUSE sent (R132). -/
theorem leadsLink_roused (hup : (s.link l).state.up = true) : LeadsLink l held held s (roused l s) := by
  refine LeadsLink.trans ?_ (leadsLink_finishRousing l held _)
  refine LeadsLink.trans ?_ (leadsLink_advanceWake (by simp [LinkState.up]) none)
  have hwake (hs : (s.link l).Distinct) : Link.Leads (target s l) held held (s.link l)
      { s.link l with rouseDue := false, state := .rousing, wakeExpiry := some (s.timebase + ms s.items.wakeTime) } := by
    refine ⟨.inr ⟨hup, rfl⟩, rfl, rfl, rfl, .inl rfl, ?_⟩
    exact forall₂_self (fun u => Link.led_self (aim_target s l) rfl u) _
  exact leadsLink_onLink hwake

/-- The wake expiry of a link that is up: the units not yet probed are rested ones (R133). -/
theorem leadsLink_expireWake (hs : (s.link l).Distinct) (hup : (s.link l).state.up = true)
    (hrested : ∀ u ∈ (s.link l).units, u.rested = true → u.shows) (t : Time) :
    LeadsLink l held held s (expireWake l t s) := by
  have hmissed (as : List Nat) (s : State) (h : ∀ a ∈ as, Delivers l a s) :
      LeadsLink l held held s (as.foldl (fun s a => wakeMissed l a s) s) := by
    induction as generalizing s with
    | nil => exact .refl l held s
    | cons a as ih =>
      have hfirst := leadsLink_wakeMissed (held := held) (h a List.mem_cons_self)
      exact hfirst.trans (ih _ fun b hb => hfirst.delivers (h b (List.mem_cons_of_mem a hb)))
  have hadvanced : LeadsLink l held held s (advanceTo t s) := leadsLink_alike (alike_advanceTo t s)
  have hresolved (as : List Nat) (has : ∀ a ∈ as, ∃ u ∈ (s.link l).units, u.address = a ∧ u.rested = true) :
      LeadsLink l held held s (as.foldl (fun s a => wakeMissed l a s) (advanceTo t s)) := by
    refine hadvanced.trans (hmissed _ _ fun a ha => hadvanced.delivers ⟨hup, hs, fun u hu hua => ?_⟩)
    obtain ⟨v, hv, hva, hvrested⟩ := has a ha
    obtain rfl := hs.eq hu hv (hua.trans hva.symm)
    exact hrested u hu hvrested
  have hdue (probed : Option Nat) : ∀ a ∈ (((advanceTo t s).link l).units.filter fun u =>
      u.rested && decide (some u.address ≠ probed)).map UnitEntry.address,
      ∃ u ∈ (s.link l).units, u.address = a ∧ u.rested = true := by
    intro a ha
    obtain ⟨u, hu, rfl⟩ := List.mem_map.mp ha
    rw [List.mem_filter, Bool.and_eq_true, (alike_advanceTo t s).link l] at hu
    obtain ⟨hmem, hrested, -⟩ := hu
    exact ⟨u, hmem, rfl, hrested⟩
  unfold expireWake
  dsimp only
  have hall (probed : Option Nat) := hresolved _ (hdue probed)
  exact ((hall _).trans (leadsLink_advanceWake (((hall _).link hs).up.trans hup) _)).trans
    (leadsLink_finishRousing l held _)

theorem leadsLink_handService (l : LinkId) (held : Option Item) (s : State) :
    LeadsLink l held held s (handService s l) := by
  unfold handService
  split
  · exact leadsLink_flags fun _ => ⟨rfl, rfl, rfl, rfl, rfl, rfl, rfl⟩
  · exact leadsLink_judgeQuiet l held s

theorem leadsLink_expireQuiet (l : LinkId) (t : Time) (held : Option Item) (s : State) :
    LeadsLink l held held s (expireQuiet l t s) := by
  unfold expireQuiet
  exact (leadsLink_alike (alike_advanceTo t s)).trans (leadsLink_flags fun _ => ⟨rfl, rfl, rfl, rfl, rfl, rfl, rfl⟩)

/-! ## Timers of units, REFRESH, and a clearing read -/

theorem leadsLink_expireProbe (l : LinkId) (u : UnitEntry) (held : Option Item) (s : State) :
    LeadsLink l held held s (expireProbe l u s) := by
  refine (leadsLink_alike (alike_advanceTo u.probeDeadline s)).trans ?_
  refine LeadsLink.trans ?_ (leadsLink_calm (fun _ => UnitEntry.owes_of rfl) (fun _ => rfl) fun _ => id)
  split
  · exact leadsLink_offerItem (it := ⟨u.address, .probe⟩) (fun _ => nofun) l held _
  · exact .refl l held _

/-- A back-off expiry reached: the unit was backing off (R128). -/
theorem leadsLink_expireBackoff {u : UnitEntry} (hs : (s.link l).Distinct) (hu : (s.link l).unit a = some u)
    (hbackoff : u.backoff.isSome = true) (t : Time) : LeadsLink l held held s (expireBackoff l a t s) := by
  refine (leadsLink_alike (alike_advanceTo t s)).trans ?_
  refine leadsLink_updateUnit fun _ => Link.leads_mapUnit (aim_target _ l) _ a (fun v hv ha => ?_) fun _ _ _ _ => rfl
  rw [(alike_advanceTo t s).link l] at hv
  obtain ⟨hmem, hua⟩ := Link.unit_mem hu
  obtain rfl := hs.eq hv hmem (ha.trans hua.symm)
  have howes : v.Owes { v with backoff := none, probeDue := some t } := UnitEntry.owes_of rfl
  exact ⟨⟨rfl, rfl, .rfl, fun _ => .inl (.inr (.inl hbackoff))⟩, .inr rfl, fun kind _ =>
    ⟨referenceBy_congr rfl (howes.acknowledged kind), howes.owed kind⟩⟩

theorem leadsLink_expireHold (l : LinkId) (a : Nat) (t : Time) (held : Option Item) (s : State) :
    LeadsLink l held held s (expireHold l a t s) := by
  have hended : LeadsLink l held held s (updateUnit l a (fun u => { u with hold := none }) (advanceTo t s)) :=
    (leadsLink_alike (alike_advanceTo t s)).trans
      (leadsLink_calm (fun _ => UnitEntry.owes_of rfl) (fun _ => rfl) fun _ => id)
  unfold expireHold
  dsimp only
  split
  · exact hended.trans (leadsLink_onLink fun hs => Link.leads_payOwed (aim_target _ l) hs rfl a _)
  · exact hended

theorem leadsLink_refreshLink (l : LinkId) (held : Option Item) (s : State) :
    LeadsLink l held held s (refreshLink l s) := by
  refine LeadsLink.trans (leadsLink_onLink fun _ => ?_) (leadsLink_sweepLink l held _)
  refine .of_control rfl (forall₂_map_self fun u _ => ?_)
  have howes := u.owes_refresh
  exact Link.led_of (aim_target s l) u.flagged_refresh.stays (.inr u.flagged_refresh.state) rfl fun kind _ =>
    ⟨referenceBy_congr howes.address (howes.acknowledged kind), howes.owed kind⟩

theorem alike_setClearPending (n : Nat) (s : State) : s.Alike (setClearPending n s) :=
  alike_of (by simp) (by simp) (by simp)

theorem leadsLink_clearLink (l : LinkId) (v : Word) (held : Option Item) (s : State) :
    LeadsLink l held held s (clearLink l v s) := by
  unfold clearLink
  dsimp only
  refine LeadsLink.trans ?_ (leadsLink_alike (alike_setClearPending _ _))
  refine LeadsLink.trans ?_ (leadsLink_alike (alike_markStatus _ _))
  exact leadsLink_flags fun _ => ⟨rfl, rfl, rfl, rfl, rfl, rfl, rfl⟩

end

end Sys2Proof.Machine
end

section
/-! PROOFS. Frames begun and ended: no target is lost where a frame of a link that is up begins or ends (R93, R116, R130,
R132, R133). -/

namespace Sys2Proof.Machine

/-! ## A link without a frame -/

/-- What leads from one state to another leaves the bus alone, and every target on its way where every one was. -/
structure StaysOnWay (s t : State) : Prop where
  bus : t.bus = s.bus
  way : OnTheWay noTarget s → OnTheWay noTarget t

/-- Every target is on its way, and a link that is up has no frame in flight while an item is out of its queue. -/
structure Handed (l : LinkId) (held : Option Item) (s : State) : Prop where
  seats : s.res.seats.length = 128
  up : (s.link l).state.up = true
  idle : (s.link l).transaction = none
  link : Link.OnWay l (noTarget l) held (target s l) (s.link l)
  others : ∀ m, m ≠ l → Link.OnWay m (noTarget m) (s.link m).inFlight (target s m) (s.link m)

section
variable {l : LinkId} {held held' : Option Item} {s t u : State} {a : Nat}

theorem KeepsWay.stays (h : KeepsWay s t) : StaysOnWay s t := ⟨h.bus, h.way noTarget⟩

theorem LeadsLink.stays (h : LeadsLink l (s.link l).inFlight (s.link l).inFlight s t) : StaysOnWay s t := h.keepsWay.stays

theorem State.Alike.stays (h : s.Alike t) : StaysOnWay s t := h.keepsWay.stays

theorem StaysOnWay.refl (s : State) : StaysOnWay s s := ⟨rfl, id⟩

theorem StaysOnWay.trans (h : StaysOnWay s t) (k : StaysOnWay t u) : StaysOnWay s u :=
  ⟨k.bus.trans h.bus, fun hs => k.way (h.way hs)⟩

theorem staysOnWay_foldl {α : Type} {f : State → α → State} (h : ∀ s x, StaysOnWay s (f s x)) (xs : List α) (s : State) :
    StaysOnWay s (xs.foldl f s) :=
  List.foldlRecOn (motive := StaysOnWay s) xs f (.refl s) fun _ hs x _ => hs.trans (h _ x)

theorem inFlight_idle {k : Link} (h : k.transaction = none) : k.inFlight = none := by simp [Link.inFlight, h]

/-- The item in flight, by the purpose of the frame. -/
theorem inFlight_of {k : Link} {t : Transaction} (ht : k.transaction = some t)
    (h : ∀ it, t.purpose = .item it ↔ held = some it) : k.inFlight = held := by
  unfold Link.inFlight
  rw [ht]
  dsimp only
  split
  · rename_i hitem
    exact ((h _).mp hitem).symm
  · rename_i hother
    exact (Option.eq_none_iff_forall_ne_some.mpr fun it hit => hother it ((h it).mpr hit)).symm

theorem Handed.distinct (h : Handed l held s) : (s.link l).Distinct := h.link.orderly.distinct

theorem LeadsLink.handed (h : LeadsLink l held held' s t) (hs : Handed l held s) : Handed l held' t := by
  have hleads := h.link hs.distinct
  refine ⟨(congrArg List.length h.shows.seats).trans hs.seats, hleads.up.trans hs.up, hleads.transaction.trans hs.idle,
    ?_, fun m hm => ?_⟩
  · rw [h.shows.target_eq]
    exact hleads.onWay hs.link
  · rw [h.shows.target_eq, h.others m hm]
    exact hs.others m hm

theorem Handed.onTheWay (h : Handed l none s) : OnTheWay noTarget s := by
  refine ⟨h.seats, fun m => ?_⟩
  by_cases hm : m = l
  · subst hm
    rw [inFlight_idle h.idle]
    exact h.link
  · exact h.others m hm

theorem OnTheWay.handed (h : OnTheWay noTarget s) (hup : (s.link l).state.up = true)
    (hidle : (s.link l).transaction = none) : Handed l none s :=
  ⟨h.seats, hup, hidle, inFlight_idle hidle ▸ h.link l, fun m _ => h.link m⟩

theorem target_beginFrame (l : LinkId) (p : Purpose) (a : Nat) (kind : FrameKind) (payload : List Half) (s : State) :
    target (beginFrame l p a kind payload s) = target s := (shows_of (by simp)).target_eq

/-- A frame of a link that is up begun: it carries the item out of the queue, if one is. -/
theorem Handed.begun (h : Handed l held s) {p : Purpose} (hcalm : p.enumerates = false)
    (hcarries : ∀ it, p = .item it ↔ held = some it)
    (hshown : ∀ b, p.shownUnit = some b → (s.link l).ShowsAt b) (a : Nat) (kind : FrameKind) (payload : List Half) :
    OnTheWay noTarget (beginFrame l p a kind payload s) := by
  refine ⟨by simpa using h.seats, fun m => ?_⟩
  rw [target_beginFrame]
  by_cases hm : m = l
  · subst hm
    rw [beginFrame_self]
    rw [inFlight_of rfl hcarries]
    exact h.link.begun h.up hcalm fun u hu hshow => hshown _ hshow u hu rfl
  · rw [beginFrame_other _ _ _ _ _ _ _ hm]
    exact h.others m hm

/-- A frame begun that carries no item. -/
theorem Handed.begun_calm (h : Handed l none s) {p : Purpose} (hcalm : p.enumerates = false) (hitem : ∀ it, p ≠ .item it)
    (hshown : ∀ b, p.shownUnit = some b → (s.link l).ShowsAt b) (a : Nat) (kind : FrameKind) (payload : List Half) :
    OnTheWay noTarget (beginFrame l p a kind payload s) :=
  h.begun hcalm (fun it => iff_of_false (hitem it) nofun) hshown a kind payload

/-- A frame begun that carries no item and is to no unit that must show content. -/
theorem Handed.begun_silent (h : Handed l none s) {p : Purpose} (hcalm : p.enumerates = false)
    (hitem : ∀ it, p ≠ .item it) (hsilent : p.shownUnit = none) (a : Nat) (kind : FrameKind) (payload : List Half) :
    OnTheWay noTarget (beginFrame l p a kind payload s) :=
  h.begun_calm hcalm hitem (by simp [hsilent]) a kind payload

/-! ## The next frame -/

theorem Handed.showsAt {v : UnitEntry} (h : Handed l held s) (hv : v ∈ (s.link l).units) (ha : v.address = a)
    (hacts : v.Timed) : (s.link l).ShowsAt a := by
  intro w hw hwa
  obtain rfl := h.distinct.eq hw hv (hwa.trans ha.symm)
  exact h.link.orderly.resting w hw (.inl hacts)

/-- A head that may be sent is to a unit that shows content. -/
theorem shown_of_sendable {k : Link} (hk : k.Distinct) {it : Item} (h : k.sendable it = true) {b : Nat}
    (hb : (Purpose.item it).shownUnit = some b) : k.ShowsAt b := by
  have hable (p : UnitEntry → Bool) (hp : (k.unit it.address).any p = true)
      (hshows : ∀ u, p u = true → u.shows) : k.ShowsAt it.address := by
    intro v hv ha
    obtain ⟨u, hu, hpu⟩ := (Option.any_eq_true _ _).mp hp
    obtain ⟨hmem, hua⟩ := Link.unit_mem hu
    obtain rfl := hk.eq hv hmem (ha.trans hua.symm)
    exact hshows v hpu
  have hshows (u : UnitEntry) (hu : u.able = true) : u.shows := by
    unfold UnitEntry.shows
    rcases (able_iff u).mp hu with h | h <;> simp [h]
  obtain ⟨c, body⟩ := it
  cases body with
  | content x =>
    obtain rfl : c = b := Option.some.inj hb
    exact hable _ h fun u hu => hshows u (Bool.and_eq_true_iff.mp hu).1
  | level _ => cases hb
  | probe =>
    obtain rfl : c = b := Option.some.inj hb
    exact hable _ h hshows

/-- The head of the queue taken out and the sweep its removal may start. -/
theorem leadsLink_takenHead {it : Item} {rest : List Item} (hqueue : (s.link l).queue = it :: rest) :
    LeadsLink l none (some it) s (onLink l (fun k => { k with queue := rest }) s) :=
  leadsLink_onLink fun _ => Link.leads_taken hqueue

theorem Handed.sendHeads (h : Handed l none s) (n : Nat) : OnTheWay noTarget (sendHeads l n s) := by
  induction n generalizing s with
  | zero => exact h.onTheWay
  | succ n ih =>
    unfold Machine.sendHeads
    dsimp only
    split
    · exact h.onTheWay
    · rename_i it rest hqueue
      have htaken := leadsLink_takenHead hqueue
      split
      · rename_i hsend
        have hswept := htaken.trans (leadsLink_sweepAfterRemoval l (some it) (s.link l).queue.length _)
        have hhanded := hswept.handed h
        have hshown (b : Nat) (hb : (Purpose.item it).shownUnit = some b) := by
          have hdelivers := hswept.delivers ⟨h.up, h.distinct, shown_of_sendable h.distinct hsend hb⟩
          exact hdelivers.shows
        have hcarries (it' : Item) : Purpose.item it = .item it' ↔ some it = some it' := by simp
        unfold beginItem
        split <;> exact hhanded.begun rfl hcarries hshown _ _ _
      · have howed := htaken.trans (leadsLink_oweItem (it := some it) (.inl ⟨rfl, rfl⟩) l _)
        exact ih ((howed.trans (leadsLink_sweepAfterRemoval l none (s.link l).queue.length _)).handed h)

/-- The back-off probe to send next is that of a unit of the table whose probe is due. -/
theorem dueProbe_due {k : Link} {now : Time} (h : k.dueProbe now = some a) :
    ∃ u ∈ k.units, u.address = a ∧ u.probeDue.isSome = true := by
  obtain ⟨b, hb, rfl⟩ := Option.map_eq_some_iff.mp h
  refine List.foldlRecOn (motive := fun best : Option (Nat × Nat) => ∀ b, best = some b →
    ∃ u ∈ k.units, u.address = b.1 ∧ u.probeDue.isSome = true) k.units _ (by simp) (fun best hbest u hu => ?_) b hb
  split
  · exact hbest
  · rename_i t hdue
    have hself (b : Nat × Nat) (h : some (u.address, (now - t).toNat) = some b) :
        ∃ u ∈ k.units, u.address = b.1 ∧ u.probeDue.isSome = true := by
      obtain rfl := Option.some.inj h
      exact ⟨u, hu, rfl, by simp [hdue]⟩
    dsimp only
    split
    · exact hself
    · split
      · exact hself
      · exact hbest

theorem Handed.nextFrame (h : Handed l none s) : OnTheWay noTarget (nextFrame l s) := by
  unfold Machine.nextFrame
  dsimp only
  split
  · exact h.onTheWay
  · split
    · rename_i b rest _
      have hsent : LeadsLink l none none s (s.putLink l { s.link l with unassignedDue := rest }) :=
        leadsLink_putLink fun _ => Link.leads_flags (aim_target s l) ⟨rfl, rfl, rfl, rfl, rfl, rfl, rfl⟩
      have hhanded := hsent.handed h
      unfold sendUnassigned
      dsimp only
      split
      · exact hhanded.begun_silent (by rfl) (by simp) (by rfl) _ _ _
      · exact hhanded.onTheWay
    · split
      · exact h.begun_silent (by rfl) (by simp) (by rfl) _ _ _
      · split
        · exact h.begun_silent (by rfl) (by simp) (by rfl) _ _ _
        · split
          · rename_i b hwake
            refine h.begun_calm (by rfl) (by simp) (fun c hc => ?_) _ _ _
            obtain rfl : b = c := Option.some.inj hc
            intro v hv hva
            refine h.link.orderly.resting v hv (.inr ?_)
            rw [hva]
            exact (Option.ite_none_right_eq_some.mp hwake).2
          · split
            · rename_i b hdue
              obtain ⟨v, hv, hva, hprobe⟩ := dueProbe_due hdue
              have hcleared : LeadsLink l none none s (updateUnit l b (fun u => { u with probeDue := none }) s) := by
                refine leadsLink_calm (fun _ => UnitEntry.owes_of rfl) (fun _ => rfl) fun u hacts => ?_
                exact hacts.imp_right fun x => .inl (x.resolve_right nofun)
              refine (hcleared.handed h).begun_calm (by rfl) (by simp) (fun c hc => ?_) _ _ _
              obtain rfl : b = c := Option.some.inj hc
              exact (hcleared.delivers ⟨h.up, h.distinct, h.showsAt hv hva (.inr (.inr hprobe))⟩).shows
            · exact h.sendHeads _

theorem staysOnWay_nextFrame (l : LinkId) (s : State) : StaysOnWay s (nextFrame l s) := by
  refine ⟨by simp, fun h => ?_⟩
  by_cases hbegins : ((s.link l).transaction.isSome || !(s.link l).state.up) = true
  · have hnone : nextFrame l s = s := by
      unfold Machine.nextFrame
      exact if_pos hbegins
    rwa [hnone]
  · obtain ⟨hidle, hup⟩ : (s.link l).transaction = none ∧ (s.link l).state.up = true := by simpa using hbegins
    exact (h.handed hup hidle).nextFrame

/-! ## A frame ended -/

theorem OnTheWay.cleared (h : OnTheWay noTarget s) {t : Transaction} (ht : (s.link l).transaction = some t)
    (hcalm : t.purpose.enumerates = false) (hwaits : (s.link l).reenumerate = false) :
    Handed l (s.link l).inFlight (clearTransaction l s) ∧
      ∀ a, t.purpose.shownUnit = some a → Delivers l a (clearTransaction l s) := by
  have hlink := h.link l
  have hup : (s.link l).state.up = true := by
    cases hstate : (s.link l).state with
    | off => rw [hlink.orderly.idle hstate] at ht; cases ht
    | enumerating =>
      obtain ⟨-, hsteps, -⟩ := hlink.orderly.steps hstate hwaits
      rw [hsteps t ht] at hcalm
      cases hcalm
    | running => rfl
    | resting => rfl
    | rousing => rfl
  have htarget : target (clearTransaction l s) = target s := (shows_of (by simp)).target_eq
  refine ⟨⟨by simpa using h.seats, by simpa using hup, by simp, ?_, fun m hm => ?_⟩, fun a ha => ⟨by simpa using hup, ?_, ?_⟩⟩
  · rw [htarget, clearTransaction_self]
    exact hlink.cleared
  · rw [htarget, clearTransaction_other l s m hm]
    exact h.link m
  · rw [clearTransaction_self]
    exact hlink.orderly.distinct
  · rw [clearTransaction_self]
    intro u hu hua
    exact (hlink.orderly.frames hup t ht).2 u hu (by rw [ha, hua])

end

end Sys2Proof.Machine
end

section
/-! PROOFS. Starting, stopping and enumerating a link loses no target: the other links keep theirs, and the end of an
enumeration owes every ACTIVE unit all it should show (R97 to R105). -/

namespace Sys2Proof.Machine

/-! ## A link replaced -/

/-- A seat entry that shows the same, bound to the same units of every link but one. -/
structure SeatEntry.Apart (l : LinkId) (e e' : SeatEntry) : Prop where
  resolved : e'.resolved = e.resolved
  bound : ∀ m, m ≠ l → ∀ a slot, e'.bound = some ⟨m, a, slot⟩ ↔ e.bound = some ⟨m, a, slot⟩

theorem SeatEntry.Apart.refl (l : LinkId) (e : SeatEntry) : e.Apart l e := ⟨rfl, fun _ _ _ _ => .rfl⟩

theorem SeatEntry.Apart.trans {l : LinkId} {e e' e'' : SeatEntry} (h : e.Apart l e') (k : e'.Apart l e'') :
    e.Apart l e'' :=
  ⟨k.resolved.trans h.resolved, fun m hm a slot => (k.bound m hm a slot).trans (h.bound m hm a slot)⟩

/-- An entry bound to no other link comes to be bound to this link, or to none. -/
theorem SeatEntry.apart_bound {l : LinkId} {e : SeatEntry} {x : Option Binding}
    (h : ∀ b, e.bound = some b → b.link = l) (hx : ∀ b, x = some b → b.link = l) : e.Apart l { e with bound := x } :=
  ⟨rfl, fun _ hm _ _ => iff_of_false (fun he => hm (hx _ he)) fun he => hm (h _ he)⟩

theorem SeatEntry.apart_loosed (l : LinkId) (e : SeatEntry) : e.Apart l (e.loosed (· == l)) := by
  by_cases h : ∃ b, e.bound = some b ∧ b.link = l
  · obtain ⟨b, hb, rfl⟩ := h
    rw [SeatEntry.loosed_bound hb (by simp)]
    refine SeatEntry.apart_bound (fun c hc => ?_) nofun
    obtain rfl := Option.some.inj (hb.symm.trans hc)
    rfl
  · rw [SeatEntry.loosed_kept fun b hb => by simpa using fun hl => h ⟨b, hb, hl⟩]
    exact .refl l e

/-- What the other links and their targets draw on stands. -/
structure Apart (l : LinkId) (s t : State) : Prop where
  bus : t.bus = s.bus
  others : ∀ m, m ≠ l → t.link m = s.link m
  route : t.route = s.route
  tracker : t.tracker = s.tracker
  filter : t.filter = s.filter
  seats : List.Forall₂ (SeatEntry.Apart l) s.res.seats t.res.seats

section
variable {l : LinkId} {s t u : State} {k : Link}

theorem Apart.trans (h : Apart l s t) (j : Apart l t u) : Apart l s u :=
  ⟨j.bus.trans h.bus, fun m hm => (j.others m hm).trans (h.others m hm), j.route.trans h.route,
    j.tracker.trans h.tracker, j.filter.trans h.filter, forall₂_trans (fun _ _ _ => .trans) h.seats j.seats⟩

theorem apart_of (hbus : t.bus = s.bus) (hothers : ∀ m, m ≠ l → t.link m = s.link m) (hroute : t.route = s.route)
    (htracker : t.tracker = s.tracker) (hfilter : t.filter = s.filter) (hseats : t.res.seats = s.res.seats) :
    Apart l s t :=
  ⟨hbus, hothers, hroute, htracker, hfilter, hseats ▸ List.forall₂_same.mpr fun e _ => .refl l e⟩

theorem Apart.refl (l : LinkId) (s : State) : Apart l s s := apart_of rfl (fun _ _ => rfl) rfl rfl rfl rfl

theorem Apart.target_eq (h : Apart l s t) {m : LinkId} (hm : m ≠ l) : target t m = target s m := by
  have hslot (a slot : Nat) : slotContent t.res.seats m a slot = slotContent s.res.seats m a slot :=
    slotContent_congr (h.seats.imp fun _ _ he => ⟨he.bound m hm a slot, fun _ => he.resolved⟩)
  funext u kind
  cases kind with
  | seat => simp only [target, seatTarget, funext (hslot u.address)]
  | strip => simp only [target, stripTarget, h.route, h.tracker, h.filter]
  | headline => simp only [target, headlineTarget, h.route, h.tracker, h.filter]

/-- One link replaced by one in order that has nothing left to settle. -/
theorem Apart.stays (h : Apart l s t) (hlink : OnTheWay noTarget s → (t.link l).Orderly l)
    (hsettled : (t.link l).state.up = true → ∀ u ∈ (t.link l).units, ∀ kind ∈ u.kinds, u.owed kind = true) :
    StaysOnWay s t := by
  refine ⟨h.bus, fun hs => ⟨h.seats.length_eq.symm.trans hs.seats, fun m => ?_⟩⟩
  by_cases hm : m = l
  · subst hm
    exact ⟨hlink hs, fun hup u hu kind hkind _ => Link.settled_of_owed (hsettled hup u hu kind hkind)⟩
  · rw [h.others m hm, h.target_eq hm]
    exact hs.link m

/-- One link replaced by one in order that is not up. -/
theorem Apart.stays_down (h : Apart l s t) (hlink : OnTheWay noTarget s → (t.link l).Orderly l)
    (hdown : (t.link l).state.up = false) : StaysOnWay s t :=
  h.stays hlink fun hup => absurd hup (by simp [hdown])

/-! ## Starting and stopping -/

/-- A link without units and without a rousing, in order where its frame belongs to its state. -/
theorem Link.orderly_empty (hunits : k.units = []) (hnext : k.nextAddress = 1) (hwake : k.wakePosition = none)
    (hidle : k.state = .off → k.transaction = none)
    (hsteps : k.state = .enumerating → ∀ t, k.transaction = some t → t.purpose.enumerates = true)
    (hdown : k.state.up = false) : k.Orderly l where
  addresses := by simp [hunits]
  next := by simp [hunits, hnext]
  idle := hidle
  steps hstate _ := ⟨hwake, hsteps hstate, by simp [hunits]⟩
  frames hup := by simp [hdown] at hup
  resting := by simp [hunits]
  kinds := by simp [hunits]

theorem apart_startEnumeration (l : LinkId) (s : State) : Apart l s (startEnumeration l s) := by
  refine ⟨by simp, fun m hm => startEnumeration_other l s m hm, by simp, by simp, by simp, ?_⟩
  rw [startEnumeration_res]
  exact List.forall₂_map_right_iff.mpr (List.forall₂_same.mpr fun e _ => e.apart_loosed l)

/-- A link whose enumeration has started is in order whatever it held. -/
theorem Apart.started (h : Apart l s t) : StaysOnWay s (startEnumeration l t) := by
  refine (h.trans (apart_startEnumeration l t)).stays_down (fun _ => ?_) (by rw [startEnumeration_link]; rfl)
  rw [startEnumeration_link]
  refine Link.orderly_empty rfl rfl rfl nofun (fun _ t ht => ?_) rfl
  obtain rfl := Option.some.inj ht
  rfl

theorem staysOnWay_disableLink (l : LinkId) (s : State) : StaysOnWay s (disableLink l s) := by
  have hapart : Apart l s (disableLink l s) := by
    refine ⟨by simp, fun m hm => disableLink_other l s m hm, by simp, by simp, by simp, ?_⟩
    rw [disableLink_res]
    exact List.forall₂_map_right_iff.mpr (List.forall₂_same.mpr fun e _ => e.apart_loosed l)
  refine hapart.stays_down (fun _ => ?_) (by rw [disableLink_link]; rfl)
  rw [disableLink_link]
  exact Link.orderly_empty rfl rfl rfl (fun _ => rfl) nofun rfl

theorem staysOnWay_switchLink (before after : Bool) (l : LinkId) (s : State) :
    StaysOnWay s (switchLink before after l s) := by
  unfold switchLink
  split
  · split
    · exact (Apart.refl l s).started
    · exact .refl s
  · split
    · exact staysOnWay_disableLink l s
    · exact .refl s

theorem apart_onLink (l : LinkId) (f : Link → Link) (s : State) : Apart l s (onLink l f s) :=
  apart_of (by simp) (fun m hm => onLink_other l f s m hm) (by simp) (by simp) (by simp) (by simp)

/-- A link that waits for its frame to end before it is enumerated again. -/
theorem Link.Orderly.waiting (h : k.Orderly l) {k' : Link} (hstate : k'.state = .enumerating)
    (hre : k'.reenumerate = true) (hwake : k'.wakePosition = none) (hunits : k'.units = k.units)
    (hnext : k'.nextAddress = k.nextAddress) : k'.Orderly l where
  addresses := hunits ▸ h.addresses
  next := hnext.trans (hunits ▸ h.next)
  idle hoff := by rw [hstate] at hoff; cases hoff
  steps _ hcalm := by rw [hre] at hcalm; cases hcalm
  frames hup := by simp [hstate, LinkState.up] at hup
  resting u hu hacts := h.resting u (hunits ▸ hu) (.inl (hacts.resolve_right (by simp [hwake])))
  kinds u hu := h.kinds u (hunits ▸ hu)

theorem staysOnWay_reenumerateLink (l : LinkId) (s : State) : StaysOnWay s (reenumerateLink l s) := by
  unfold reenumerateLink
  dsimp only
  split
  · refine ((apart_onLink l _ s).trans (apart_onLink l _ _)).stays_down (fun hs => ?_) (by simp [LinkState.up])
    exact (hs.link l).orderly.waiting (by simp) (by simp) (by simp) (by simp) (by simp)
  · exact (apart_onLink l _ s).started

/-! ## Frames ended -/

theorem apart_clearTransaction (l : LinkId) (s : State) : Apart l s (clearTransaction l s) :=
  apart_of (by simp) (fun m hm => clearTransaction_other l s m hm) (by simp) (by simp) (by simp) (by simp)

/-- A frame ended: a waiting re-enumeration starts, and the handler has only to keep the targets where none waits
(R93, R105). -/
theorem staysOnWay_ended {f : State → State} (hbus : ∀ u, (f u).bus = u.bus)
    (hf : (s.link l).reenumerate = false → OnTheWay noTarget s → OnTheWay noTarget (f (clearTransaction l s))) :
    StaysOnWay s (ended l f s) := by
  unfold ended
  dsimp only
  split
  · exact (apart_clearTransaction l s).started
  · rename_i hcalm
    exact ⟨(hbus _).trans (by simp), hf (Bool.eq_false_iff.mpr hcalm)⟩

/-- A frame ended that is no step of an enumeration: its handler finds the link up, with the item it carried. -/
theorem staysOnWay_sent {t : Transaction} (ht : (s.link l).transaction = some t) (hcalm : t.purpose.enumerates = false)
    {held : Option Item} (hheld : ∀ it, t.purpose = .item it ↔ held = some it)
    {f : State → State} (hbus : ∀ u, (f u).bus = u.bus)
    (hf : ∀ u, (u.link l).state.up = true → (∀ a, t.purpose.shownUnit = some a → Delivers l a u) →
      LeadsLink l held none u (f u)) : StaysOnWay s (ended l f s) := by
  refine staysOnWay_ended hbus fun hwaits h => ?_
  obtain ⟨hhanded, hdelivers⟩ := h.cleared ht hcalm hwaits
  rw [inFlight_of ht hheld] at hhanded
  exact ((hf _ hhanded.up hdelivers).handed hhanded).onTheWay

/-- A link whose enumeration goes on, between two of its steps. -/
structure Stepping (l : LinkId) (s : State) : Prop where
  way : OnTheWay noTarget s
  state : (s.link l).state = .enumerating
  waits : (s.link l).reenumerate = false
  idle : (s.link l).transaction = none

/-- A step of an enumeration ended: its handler finds the link enumerating, with no frame in flight. -/
theorem staysOnWay_stepped {t : Transaction} (ht : (s.link l).transaction = some t)
    (hstep : t.purpose.enumerates = true) {f : State → State} (hbus : ∀ u, (f u).bus = u.bus)
    (hf : ∀ u, Stepping l u → OnTheWay noTarget (f u)) : StaysOnWay s (ended l f s) := by
  refine staysOnWay_ended hbus fun hwaits h => hf _ ?_
  have hdown (hup : (s.link l).state.up = true) : False := by
    obtain ⟨hcalm, -⟩ := (h.link l).orderly.frames hup t ht
    rw [hstep] at hcalm
    cases hcalm
  have hstate : (s.link l).state = .enumerating := by
    cases hstate : (s.link l).state with
    | off => rw [(h.link l).orderly.idle hstate] at ht; cases ht
    | enumerating => rfl
    | running => exact (hdown (by rw [hstate]; rfl)).elim
    | resting => exact (hdown (by rw [hstate]; rfl)).elim
    | rousing => exact (hdown (by rw [hstate]; rfl)).elim
  have hkept : StaysOnWay s (clearTransaction l s) := by
    refine (apart_clearTransaction l s).stays_down (fun h => ?_) (by simp [hstate, LinkState.up])
    rw [clearTransaction_self]
    exact (h.link l).cleared.orderly
  exact ⟨hkept.way h, by simpa using hstate, by simpa using hwaits, by simp⟩

end

end Sys2Proof.Machine
end

section
/-! PROOFS. The steps of an enumeration lose no target: a unit entered, its seats bound, and the end of the enumeration
(R99 to R104). -/

namespace Sys2Proof.Machine

/-! ## Seats bound -/

theorem forall₂_apart_set {l : LinkId} {e : SeatEntry} (es : List SeatEntry) (i : Nat)
    (h : (es.getD i .empty).Apart l e) : List.Forall₂ (SeatEntry.Apart l) es (es.set i e) := by
  induction es generalizing i with
  | nil => exact .nil
  | cons x es ih =>
    cases i with
    | zero => exact .cons h (List.forall₂_same.mpr fun y _ => .refl l y)
    | succ i => exact .cons (.refl l x) (ih i h)

section
variable {l : LinkId} {s t u : State} {a : Nat}

/-- A seat bound to no other link comes to be bound to a unit of this one. -/
theorem apart_setSeat {n : Nat} (h : ∀ b, (s.seat n).bound = some b → b.link = l) (slot : Nat) :
    Apart l s (setSeat n { s.seat n with bound := some ⟨l, a, slot⟩ } s) := by
  refine ⟨by simp, fun _ _ => by simp, by simp, by simp, by simp, ?_⟩
  rw [setSeat_res]
  refine forall₂_apart_set _ _ (SeatEntry.apart_bound h fun b hb => ?_)
  obtain rfl := Option.some.inj hb
  rfl

theorem apart_bindLabels {xs : List (Nat × Nat)} (hxs : ∀ x ∈ xs, 1 ≤ x.1) (hdistinct : xs.Pairwise fun x y => x.1 ≠ y.1)
    (h : ∀ x ∈ xs, ∀ b, (s.seat x.1).bound = some b → b.link = l) : Apart l s (bindLabels l a xs s) := by
  induction xs generalizing s with
  | nil => exact .refl l s
  | cons x xs ih =>
    obtain ⟨hhead, htail⟩ := List.pairwise_cons.mp hdistinct
    have hrest (y) (hy : y ∈ xs) := hxs y (List.mem_cons_of_mem x hy)
    refine (apart_setSeat (h x List.mem_cons_self) x.2).trans (ih hrest htail fun y hy => ?_)
    have hother : (setSeat x.1 { s.seat x.1 with bound := some ⟨l, a, x.2⟩ } s).seat y.1 = s.seat y.1 :=
      seat_of_set_other (hxs x List.mem_cons_self) (hrest y hy) (hhead y hy).symm (by rw [setSeat_res])
    rw [hother]
    exact h y (List.mem_cons_of_mem x hy)

/-! ## A unit entered -/

theorem apart_entered (l : LinkId) (p : Page) (s : State) : Apart l s (entered l p s) :=
  apart_of (by simp [entered]) (fun m hm => by simp [entered, hm]) (by simp [entered]) (by simp [entered])
    (by simp [entered]) (congrArg _ (entered_keeps l p s).1)

/-- None of the labels of a unit entered ACTIVE on a seat link was bound (R103). -/
theorem unbound_of_boundLabel {p : Page} (hl : l ≠ .p) (h : boundLabel s l p = none) :
    ∀ x ∈ usableLabels p, (s.seat x.1).bound = none := by
  rw [boundLabel, if_neg hl, Option.map_eq_none_iff, List.find?_eq_none] at h
  simpa using h

theorem apart_enterUnit (l : LinkId) (p : Page) (s : State) : Apart l s (enterUnit l p s) := by
  have hentered := apart_entered l p s
  cases hforeign : entersForeign l p with
  | true => exact enterUnit_foreign hforeign ▸ hentered
  | false =>
    cases hbound : boundLabel s l p with
    | some label =>
      rw [enterUnit_duplicate hforeign hbound]
      exact hentered.trans (apart_of (by simp) (fun _ _ => by simp) (by simp) (by simp) (by simp) (by simp))
    | none =>
      rw [enterUnit_active hforeign hbound]
      split
      · exact hentered
      · rename_i hl
        refine hentered.trans (apart_bindLabels (fun x hx => (usableLabels_inRange hx).1) (usableLabels_distinct p)
          fun x hx b hb => ?_)
        rw [seat_congr (s := s) (congrArg _ (entered_keeps l p s).1), unbound_of_boundLabel hl hbound x hx] at hb
        cases hb

/-- The kind of a unit that shows content belongs to its link (R104). -/
theorem kind_of_enters {p : Page} (h : entersForeign l p = false) :
    if l = .p then panelKind p.kind = true else seatKind p.kind = true := by
  simp only [entersForeign, Bool.or_eq_false_iff, Bool.not_eq_false'] at h
  obtain ⟨⟨hknown, -⟩, hlink⟩ := h
  rw [Bool.or_eq_true] at hknown
  cases l with
  | p => exact hknown.resolve_left (by simp [hlink])
  | a => exact hknown.resolve_right (by simp [(Bool.or_eq_false_iff.mp hlink).1])
  | b => exact hknown.resolve_right (by simp [(Bool.or_eq_false_iff.mp hlink).1])

/-- A unit entered is ACTIVE, FOREIGN or DUPLICATE (Table 6-4). -/
theorem entryState_cases (s : State) (l : LinkId) (p : Page) : entryState s l p = .active ∨ entryState s l p = .foreign ∨
    entryState s l p = .duplicate := by
  unfold entryState
  split
  · exact .inr (.inl rfl)
  · split
    · exact .inr (.inr rfl)
    · exact .inl rfl

/-- A unit entered leaves a link that is enumerated in order. -/
theorem Stepping.entered (h : Stepping l s) (p : Page) : Stepping l (enterUnit l p s) := by
  have hlink := enterUnit_link l p s
  obtain ⟨hway, hstate, hwaits, hidle⟩ := h
  have hdown : ((enterUnit l p s).link l).state.up = false := by simp [hlink, hstate, LinkState.up]
  have hkept : StaysOnWay s (enterUnit l p s) := by
    refine (apart_enterUnit l p s).stays_down (fun hs => ?_) hdown
    rw [hlink]
    obtain ⟨haddresses, hnext, -, hsteps, -, hresting, hkinds⟩ := (hs.link l).orderly
    obtain ⟨hwake, hframes, hunits⟩ := hsteps hstate hwaits
    refine ⟨?_, by simpa using hnext, fun _ => hidle, fun _ _ => ⟨hwake, hframes, fun u hu => ?_⟩,
      fun hup => by simp [hstate, LinkState.up] at hup, fun u hu hacts => ?_, fun u hu hshows => ?_⟩
    · simp only [List.map_append, haddresses, List.map_cons, List.map_nil, newEntry, hnext, List.length_append,
        List.length_cons, List.length_nil, List.range'_1_concat, Nat.add_comm 1]
    · rcases List.mem_append.mp hu with hold | hnew
      · exact hunits u hold
      · obtain rfl := List.mem_singleton.mp hnew
        exact entryState_cases s l p
    · rcases List.mem_append.mp hu with hold | hnew
      · exact hresting u hold hacts
      · obtain rfl := List.mem_singleton.mp hnew
        simp [UnitEntry.Timed, newEntry, hwake] at hacts
    · rcases List.mem_append.mp hu with hold | hnew
      · exact hkinds u hold hshows
      · obtain rfl := List.mem_singleton.mp hnew
        refine kind_of_enters (Bool.eq_false_iff.mpr fun hforeign => hshows.1 ?_)
        exact entryState_foreign hforeign
  exact ⟨hkept.way hway, by simp [hlink, hstate], by simp [hlink, hwaits], by simp [hlink, hidle]⟩

/-! ## The end of an enumeration -/

/-- An entry as the end of an enumeration leaves it: refreshed, if the unit is ACTIVE (R100). -/
def UnitEntry.refreshed (u : UnitEntry) : UnitEntry := if u.state = .active then u.refresh else u

theorem UnitEntry.flagged_refreshed (u : UnitEntry) : u.Flagged u.refreshed := by
  unfold UnitEntry.refreshed
  split
  · exact u.flagged_refresh
  · exact .refl u

theorem enumerated_units (k : Link) (e : Ending) : (k.enumerated e).units = k.units.map UnitEntry.refreshed := rfl

theorem Link.Orderly.enumerated {k : Link} (h : k.Orderly l) (hidle : k.transaction = none) (e : Ending) :
    (k.enumerated e).Orderly l := by
  have hfrom (v) (hv : v ∈ (k.enumerated e).units) : ∃ u ∈ k.units, u.Flagged v := by
    rw [enumerated_units] at hv
    obtain ⟨u, hu, rfl⟩ := List.mem_map.mp hv
    exact ⟨u, hu, u.flagged_refreshed⟩
  refine ⟨?_, h.next.trans (by simp [enumerated_units]), nofun, nofun,
    fun _ t ht => ?_, fun v hv hacts => ?_, fun v hv hshows => ?_⟩
  · rw [enumerated_units, List.map_map, List.length_map, ← h.addresses]
    exact List.map_congr_left fun u _ => u.flagged_refreshed.address
  · rw [show (k.enumerated e).transaction = k.transaction from rfl, hidle] at ht
    cases ht
  · obtain ⟨u, hu, hflag⟩ := hfrom v hv
    refine hflag.stays.shows.mpr (h.resting u hu ?_)
    rwa [← hflag.timed, ← hflag.address]
  · obtain ⟨u, hu, hflag⟩ := hfrom v hv
    rw [hflag.stays.page]
    exact h.kinds u hu (hflag.stays.shows.mp hshows)

/-- At the end of an enumeration every unit is owed all it should show. -/
theorem owed_refreshed {u : UnitEntry} (h : u.state = .active ∨ u.state = .foreign ∨ u.state = .duplicate)
    {kind : ContentKind} (hkind : kind ∈ u.refreshed.kinds) : u.refreshed.owed kind = true := by
  rw [u.flagged_refreshed.stays.kinds] at hkind
  have hactive : u.state = .active := by
    refine h.resolve_right fun hother => ?_
    rw [kinds_of_not_shows fun hshows => hother.elim hshows.1 hshows.2] at hkind
    cases hkind
  simp [UnitEntry.refreshed, hactive, hkind]

theorem Stepping.ends (h : Stepping l s) (e : Ending) : OnTheWay noTarget (endEnumeration l e s) := by
  obtain ⟨hway, hstate, hwaits, hidle⟩ := h
  have hended : StaysOnWay s (onLink l (fun k => k.enumerated e) s) := by
    refine (apart_onLink l _ s).stays (fun hs => ?_) fun _ => ?_
    · rw [onLink_self]
      exact (hs.link l).orderly.enumerated hidle e
    · rw [onLink_self, enumerated_units]
      intro v hv kind hkind
      obtain ⟨u, hu, rfl⟩ := List.mem_map.mp hv
      obtain ⟨-, -, hunits⟩ := (hway.link l).orderly.steps hstate hwaits
      exact owed_refreshed (hunits u hu) hkind
  have hraised := hended.trans (alike_raise (.chainReady l (s.link l).units.length e) _).stays
  exact ((hraised.trans (leadsLink_sweepLink l _ _).stays).trans (leadsLink_judgeQuiet l _ _).stays).way hway

theorem Stepping.alike (h : Stepping l s) (k : s.Alike t) : Stepping l t := by
  obtain ⟨hway, hstate, hwaits, hidle⟩ := h
  refine ⟨k.stays.way hway, ?_, ?_, ?_⟩ <;> rwa [k.link l]

theorem Stepping.breaks (h : Stepping l s) (step : Option Nat) : OnTheWay noTarget (breakEnumeration l step s) :=
  (h.alike (alike_raise _ s)).ends .broken

/-! ## Steps -/

/-- The frame of a step begun. -/
theorem Stepping.begun (h : Stepping l s) {p : Purpose} (hstep : p.enumerates = true) (a : Nat) (kind : FrameKind)
    (payload : List Half) : OnTheWay noTarget (beginFrame l p a kind payload s) := by
  obtain ⟨hway, hstate, -, -⟩ := h
  refine StaysOnWay.way (s := s) (Apart.stays_down (l := l) ?_ (fun hs => ?_) ?_) hway
  · exact apart_of (by simp) (fun m hm => beginFrame_other l p a kind payload s m hm) (by simp) (by simp) (by simp) (by simp)
  · rw [beginFrame_self]
    exact ((hs.link l).stepped hstate hstep).orderly
  · simp [hstate, LinkState.up]

theorem Stepping.takesBasePage (h : Stepping l s) (p : Page) : OnTheWay noTarget (takeBasePage l p s) := by
  unfold takeBasePage
  split
  · exact h.ends .overlength
  · split
    · exact h.begun rfl _ _ _
    · exact h.begun rfl _ _ _

theorem Stepping.takesExtendedPage (h : Stepping l s) (number : Nat) (p : Page) (w1 : Half) :
    OnTheWay noTarget (takeExtendedPage l number p w1 s) := by
  unfold takeExtendedPage
  dsimp only
  split
  · exact h.begun rfl _ _ _
  · exact h.begun rfl _ _ _

theorem Stepping.addressTaken (h : Stepping l s) (p : Page) : OnTheWay noTarget (addressTaken l p s) :=
  (h.entered p).begun rfl _ _ _

theorem Stepping.misses (h : Stepping l s) (p : Purpose) : OnTheWay noTarget (missStep l p s) := by
  cases p with
  | basePage n =>
    simp only [missStep]
    split
    · exact h.begun rfl _ _ _
    · exact h.ends .chainEnd
  | extendedPage number n page =>
    simp only [missStep]
    split
    · exact h.begun rfl _ _ _
    · exact h.breaks _
  | setAddress n page => exact h.begun rfl _ _ _
  | checkProbe n page =>
    simp only [missStep]
    split
    · exact h.begun rfl _ _ _
    · exact h.breaks none
  | openChain => exact h.way
  | item _ => exact h.way
  | unassigned _ => exact h.way
  | rouse => exact h.way
  | rest => exact h.way
  | wakeProbe _ => exact h.way
  | backoffProbe _ => exact h.way

end

end Sys2Proof.Machine
end

section
/-! PROOFS. No event of a block loses a target: the timers, the next frame, and the ways a transaction ends (R93). -/

namespace Sys2Proof.Machine

section
variable {l : LinkId} {s : State} {t : Transaction}

/-! ## Misses -/

theorem staysOnWay_countMiss (l : LinkId) (s : State) : StaysOnWay s (countMiss l s) :=
  (leadsLink_countMiss l _ s).stays

theorem transaction_countMiss (l : LinkId) (s : State) :
    ((countMiss l s).link l).transaction = (s.link l).transaction := by
  rw [countMiss_self]
  split <;> rfl

/-- A frame that awaits a reply has ended as a miss (R93, R94, R105). -/
theorem staysOnWay_missTransaction (ht : (s.link l).transaction = some t) (hawaits : t.purpose.awaits = true) :
    StaysOnWay s (missTransaction l t s) := by
  refine (staysOnWay_countMiss l s).trans ?_
  replace ht := (transaction_countMiss l s).trans ht
  obtain ⟨p, a, frame, window, began⟩ := t
  cases p with
  | item it =>
    refine staysOnWay_sent (f := missItem l it) (held := some it) ht rfl (by simp) (by simp) fun u _ hdelivers => ?_
    refine leadsLink_missItem (hdelivers it.address ?_)
    obtain ⟨b, body⟩ := it
    cases body with
    | content _ => rfl
    | level _ => cases hawaits
    | probe => rfl
  | unassigned b =>
    exact staysOnWay_sent (f := id) (held := none) ht rfl (by simp) (by simp) fun u _ _ => .refl l none u
  | wakeProbe b =>
    refine staysOnWay_sent (f := fun s => afterWake l (wakeMissed l b s)) (held := none) ht rfl (by simp) (by simp)
      fun u hup hdelivers => ?_
    have hmissed := leadsLink_wakeMissed (held := none) (hdelivers b rfl)
    exact hmissed.trans (leadsLink_afterWake (hmissed.delivers (hdelivers b rfl)).up)
  | backoffProbe b =>
    exact staysOnWay_sent (f := missBackoff l b) (held := none) ht rfl (by simp) (by simp) fun u _ hdelivers =>
      leadsLink_missBackoff (hdelivers b rfl)
  | basePage n => exact staysOnWay_stepped ht rfl (by simp) fun u h => h.misses _
  | extendedPage number n page => exact staysOnWay_stepped ht rfl (by simp) fun u h => h.misses _
  | setAddress n page => exact staysOnWay_stepped ht rfl (by simp) fun u h => h.misses _
  | checkProbe n page => exact staysOnWay_stepped ht rfl (by simp) fun u h => h.misses _
  | openChain => cases hawaits
  | rouse => cases hawaits
  | rest => cases hawaits

/-- An address step that has succeeded (R99). -/
theorem staysOnWay_addressTaken (ht : (s.link l).transaction = some t) (hstep : t.purpose.enumerates = true) (p : Page) :
    StaysOnWay s (ended l (addressTaken l p) s) :=
  staysOnWay_stepped ht hstep (by simp) fun _ h => h.addressTaken p

theorem staysOnWay_addressFaulted (ht : (s.link l).transaction = some t) (hstep : t.purpose.enumerates = true) (p : Page) :
    StaysOnWay s (ended l (addressTaken l p) (countMiss l s)) :=
  (staysOnWay_countMiss l s).trans (staysOnWay_addressTaken ((transaction_countMiss l s).trans ht) hstep p)

theorem staysOnWay_takeMalformed (ht : (s.link l).transaction = some t) (r : Reply) :
    StaysOnWay s (takeMalformed l t r s) := by
  unfold takeMalformed
  split
  · exact .refl s
  · rename_i hjudged
    have hawaits : t.purpose.awaits = true := by simp_all
    split
    · rename_i hpurpose
      split
      · exact staysOnWay_addressFaulted ht (by rw [hpurpose]; rfl) _
      · exact staysOnWay_missTransaction ht hawaits
    · exact staysOnWay_missTransaction ht hawaits

/-! ## Events -/

theorem alike_ready (s : State) : s.Alike s.ready := alike_of (by simp) (by simp) (by simp)

/-- An event of a link or a timer, once a free port has chosen its next own access (log 46). -/
theorem staysOnWay_onEvent {f : State → State} (h : ∀ s, StaysOnWay s (f s)) (s : State) :
    StaysOnWay s (onEvent f s) := by
  unfold onEvent
  split
  · exact .refl s
  · exact (alike_ready s).stays.trans (h s.ready)

theorem staysOnWay_transactionEvent {f : Transaction → State → State}
    (h : ∀ t s, (s.link l).transaction = some t → StaysOnWay s (f t s)) (s : State) :
    StaysOnWay s (onEvent (onTransaction l f) s) := by
  refine staysOnWay_onEvent (fun s => ?_) s
  unfold onTransaction
  split
  · rename_i t ht
    exact h t s ht
  · exact .refl s

theorem staysOnWay_unitEvent {a : Nat} {f : UnitEntry → State → State}
    (h : ∀ u s, (s.link l).unit a = some u → StaysOnWay s (f u s)) (s : State) :
    StaysOnWay s (onEvent (onUnit l a f) s) := by
  refine staysOnWay_onEvent (fun s => ?_) s
  unfold onUnit
  split
  · rename_i u hu
    exact h u s hu
  · exact .refl s

theorem staysOnWay_expireBackoff {a : Nat} {u : UnitEntry} (hu : (s.link l).unit a = some u)
    (hbackoff : u.backoff.isSome = true) (x : Time) : StaysOnWay s (expireBackoff l a x s) :=
  ⟨by simp, fun h => (leadsLink_expireBackoff (h.distinct l) hu hbackoff x).stays.way h⟩

theorem bus_expireWake (l : LinkId) (x : Time) (s : State) : (expireWake l x s).bus = s.bus := by
  have hmissed (as : List Nat) (u : State) : (as.foldl (fun s a => wakeMissed l a s) u).bus = u.bus :=
    List.foldlRecOn (motive := fun v => v.bus = u.bus) as _ rfl fun v hv a _ =>
      (wakeMissed_keeps l a v).2.2.1.trans hv
  unfold expireWake
  simp [hmissed]

theorem staysOnWay_expireWake (hrousing : (s.link l).state = .rousing) (x : Time) : StaysOnWay s (expireWake l x s) := by
  refine ⟨bus_expireWake l x s, fun h => ?_⟩
  refine (leadsLink_expireWake (h.distinct l) (by rw [hrousing]; rfl) (fun u hu hrested => ?_) x).stays.way h
  exact (h.link l).orderly.resting u hu (.inl (.inl hrested))

/-- A broadcast or a reply that acts on the link alone. -/
theorem staysOnWay_acted (ht : (s.link l).transaction = some t) (hcalm : t.purpose.enumerates = false)
    (hitem : ∀ it, t.purpose ≠ .item it) {f : State → State} (hbus : ∀ u, (f u).bus = u.bus)
    (hf : ∀ u, (u.link l).state.up = true → (∀ a, t.purpose.shownUnit = some a → Delivers l a u) →
      LeadsLink l none none u (f u)) : StaysOnWay s (ended l f s) :=
  staysOnWay_sent ht hcalm (fun it => iff_of_false (hitem it) (by simp)) hbus hf

/-- A reply to an item, or the last word of a SET_LEVEL. -/
theorem staysOnWay_answered (ht : (s.link l).transaction = some t) {it : Item} (hp : t.purpose = .item it)
    {f : State → State} (hbus : ∀ u, (f u).bus = u.bus)
    (hf : ∀ u, ((∃ code, it.body = .level code) ∨ Delivers l it.address u) → LeadsLink l (some it) none u (f u)) :
    StaysOnWay s (ended l f s) := by
  refine staysOnWay_sent ht (by rw [hp]; rfl) (by simp [hp]) hbus fun u _ hdelivers => hf u ?_
  obtain ⟨a, body⟩ := it
  cases body with
  | level code => exact .inl ⟨code, rfl⟩
  | content c => exact .inr (hdelivers a (by rw [hp]; rfl))
  | probe => exact .inr (hdelivers a (by rw [hp]; rfl))

end

/-- An item of no content out of the queue, and none from then on. -/
theorem LeadsLink.of_held {l : LinkId} {it : Item} {held' : Option Item} {s t : State}
    (hbody : ∀ c, it.body ≠ .content c) (h : LeadsLink l none held' s t) : LeadsLink l (some it) held' s t :=
  ⟨h.shows, h.bus, h.others, fun hs => (h.link hs).of_held hbody⟩

/-- The events of the blocks: the timers, the next frame, and the ways a transaction ends. -/
theorem staysOnWay_event {c : Instr} {s t : State} (h : blockEvent c = true) (he : exec c s = .next t) :
    StaysOnWay s t := by
  cases c
  case freshnessExpiry => cases he; exact staysOnWay_onEvent (fun s => (keepsWay_expireFreshness s).stays) s
  case coastStep => cases he; exact staysOnWay_onEvent (fun s => (keepsWay_fireCoastStep s).stays) s
  case releaseExpiry =>
    cases he
    refine staysOnWay_onEvent (fun s => ?_) s
    split
    · exact ((alike_advanceTo _ s).keepsWay.trans (keepsWay_expireRelease _ _)).stays
    · exact .refl s
  case probeDeadlineExpiry l a =>
    cases he
    exact staysOnWay_unitEvent (fun u s _ => (leadsLink_expireProbe l u _ s).stays) s
  case backoffExpiry l a =>
    cases he
    refine staysOnWay_unitEvent (fun u s hu => ?_) s
    split
    · rename_i x hx
      exact staysOnWay_expireBackoff hu (by simp [hx]) x
    · exact .refl s
  case ePaperHoldExpiry l a =>
    cases he
    refine staysOnWay_unitEvent (fun u s _ => ?_) s
    split; exacts [(leadsLink_expireHold l a _ _ s).stays, .refl s]
  case quietDelayExpiry l =>
    cases he
    refine staysOnWay_onEvent (fun s => ?_) s
    split; exacts [(leadsLink_expireQuiet l _ _ s).stays, .refl s]
  case wakeExpiry l =>
    cases he
    refine staysOnWay_onEvent (fun s => ?_) s
    split
    · rename_i hrousing
      split; exacts [staysOnWay_expireWake hrousing _, .refl s]
    · exact .refl s
  case nextFrameSelect l => cases he; exact staysOnWay_onEvent (staysOnWay_nextFrame l) s
  case openChainSent l =>
    cases he
    refine staysOnWay_transactionEvent (fun t s ht => ?_) s
    split
    · rename_i hp
      exact staysOnWay_stepped ht (by rw [hp]; rfl) (by simp) fun _ h => h.begun rfl _ _ _
    · exact .refl s
  case setLevelSent l =>
    cases he
    refine staysOnWay_transactionEvent (fun t s ht => ?_) s
    split
    · rename_i hp
      refine staysOnWay_answered ht hp (by simp) fun u _ => .of_held (by simp) ?_
      exact leadsLink_flags fun _ => ⟨rfl, rfl, rfl, rfl, rfl, rfl, rfl⟩
    · exact .refl s
  case restSent l =>
    cases he
    refine staysOnWay_transactionEvent (fun t s ht => ?_) s
    split
    · rename_i hp
      exact staysOnWay_acted ht (by rw [hp]; rfl) (by simp [hp]) (by simp) fun _ hup _ => leadsLink_rested hup
    · exact .refl s
  case rouseSent l =>
    cases he
    refine staysOnWay_transactionEvent (fun t s ht => ?_) s
    split
    · rename_i hp
      exact staysOnWay_acted ht (by rw [hp]; rfl) (by simp [hp]) (by simp) fun _ hup _ => leadsLink_roused hup
    · exact .refl s
  case pageReply l _ _ _ _ =>
    cases he
    refine staysOnWay_transactionEvent (fun t s ht => ?_) s
    split
    · rename_i hp
      exact staysOnWay_stepped ht (by rw [hp]; rfl) (by simp) fun _ h => h.takesBasePage _
    · rename_i hp
      exact staysOnWay_stepped ht (by rw [hp]; rfl) (by simp) fun _ h => h.takesExtendedPage _ _ _
    · exact .refl s
  case setAddressOk l =>
    cases he
    refine staysOnWay_transactionEvent (fun t s ht => ?_) s
    split
    · rename_i hp
      exact staysOnWay_addressTaken ht (by rw [hp]; rfl) _
    · exact .refl s
  case checkProbeReply l code =>
    cases he
    refine staysOnWay_transactionEvent (fun t s ht => ?_) s
    split
    · rename_i hp
      split
      · exact staysOnWay_missTransaction ht (by rw [hp]; rfl)
      · split
        · exact staysOnWay_addressFaulted ht (by rw [hp]; rfl) _
        · exact staysOnWay_addressTaken ht (by rw [hp]; rfl) _
    · exact .refl s
  case showOk l =>
    cases he
    refine staysOnWay_transactionEvent (fun t s ht => ?_) s
    split
    · rename_i hp
      exact staysOnWay_answered ht hp (by simp) fun _ hd => leadsLink_showOk (hd.resolve_left (by simp)) _
    · exact .refl s
  case showBusy l =>
    cases he
    refine staysOnWay_transactionEvent (fun t s ht => ?_) s
    split
    · rename_i hp
      exact staysOnWay_answered ht hp (by simp) fun _ _ => leadsLink_showBusy l _ _
    · exact .refl s
  case probeReply l busy =>
    cases he
    refine staysOnWay_transactionEvent (fun t s ht => ?_) s
    split
    · rename_i hp
      refine staysOnWay_answered ht hp (by cases busy <;> simp) fun _ hd => .of_held (by simp) ?_
      exact leadsLink_probeReply (hd.resolve_left (by simp)) busy
    · exact .refl s
  case backoffProbeReply l _ =>
    cases he
    refine staysOnWay_transactionEvent (fun t s ht => ?_) s
    split
    · rename_i hp
      exact staysOnWay_acted ht (by rw [hp]; rfl) (by simp [hp]) (by simp) fun _ _ hd =>
        leadsLink_recoverUnit (hd _ (by rw [hp]; rfl))
    · exact .refl s
  case wakeProbeReply l busy began =>
    cases he
    refine staysOnWay_transactionEvent (fun t s ht => ?_) s
    split
    · rename_i hp
      refine staysOnWay_acted ht (by rw [hp]; rfl) (by simp [hp]) (fun u => ?_) fun _ _ hd =>
        leadsLink_wakeAnswered (hd _ (by rw [hp]; rfl)) _ busy
      split
      · simp
      · cases busy <;> simp
    · exact .refl s
  case unassignedShowEnd l ending =>
    cases he
    refine staysOnWay_transactionEvent (fun t s ht => ?_) s
    split
    · rename_i hp
      have hkept : StaysOnWay s (ended l id s) :=
        staysOnWay_acted ht (by rw [hp]; rfl) (by simp [hp]) (by simp) fun u _ _ => .refl l none u
      cases ending
      · exact hkept
      · exact hkept
      · exact staysOnWay_missTransaction ht (by rw [hp]; rfl)
    · exact .refl s
  case malformedReply l r =>
    cases he
    exact staysOnWay_transactionEvent (fun t s ht => staysOnWay_takeMalformed ht r) s
  case replyWindowExpiry l =>
    cases he
    refine staysOnWay_transactionEvent (fun t s ht => ?_) s
    split
    · rename_i hawaits
      exact staysOnWay_missTransaction ht hawaits
    · exact .refl s
  all_goals cases h

end Sys2Proof.Machine
end

section
/-! PROOFS. What the coach computer writes, and what the port's cycles bring about, loses no target (R139, R153, R157 to
R168). -/

namespace Sys2Proof.Machine

section
variable {s t : State}

/-! ## Resets and configuration -/

/-- Parts that no target draws on replaced. -/
theorem alike_withPort (p : Port) (s : State) : s.Alike { s with port := p } :=
  alike_of ⟨rfl, rfl, rfl, rfl⟩ rfl fun l => by cases l <;> rfl

theorem alike_withNotices (n : NoticeWriter) (s : State) : s.Alike { s with notices := n } :=
  alike_of ⟨rfl, rfl, rfl, rfl⟩ rfl (link_withNotices n s)

/-- Every block at its reset values holds no target back (R164, R166). -/
theorem onTheWay_of_reset (hres : t.res = State.reset.res) (hlink : ∀ l, t.link l = .reset) : OnTheWay noTarget t := by
  refine ⟨by rw [hres]; rfl, fun l => ?_⟩
  rw [hlink]
  exact ⟨Link.orderly_empty rfl rfl rfl (fun _ => rfl) nofun rfl, nofun⟩

theorem staysOnWay_softReset (s : State) : StaysOnWay s (softReset s) :=
  ⟨rfl, fun _ => onTheWay_of_reset rfl fun l => by cases l <;> rfl⟩

theorem alike_holdItems (w : Fin 32) (v : Word) (s : State) : s.Alike (holdItems w v s) :=
  alike_of ⟨rfl, rfl, rfl, rfl⟩ rfl (holdItems_link w v s)

theorem staysOnWay_takeSoftReset (hold : Bool) (s : State) : StaysOnWay s (takeSoftReset hold s) := by
  unfold takeSoftReset
  split
  · exact staysOnWay_softReset s
  · split
    · exact State.Alike.stays ⟨shows_of ⟨rfl, rfl, rfl, rfl⟩, rfl, fun l => by cases l <;> rfl⟩
    · exact .refl s

theorem staysOnWay_takeConfig (w : Fin 32) (v : Word) (s : State) : StaysOnWay s (takeConfig w v s) := by
  have hheld := (alike_holdItems w v s).stays
  unfold takeConfig
  split
  · exact (alike_bump .configParity s).stays
  · dsimp only
    split
    · exact staysOnWay_takeSoftReset _ s
    · exact hheld.trans (staysOnWay_foldl (fun s l => staysOnWay_switchLink _ _ l s) _ _)
    · exact hheld.trans (staysOnWay_foldl (fun s l => (leadsLink_judgeQuiet l _ s).stays) _ _)
    · exact hheld.trans (keepsWay_readCap _).stays
    · exact hheld

/-! ## Requests -/

theorem staysOnWay_judgeLinkRequest (kind : RequestKind) {act : LinkId → State → State}
    (h : ∀ l s, StaysOnWay s (act l s)) (v : Word) (s : State) : StaysOnWay s (judgeLinkRequest kind act v s) := by
  have hanswer (code : ResultCode) := (alike_answer (tagOf v) kind code none s).stays
  unfold judgeLinkRequest
  split
  · exact hanswer _
  · split
    · exact hanswer _
    · exact (hanswer _).trans (h _ _)

/-- ACTIVATE_ROUTE and PREVIEW_ROUTE start a read, and CANCEL_ROUTE ends a waiting switch: the route in force stands
(R10, R16, R17). -/
theorem alike_judgeActivate (v : Word) (s : State) : s.Alike (judgeActivate v s) := by
  unfold judgeActivate
  split
  · split
    · exact alike_answer _ _ _ _ s
    · split
      · exact alike_answer _ _ _ _ s
      · exact (alike_setRoute (by rfl) (by rfl)).trans (alike_request _ _)
  · exact alike_answer _ _ _ _ s

theorem alike_judgePreview (v : Word) (s : State) : s.Alike (judgePreview v s) := by
  unfold judgePreview
  split
  · split
    · exact alike_answer _ _ _ _ s
    · exact (alike_setRoute (by rfl) (by rfl)).trans (alike_request _ _)
  · exact alike_answer _ _ _ _ s

theorem alike_judgeCancel (v : Word) (s : State) : s.Alike (judgeCancel v s) := by
  unfold judgeCancel
  split
  · exact (alike_setRoute (by rfl) (by rfl)).trans (alike_answer _ _ _ _ _)
  · exact alike_answer _ _ _ _ s

theorem staysOnWay_issueRequest (kind : RequestKind) (v : Word) (s : State) : StaysOnWay s (issueRequest kind v s) := by
  unfold issueRequest
  split
  · exact (alike_answer _ _ _ _ s).stays
  · cases kind with
    | activateRoute => exact (alike_judgeActivate v s).stays
    | previewRoute => exact (alike_judgePreview v s).stays
    | cancelRoute => exact (alike_judgeCancel v s).stays
    | seatConfirm => exact (keepsWay_confirmSeat _ _ s).stays
    | clearSeats => exact (keepsWay_clearSeats s).stays.trans (alike_answer _ _ _ _ _).stays
    | reenumerate => exact staysOnWay_judgeLinkRequest _ staysOnWay_reenumerateLink v s
    | refresh => exact staysOnWay_judgeLinkRequest _ (fun l s => (leadsLink_refreshLink l _ s).stays) v s

/-! ## Captured words -/

theorem staysOnWay_commitConsist (v : Word) (s : State) : StaysOnWay s (commitConsist v s) := by
  unfold commitConsist
  split
  · split
    · exact (keepsWay_takeConsist _ s).stays.trans (staysOnWay_foldl (fun s l => (leadsLink_handService l _ s).stays) _ _)
    · exact (alike_bump .mailboxBad s).stays
  · exact (alike_bump .mailboxBad s).stays

theorem staysOnWay_handCaptured (w : CapturedWord) (v : Word) (s : State) : StaysOnWay s (handCaptured w v s) := by
  cases w with
  | config w => exact staysOnWay_takeConfig w v s
  | request w => exact staysOnWay_issueRequest _ v s
  | mailbox w =>
    unfold handCaptured commitReport
    dsimp only
    split
    · exact State.Alike.stays ⟨⟨rfl, rfl, rfl, rfl, rfl, rfl⟩, rfl, link_withFilter _ s⟩
    · split
      · exact (keepsWay_takeReport _ s).stays
      · exact (alike_bump .mailboxBad s).stays
  | consist w =>
    unfold handCaptured
    dsimp only
    split
    · exact State.Alike.stays ⟨⟨rfl, rfl, rfl, rfl, rfl, rfl⟩, rfl, link_withRoute _ s⟩
    · exact staysOnWay_commitConsist v s
  | commit slot =>
    unfold handCaptured commitJournal
    dsimp only
    split
    · exact (keepsWay_takeCommit _ s).stays
    · exact .refl s
  | consumer =>
    unfold handCaptured takeConsumer
    dsimp only
    split
    · exact (alike_withNotices _ s).stays
    · exact (alike_bump .consumerError s).stays

theorem staysOnWay_capture (w : CapturedWord) (v : Word) (s : State) : StaysOnWay s (capture w v s) := by
  unfold capture
  split
  · exact staysOnWay_handCaptured w v s
  · exact .refl s

/-! ## Cycles of the port -/

theorem alike_setProgress (a : Option OwnAccess) (s : State) : s.Alike (setProgress a s) :=
  alike_of (by simp) (by simp) (by simp)

theorem alike_setStarvation (n : Nat) (s : State) : s.Alike (setStarvation n s) := alike_of (by simp) (by simp) (by simp)

theorem alike_beginOwn (s : State) : s.Alike (beginOwn s) := alike_of (by simp) (by simp) (by simp)

theorem alike_setBurst (b : Burst) (s : State) : s.Alike (setBurst b s) := alike_of (by simp) (by simp) (by simp)

theorem alike_setTimebase (x : Time) (s : State) : s.Alike (setTimebase x s) := alike_of (by simp) (by simp) (by simp)

theorem alike_countStarvation (s : State) : s.Alike (countStarvation s) := by
  unfold countStarvation
  split
  · exact alike_setStarvation _ s
  · exact .refl s

theorem alike_writeWord (a : Nat) (v : Word) (s : State) : s.Alike (s.writeWord a v) :=
  alike_of (by simp) (by simp) (by simp)

theorem alike_writeEntry (s : State) : s.Alike (writeEntry s) := by
  unfold writeEntry
  split
  · exact alike_foldl (fun s x => alike_of (by simp) (by simp) (by simp)) _ s
  · exact .refl s

theorem staysOnWay_completeImage (s : State) : StaysOnWay s (completeImage s) := by
  unfold completeImage
  split
  · exact (keepsWay_completeActivation _ s).stays
  · split
    · exact (keepsWay_completePreview _ s).stays
    · exact .refl s

theorem alike_writeVisible (s : State) : s.Alike (writeVisible s) := alike_of (by simp) (by simp) (by simp)

theorem staysOnWay_performCycle (a : OwnAccess) (s : State) : StaysOnWay s (performCycle a s) := by
  have hprogress (p : Option OwnAccess) := (alike_setProgress p s).stays
  cases a with
  | producerReset =>
    exact (((alike_writeVisible s).trans (alike_withPort _ _)).trans (alike_setProgress none _)).stays
  | noticeEntry => exact ((alike_writeEntry s).trans (alike_setProgress _ _)).stays
  | noticeProducer =>
    exact ((alike_of (t := writeProducer s) (by simp) (by simp) (by simp)).trans (alike_setProgress none _)).stays
  | producerOnly =>
    exact (((alike_writeVisible s).trans (alike_withNotices _ _)).trans (alike_setProgress none _)).stays
  | fetch => exact (hprogress none).trans (keepsWay_completeFetch _).stays
  | image n =>
    unfold performCycle
    dsimp only
    split
    · exact hprogress none
    · split
      · exact (hprogress none).trans (staysOnWay_completeImage _)
      · exact hprogress _
  | status w =>
    exact ((alike_of (t := writeBack w s) (by simp) (by simp) (by simp)).trans (alike_setProgress none _)).stays
  | config n => exact (hprogress _).trans (staysOnWay_foldl (fun u w => staysOnWay_takeConfig w _ u) _ _)

end

end Sys2Proof.Machine
end

section
/-! PROOFS. Every step keeps every target on its way (O11). -/

namespace Sys2Proof.Machine

/-! ## Words of the coach computer -/

/-- What leads from one state to another keeps RESET asserted or not, and every target on its way. -/
structure HoldsWay (s t : State) : Prop where
  asserted : t.bus.resetAsserted = s.bus.resetAsserted
  way : OnTheWay noTarget s → OnTheWay noTarget t

section
variable {s t u : State}

theorem StaysOnWay.holds (h : StaysOnWay s t) : HoldsWay s t := ⟨by rw [h.bus], h.way⟩

theorem State.Alike.holds (h : s.Alike t) : HoldsWay s t := h.stays.holds

theorem HoldsWay.refl (s : State) : HoldsWay s s := ⟨rfl, id⟩

theorem HoldsWay.trans (h : HoldsWay s t) (k : HoldsWay t u) : HoldsWay s u :=
  ⟨k.asserted.trans h.asserted, fun hs => k.way (h.way hs)⟩

theorem holdsWay_foldl {α : Type} {f : State → α → State} (h : ∀ s x, HoldsWay s (f s x)) (xs : List α) (s : State) :
    HoldsWay s (xs.foldl f s) :=
  List.foldlRecOn (motive := HoldsWay s) xs f (.refl s) fun _ hs x _ => hs.trans (h _ x)

/-- The bus replaced: no target draws on it. -/
theorem onTheWay_withBus (b : Bus) (h : OnTheWay noTarget s) : OnTheWay noTarget { s with bus := b } := by
  have hlink (l : LinkId) : ({ s with bus := b } : State).link l = s.link l := by cases l <;> rfl
  have htarget : target { s with bus := b } = target s := (shows_of ⟨rfl, rfl, rfl, rfl⟩).target_eq
  refine ⟨h.seats, fun l => ?_⟩
  rw [hlink, htarget]
  exact h.link l

theorem holdsWay_withBus {b : Bus} (hb : b.resetAsserted = s.bus.resetAsserted) : HoldsWay s { s with bus := b } :=
  ⟨hb, onTheWay_withBus b⟩

theorem holdsWay_performOwn (s : State) : HoldsWay s (performOwn s) := by
  unfold performOwn
  split
  · exact (alike_setStarvation 0 s).holds.trans (staysOnWay_performCycle _ _).holds
  · exact .refl s

theorem holdsWay_yieldOwn (s : State) : HoldsWay s (yieldOwn s) := by
  have hbegun := (alike_beginOwn s).holds
  unfold yieldOwn
  dsimp only
  split
  · exact (hbegun.trans (holdsWay_performOwn _)).trans (alike_beginOwn _).holds
  · exact hbegun

theorem holdsWay_grantAccess (b : Beat) (s : State) : HoldsWay s (grantAccess b s) := by
  unfold grantAccess
  refine HoldsWay.trans ?_ (alike_setBurst _ _).holds
  split
  · split
    · exact (alike_countStarvation s).holds
    · exact .refl s
  · exact (holdsWay_yieldOwn s).trans (alike_countStarvation _).holds

theorem holdsWay_skipWord (b : Beat) (s : State) : HoldsWay s (skipWord b s) := by
  unfold skipWord
  refine HoldsWay.trans ?_ (alike_setBurst _ _).holds
  split
  · exact .refl s
  · split
    · exact (alike_beginOwn s).holds
    · exact holdsWay_yieldOwn s

theorem holdsWay_writeTapWord (w : TapWord) (lanes : Lanes) (v : Word) (s : State) :
    HoldsWay s (writeTapWord w lanes v s) := by
  have hpassed := (alike_writeWord (s.tapBase + tapOffset w) (mergeLanes (s.tapWord (tapOffset w)) v lanes) s).holds
  cases w with
  | captured c =>
    refine hpassed.trans ?_
    change HoldsWay _ (writeCaptured c lanes v s)
    unfold writeCaptured
    dsimp only
    split
    · exact (staysOnWay_capture c v _).holds
    · split
      · exact (alike_bump .tapPartial _).holds
      · exact .refl _
  | view x => exact hpassed.trans (alike_of (t := restoreView x _) (by simp) (by simp) (by simp)).holds
  | producer => exact hpassed.trans (alike_of (t := restoreProducer _) (by simp) (by simp) (by simp)).holds
  | image i x => exact hpassed
  | plain o => exact hpassed

theorem holdsWay_reportRead (w : Nat) (lanes : Lanes) (v : Word) (s : State) : HoldsWay s (reportRead w lanes v s) := by
  unfold reportRead
  split
  · split
    · exact (leadsLink_clearLink _ v _ s).stays.holds
    · split
      · exact (alike_of (by simp) (by simp) (by simp)).holds
      · exact .refl s
  · exact .refl s

theorem holdsWay_readTapWord (w : TapWord) (lanes : Lanes) (s : State) : HoldsWay s (readTapWord w lanes s) := by
  unfold readTapWord
  dsimp only
  split
  · exact HoldsWay.trans (holdsWay_withBus (by rfl)) (holdsWay_reportRead _ lanes _ _)
  · exact holdsWay_withBus rfl

theorem holdsWay_performBus (b : Beat) (x : BusOp) (s : State) : HoldsWay s (performBus b x s) := by
  have hgranted := holdsWay_grantAccess b s
  cases x with
  | read w lanes => exact hgranted.trans (holdsWay_readTapWord w lanes _)
  | write w lanes v =>
    unfold performBus
    dsimp only
    split
    · exact (holdsWay_skipWord b s).trans (alike_bump .guardBlocked _).holds
    · exact hgranted.trans (holdsWay_writeTapWord w lanes v _)
  | readOutside a lanes => exact hgranted.trans (holdsWay_withBus rfl)
  | writeOutside a lanes v => exact hgranted.trans (alike_writeWord _ _ _).holds

theorem holdsWay_performAccess (s : State) (i : Instr) : HoldsWay s (performAccess s i) := by
  unfold performAccess
  split
  · exact holdsWay_performBus _ _ s
  · exact .refl s

theorem holdsWay_onBus (i : Instr) (s : State) : HoldsWay s (onBus i s) := by
  unfold onBus
  split
  · exact holdsWay_performAccess s i
  · exact HoldsWay.trans (holdsWay_withBus (by rfl)) (alike_setBurst .closed _).holds

/-! ## The port and the clock -/

theorem holdsWay_onPort {f : State → State} (h : ∀ s, HoldsWay s (f s)) (s : State) : HoldsWay s (onPort f s) := by
  unfold onPort
  split
  · exact .refl s
  · exact h s

theorem holdsWay_ownStep (names : OwnAccess → Bool) (s : State) : HoldsWay s (ownStep names s) := by
  unfold ownStep
  dsimp only
  split
  · exact (alike_ready s).holds.trans (holdsWay_performOwn _)
  · exact .refl s

theorem holdsWay_finishImageRead (names : State → Bool) (s : State) : HoldsWay s (finishImageRead names s) := by
  unfold finishImageRead
  dsimp only
  split
  · split
    · have hchosen := ((alike_ready s).trans (alike_setStarvation 0 _)).trans (alike_setProgress none _)
      exact hchosen.holds.trans (staysOnWay_completeImage _).holds
    · exact .refl s
  · exact .refl s

theorem holdsWay_clock (x : Time) (s : State) : HoldsWay s (setTimebase x s.ready) :=
  ((alike_ready s).trans (alike_setTimebase x _)).holds

/-! ## Every command -/

/-- A step after which RESET is not asserted leaves every target on its way, if every one was while it was not
asserted. -/
def WayAfter (s t : State) : Prop :=
  t.bus.resetAsserted = false → (s.bus.resetAsserted = false → OnTheWay noTarget s) → OnTheWay noTarget t

theorem HoldsWay.after (h : HoldsWay s t) : WayAfter s t := fun ht hs => h.way (hs (h.asserted ▸ ht))

/-- RESET asserted cuts off the frames, and nothing is claimed from then on (R160, log 11). -/
theorem wayAfter_pinResetAssert (he : exec .pinResetAssert s = .next t) : WayAfter s t := by
  cases he
  split
  · exact (HoldsWay.refl s).after
  · intro ht
    simp [allLinks] at ht

/-- RESET released puts every link at OFF before the accesses held are performed (R160, R166). -/
theorem wayAfter_pinResetRelease {straps : BitVec 4} (he : exec (.pinResetRelease straps) s = .next t) : WayAfter s t := by
  cases he
  intro _ _
  exact (holdsWay_foldl holdsWay_performAccess s.bus.held _).way
    (onTheWay_of_reset rfl fun l => by cases l <;> rfl)

theorem wayAfter_exec {c : Instr} (he : exec c s = .next t) : WayAfter s t := by
  cases haccess : (busOpOf s c).isSome with
  | true =>
    rw [exec_access haccess] at he
    cases he
    exact (holdsWay_onBus c s).after
  | false =>
    cases hevent : blockEvent c with
    | true => exact (staysOnWay_event hevent he).holds.after
    | false =>
      have hown (names : OwnAccess → Bool) := (holdsWay_onPort (holdsWay_ownStep names) s).after
      have himage (names : State → Bool) := (holdsWay_onPort (holdsWay_finishImageRead names) s).after
      cases c
      case pinResetAssert => exact wayAfter_pinResetAssert he
      case pinResetRelease straps => exact wayAfter_pinResetRelease he
      case configRereadCycle => cases he; exact hown _
      case fetchComplete => cases he; exact hown _
      case activationReadComplete => cases he; exact himage _
      case previewReadComplete => cases he; exact himage _
      case timebaseSecond => cases he; exact (holdsWay_onPort (fun s => holdsWay_clock _ s) s).after
      case noticeEntryWrite => cases he; exact hown _
      case producerIndexWrite => cases he; exact hown _
      case producerOnlyWrite => cases he; exact hown _
      case statusWriteBack => cases he; exact hown _
      all_goals first | (cases haccess; done) | cases hevent

theorem wayAfter_step (he : step s = .next t) : WayAfter s t := by
  unfold step at he
  split at he
  · rename_i c rest _
    have hqueue : s.Alike { s with pending := rest } := alike_of ⟨rfl, rfl, rfl, rfl⟩ rfl fun l => by cases l <;> rfl
    intro ht hs
    exact wayAfter_exec he ht fun hasserted => hqueue.holds.way (hs hasserted)
  · cases he
    exact (holdsWay_onPort (fun s => holdsWay_clock _ s) s).after

/-! ## The law of R112 -/

theorem onTheWay_of (hsound : ∀ l, LinkSound l (s.link l)) (hseats : s.res.seats.length = 128)
    (h : ∀ l, TargetsOnTheirWay s l) : OnTheWay noTarget s := by
  refine ⟨hseats, fun l => ?_⟩
  obtain ⟨htarget, hqueued, hidle, hsteps, hframes, hresting, hkinds⟩ := h l
  refine ⟨⟨(hsound l).addresses, (hsound l).next, hidle, hsteps, hframes, fun u hu hacts => hresting u hu ?_, hkinds⟩,
    fun hup u hu kind hkind _ => ⟨htarget hup u hu kind hkind, fun c hc hq => ?_⟩⟩
  · simpa only [UnitEntry.Timed, or_assoc] using hacts
  · subst hc
    exact hqueued hup u hu c hkind hq

theorem OnTheWay.targets (h : OnTheWay noTarget s) (l : LinkId) : TargetsOnTheirWay s l := by
  obtain ⟨⟨-, -, hidle, hsteps, hframes, hresting, hkinds⟩, hsettled⟩ := h.link l
  refine ⟨fun hup u hu kind hkind => (hsettled hup u hu kind hkind id).1,
    fun hup u hu c hkind hq => (hsettled hup u hu c.kind hkind id).2 c rfl hq, hidle, hsteps, hframes,
    fun u hu hacts => hresting u hu ?_, hkinds⟩
  simpa only [UnitEntry.Timed, or_assoc] using hacts

/-- A target that differs from the acknowledged content is queued, in flight or owed (R112). -/
theorem TargetsOnTheirWay.law {l : LinkId} (h : TargetsOnTheirWay s l) (hup : (s.link l).state.up = true) {v : UnitEntry}
    (hv : v ∈ (s.link l).units) {kind : ContentKind} (hkind : kind ∈ v.kinds)
    (hack : v.acknowledged kind ≠ some (Machine.target s l v kind)) :
    (s.link l).holdsItem v.address kind ∨ (s.link l).carriesItem v.address kind ∨ v.owed kind = true := by
  by_cases hcarried : (s.link l).carriesItem v.address kind
  · exact .inr (.inl hcarried)
  · have href : (s.link l).reference v kind = v.acknowledged kind := by
      rw [reference_eq]
      cases hflight : (s.link l).inFlight with
      | none => rfl
      | some it =>
        refine referenceBy_other fun c hc ha hk => hcarried ⟨c, hk, ?_⟩
        rw [hflight, ← ha, ← hc]
    exact (h.target hup v hv kind hkind (href ▸ hack)).imp_right .inr

end

/-- Settles O11: no part of a step loses a target on its way, and a target on its way differs from the acknowledged
content only while it is queued, in flight or owed. -/
theorem stepKeepsEveryTargetOnItsWay : Obligations.StepKeepsEveryTargetOnItsWay := by
  refine ⟨fun s t hsound hseats hway he ht => ?_, fun s l u kind hcalm hway hstate hu _ hkind hack => ?_⟩
  · exact (wayAfter_step he ht fun hasserted => onTheWay_of hsound hseats (hway hasserted)).targets
  · exact (hway hcalm l).law ((up_iff _).mpr hstate) hu hkind hack

end Sys2Proof.Machine
end

section
/-! PROOFS. Fault handling: what an entry into it makes of the link, of the unit and of the notices in each mode (R124 to
R129). -/

namespace Sys2Proof.Machine

/-! ## The item of an entry returned -/

/-- Two tables of the same units: the owed flags of the entries differ at most. -/
def SameUnits (us vs : List UnitEntry) : Prop := List.Forall₂ UnitEntry.Flagged us vs

theorem SameUnits.refl (us : List UnitEntry) : SameUnits us us := forall₂_self UnitEntry.Flagged.refl us

theorem SameUnits.trans {us vs ws : List UnitEntry} (h : SameUnits us vs) (k : SameUnits vs ws) : SameUnits us ws :=
  forall₂_trans (R := UnitEntry.Flagged) (S := UnitEntry.Flagged) (fun _ _ _ => .trans) h k

/-- The entry at an address of the one table answers to the one of the other. -/
theorem SameUnits.unit {k k' : Link} (h : SameUnits k.units k'.units) {a : Nat} {u : UnitEntry}
    (hu : k.unit a = some u) : ∃ v, k'.unit a = some v ∧ u.Flagged v :=
  find_of_forall₂ (fun _ _ => UnitEntry.Flagged.address) h hu

/-- What hands an item back to its link leaves of it: its units but for their owed flags, and what composing leaves. -/
structure Link.Returns (k k' : Link) : Prop where
  units : SameUnits k.units k'.units
  control : k'.control = k.control

theorem Link.Returns.refl (k : Link) : k.Returns k := ⟨.refl k.units, rfl⟩

theorem Link.returns_owe (k : Link) (it : Item) : k.Returns (k.owe it) := by
  refine ⟨?_, owe_control k it⟩
  unfold Link.owe
  split
  · exact forall₂_mapUnit k _ _ (fun u _ _ => u.flagged_setOwed _ true) fun u _ _ => .refl u
  · exact .refl k.units
  · exact .refl k.units

theorem overflows_eq (k : Link) (it : Item) :
    k.overflows it = { k.owe it with overflow := k.overflow || decide (it.body ≠ .probe) } := by
  obtain ⟨a, body⟩ := it
  cases body <;> simp [Link.overflows, Link.owe]

/-- An item given back joins the tail of a queue that has room and none of its key, and no other (R113, R117, R124). -/
theorem giveBack_queue (k : Link) (it : Item) : (k.giveBack it).queue =
    if k.queued it = false ∧ k.queue.length < 32 then k.queue ++ [it] else k.queue := by
  cases h : k.queued it with
  | true => simp [giveBack_newer h]
  | false =>
    by_cases hroom : k.queue.length < 32
    · simp [giveBack_appended h hroom, hroom]
    · simp [giveBack_full h (Nat.le_of_not_lt hroom), hroom, overflows_eq]

theorem Link.returns_giveBack (k : Link) (it : Item) : k.Returns (k.giveBack it) := by
  cases h : k.queued it with
  | true =>
    rw [giveBack_newer h]
    exact .refl k
  | false =>
    by_cases hroom : k.queue.length < 32
    · rw [giveBack_appended h hroom]
      exact ⟨.refl k.units, rfl⟩
    · rw [giveBack_full h (Nat.le_of_not_lt hroom)]
      exact ⟨by rw [overflows_eq]; exact (k.returns_owe it).units, overflows_control k it⟩

/-! ## An entry into fault handling -/

/-- A unit entered into fault handling: FAILED, BACKOFF until an expiry, or ACTIVE in a report episode (R126, R127,
R129). -/
def UnitEntry.faulted (mode : FaultMode) (expiry : Time) (u : UnitEntry) : UnitEntry :=
  match mode with
  | .latch => { u with state := .failed }
  | .retry => { u with state := .backoff, backoff := some expiry, probeDue := none }
  | .report => { u with state := .active, missCount := 0, episode := true }

/-- The back-off expiry of a unit that backs off now (R127). -/
def State.backoffExpiry (s : State) : Time := s.timebase + ms (retryMs s.items.retryInterval)

/-- The item of an entry handed back: owed on LATCH and RETRY, given back on REPORT (R125, R129). -/
def Link.handBack (mode : FaultMode) (it : Option Item) (k : Link) : Link :=
  match it with
  | none => k
  | some it => if mode = .report then k.giveBack it else k.owe it

/-- The notices of an entry: none on RETRY, and one an episode on REPORT (R126, R129). -/
def faultNotices (l : LinkId) (a : Nat) (mode : FaultMode) (cause : FailCause) (u : UnitEntry) : List Notice :=
  match mode with
  | .latch => [.unitFailed l a .latch cause]
  | .retry => []
  | .report => if u.episode then [] else [.unitFailed l a .report cause]

theorem faulted_address (mode : FaultMode) (expiry : Time) (u : UnitEntry) :
    (u.faulted mode expiry).address = u.address := by cases mode <;> rfl

theorem Link.returns_handBack (mode : FaultMode) (it : Option Item) (k : Link) : k.Returns (k.handBack mode it) := by
  unfold Link.handBack
  split
  · exact .refl k
  · split
    · exact k.returns_giveBack _
    · exact k.returns_owe _

theorem enterFault_link (l : LinkId) (a : Nat) (cause : FailCause) (it : Option Item) (s : State) :
    (enterFault l a cause it s).link l = ((s.link l).mapUnit a
      (UnitEntry.faulted (s.items.faultMode l) s.backoffExpiry)).handBack (s.items.faultMode l) it := by
  unfold enterFault
  cases s.items.faultMode l <;> cases it <;>
    simp [latchUnit, backoffUnit, reportUnit, oweItem, giveBackItem, Link.handBack] <;> rfl

theorem enterFault_notices {l : LinkId} {a : Nat} {s : State} {u : UnitEntry} (hu : (s.link l).unit a = some u)
    (cause : FailCause) (it : Option Item) :
    (enterFault l a cause it s).notices = s.givenAll (faultNotices l a (s.items.faultMode l) cause u) := by
  have hgiven (f : UnitEntry → UnitEntry) (n : Notice) : (raise n (updateUnit l a f s)).notices = s.givenAll [n] := by
    rw [raise_notices]
    simp [State.given, State.givenAll]
  unfold enterFault
  cases s.items.faultMode l with
  | latch => simpa [latchUnit, faultNotices] using hgiven _ _
  | retry => simp [backoffUnit, faultNotices, State.givenAll]
  | report =>
    cases he : u.episode with
    | true => simp [reportUnit, faultNotices, hu, he, raiseIf, State.givenAll]
    | false => simpa [reportUnit, faultNotices, hu, he, raiseIf] using hgiven _ _

/-! ## Acts on one link -/

theorem length_bump (c : Counter) (s : State) : (bump c s).status.counts.length = s.status.counts.length := by
  unfold bump
  split <;> simp [setCount]

theorem length_raise (n : Notice) (s : State) : (raise n s).status.counts.length = s.status.counts.length := by
  unfold raise
  split
  · exact length_bump _ s
  · split
    · exact length_bump _ s
    · rfl

/-- What the handler of an event may do to a link: change it and no other, give notices, count some counters, and only
add marks. -/
structure ActsOn (ps : Set Counter) (l : LinkId) (s t : State) : Prop where
  marks : DirtyRises s t
  counted : Counted ps s t
  length : t.status.counts.length = s.status.counts.length
  frame : ChangesOnly [.link l, .notices, .dirty, .counts] s t

theorem ActsOn.refl (ps : Set Counter) (l : LinkId) (s : State) : ActsOn ps l s s :=
  ⟨dirtyRises_refl s, .refl ps s, rfl, changesOnly_refl _ s⟩

theorem ActsOn.trans {ps : Set Counter} {l : LinkId} {s t u : State} (h : ActsOn ps l s t) (k : ActsOn ps l t u) :
    ActsOn ps l s u :=
  ⟨dirtyRises_trans h.marks k.marks, h.counted.trans k.counted, k.length.trans h.length,
    changesOnly_trans h.frame k.frame⟩

section
variable (ps : Set Counter) (l : LinkId)

/-- What changes one link and the dirty set, and only adds marks. -/
theorem actsOn_of_marks {s t : State} (hmarks : DirtyRises s t) (hframe : ChangesOnly [.link l, .dirty] s t) :
    ActsOn ps l s t := by
  have hcounts : t.status.counts = s.status.counts := hframe .counts (by simp)
  exact ⟨hmarks, counted_of_counts_eq hcounts, congrArg List.length hcounts, changesOnly_mono (by simp) hframe⟩

theorem actsOn_onLink (f : Link → Link) (s : State) : ActsOn ps l s (onLink l f s) :=
  actsOn_of_marks ps l (dirtyRises_onLink l f s) (changesOnly_onLink l f s)

theorem actsOn_updateUnit (a : Nat) (f : UnitEntry → UnitEntry) (s : State) : ActsOn ps l s (updateUnit l a f s) :=
  actsOn_of_marks ps l (dirtyRises_trans (dirtyRises_setLink l _ s) (dirtyRises_markMany _ _))
    (changesOnly_updateUnit l a f s)

theorem actsOn_bump {c : Counter} (h : c ∈ ps) (s : State) : ActsOn ps l s (bump c s) :=
  ⟨dirtyRises_bump c s, counted_bump h s, length_bump c s, changesOnly_mono (by simp) (changesOnly_bump c s)⟩

variable {ps}
variable (h : noticeCounters ⊆ ps)
include h

theorem actsOn_raise (n : Notice) (s : State) : ActsOn ps l s (raise n s) := by
  have hcounted := counted_raise n s
  exact ⟨dirtyRises_raise n s, ⟨fun c hc => hcounted.others c (mt (@h c) hc), hcounted.fit⟩, length_raise n s,
    changesOnly_mono (by simp) (changesOnly_raise n s)⟩

theorem actsOn_raiseIf (b : Bool) (n : Notice) (s : State) : ActsOn ps l s (raiseIf b n s) := by
  unfold raiseIf
  split
  · exact actsOn_raise l h n s
  · exact .refl ps l s

omit h in
theorem actsOn_oweItem (it : Option Item) (s : State) : ActsOn ps l s (oweItem l it s) := by
  cases it with
  | none => exact .refl ps l s
  | some it => exact actsOn_onLink ps l (fun k => k.owe it) s

omit h in
theorem actsOn_giveBackItem (it : Option Item) (s : State) : ActsOn ps l s (giveBackItem l it s) := by
  cases it with
  | none => exact .refl ps l s
  | some it => exact actsOn_onLink ps l (fun k => k.giveBack it) s

theorem actsOn_enterFault (a : Nat) (cause : FailCause) (it : Option Item) (s : State) :
    ActsOn ps l s (enterFault l a cause it s) := by
  have hunit (f : UnitEntry → UnitEntry) := actsOn_updateUnit ps l a f s
  unfold enterFault
  split
  · exact ((hunit _).trans (actsOn_raise l h _ _)).trans (actsOn_oweItem l it _)
  · exact (hunit _).trans (actsOn_oweItem l it _)
  · exact ((hunit _).trans (actsOn_raiseIf l h _ _ _)).trans (actsOn_giveBackItem l it _)

end

end Sys2Proof.Machine
end

section
/-! PROOFS. A missed item: its unit is SUSPECT, or enters fault handling (O54). -/

namespace Sys2Proof.Machine

/-! ## A miss reaches its handler -/

section
variable {c : Instr} {s : State} {l : LinkId} {x : Transaction}

/-- A frame in flight is missed: its reply window ends, or a malformed reply is received (R93, R94). -/
def MissedBy (c : Instr) (l : LinkId) (x : Transaction) : Prop :=
  c = .replyWindowExpiry l ∨ ∃ r, c = .malformedReply l r ∧ wellFormedReply x r = false

/-- The miss of a frame that is no check probe is counted and handed to its handler. -/
theorem exec_missed (h : s.items.softReset = false) (r : s.bus.resetAsserted = false)
    (hx : (s.link l).transaction = some x) (hn : (s.link l).reenumerate = false) (ha : x.purpose.awaits = true)
    (hcheck : ∀ n page, x.purpose ≠ .checkProbe n page) (hc : MissedBy c l x) {g : State → State}
    (hg : ∀ u, missTransaction l x u = ended l g (countMiss l u)) : exec c s = .next (g (missedIn l s)) := by
  have hruns : ((countMiss l s.ready).link l).reenumerate = false := by rwa [reenumerate_countMiss, link_ready]
  have hmissed : missTransaction l x s.ready = g (missedIn l s) := (hg _).trans (ended_runs hruns g)
  rcases hc with rfl | ⟨reply, rfl, hw⟩
  · refine congrArg Host.Outcome.next ((onEvent_inFlight _ h r hx).trans ?_)
    rw [if_pos ha, hmissed]
  · refine congrArg Host.Outcome.next ((onEvent_inFlight _ h r hx).trans ?_)
    rw [takeMalformed_missed ha hw fun ⟨n, page, hp⟩ => absurd hp (hcheck n page), hmissed]

theorem unit_takenIn {u : State} (h : TakenIn l s u) (a : Nat) : (u.link l).unit a = (s.link l).unit a := by
  rw [Link.unit, h.units, Link.unit]

theorem TakenIn.givenAll {u : State} (h : TakenIn l s u) (ns : List Notice) : u.givenAll ns = s.givenAll ns := by
  obtain ⟨-, hitems, htime, hnotices⟩ := h.same
  exact givenAll_append (first := []) hnotices hitems htime ns

theorem TakenIn.backoffExpiry {u : State} (h : TakenIn l s u) : u.backoffExpiry = s.backoffExpiry := by
  obtain ⟨-, hitems, htime, -⟩ := h.same
  rw [State.backoffExpiry, hitems, htime, State.backoffExpiry]

/-- What acts on the link from the state the ending of its frame is handed over in. -/
theorem TakenIn.acts {ps : Set Counter} {u t : State} (h : TakenIn l s u) (k : ActsOn ps l u t) :
    DirtyRises s t ∧ ChangesOnly [.link l, .notices, .dirty, .counts] s.ready t :=
  ⟨dirtyRises_trans h.rises k.marks, changesOnly_trans (changesOnly_mono (by simp) h.frame) k.frame⟩

/-- What counts no miss of a link leaves it at the one miss counted (R94). -/
theorem count_missed {ps : Set Counter} {t : State} (h : Counted ps (missedIn l s) t) (hps : l.missCounter ∉ ps)
    (hlength : s.status.counts.length = 20) : t.count l.missCounter = oneMore (s.count l.missCounter) :=
  (h.others _ hps).trans (count_missedIn hlength l)

theorem missCounter_not_notice (l : LinkId) : l.missCounter ∉ noticeCounters := by
  cases l <;> simp [noticeCounters, LinkId.missCounter]

theorem givenAll_report (l : LinkId) (a : Nat) (cause : FailCause) (u : UnitEntry) (s : State) :
    s.givenAll (faultNotices l a .report cause u) =
      if u.episode then s.notices else s.given (.unitFailed l a .report cause) := by
  cases h : u.episode <;> simp [faultNotices, h] <;> rfl

/-- The state a miss on a link that is up is handed over in: free of the frame, its chain-intact latch cleared (R94). -/
theorem missedIn_up (hup : (s.link l).state.up = true) :
    (missedIn l s).link l = { s.link l with transaction := none, chainIntact := false } := by
  rw [missedIn_link, if_pos hup]

end

/-! ## The unit of a missed item -/

section
variable {s : State} {l : LinkId} {it : Item} {u : UnitEntry}

theorem unit_handBack {k : Link} (hu : k.unit it.address = some u) (mode : FaultMode) :
    ∃ v, (k.handBack mode (some it)).unit it.address = some v ∧ u.Flagged v ∧
      (mode ≠ .report → ∀ c : Content, it.body = .content c → v.owed c.kind = true) := by
  obtain ⟨a, body⟩ := it
  by_cases hm : mode = .report
  · obtain ⟨v, hv, hflag⟩ := (Link.returns_handBack mode (some ⟨a, body⟩) k).units.unit hu
    exact ⟨v, hv, hflag, absurd hm⟩
  · rw [Link.handBack, if_neg hm]
    cases body with
    | content c =>
      refine ⟨_, unit_mapUnit (fun u => setOwed_address u c.kind true) hu, u.flagged_setOwed c.kind true, ?_⟩
      rintro - d ⟨⟩
      simp
    | level code => exact ⟨u, hu, .refl u, fun _ c hc => nomatch hc⟩
    | probe => exact ⟨u, hu, .refl u, fun _ c hc => nomatch hc⟩

theorem handBack_queue (k : Link) (it : Item) (mode : FaultMode) : (k.handBack mode (some it)).queue =
    if mode = .report then (k.giveBack it).queue else k.queue := by
  unfold Link.handBack
  dsimp only
  split
  · rfl
  · exact owe_queue k it

/-- A unit with its miss count, SUSPECT from ACTIVE (R124). -/
def UnitEntry.suspected (n : Nat) (u : UnitEntry) : UnitEntry :=
  { u with missCount := n, state := if u.state = .active then .suspect else u.state }

/-- A unit with its miss count. -/
def UnitEntry.counted (n : Nat) (u : UnitEntry) : UnitEntry := { u with missCount := n }

theorem missItem_below (hu : (s.link l).unit it.address = some u)
    (h : min 15 (u.missCount + 1) < s.items.missDeglitch) : missItem l it s =
      onLink l (fun k => k.giveBack it) (updateUnit l it.address (UnitEntry.suspected (min 15 (u.missCount + 1))) s) := by
  unfold missItem
  rw [hu]
  exact if_pos h

theorem missItem_reached (hu : (s.link l).unit it.address = some u)
    (h : s.items.missDeglitch ≤ min 15 (u.missCount + 1)) : missItem l it s =
      enterFault l it.address .misses (some it)
        (updateUnit l it.address (UnitEntry.counted (min 15 (u.missCount + 1))) s) := by
  unfold missItem
  rw [hu]
  exact if_neg (Nat.not_lt.mpr h)

theorem enterFault_control (l : LinkId) (a : Nat) (cause : FailCause) (it : Option Item) (s : State) :
    ((enterFault l a cause it s).link l).control = (s.link l).control := by
  rw [enterFault_link]
  exact (Link.returns_handBack _ it _).control

theorem missItem_control (l : LinkId) (it : Item) (s : State) :
    ((missItem l it s).link l).control = (s.link l).control := by
  unfold missItem
  split
  · rfl
  · dsimp only
    split
    · rw [onLink_self, updateUnit_self]
      exact (Link.returns_giveBack _ it).control
    · rw [enterFault_control, updateUnit_self]
      rfl

theorem actsOn_missItem (l : LinkId) (it : Item) (s : State) : ActsOn noticeCounters l s (missItem l it s) := by
  unfold missItem
  split
  · exact .refl _ l s
  · dsimp only
    split
    · exact (actsOn_updateUnit _ l _ _ s).trans (actsOn_onLink _ l _ _)
    · exact (actsOn_updateUnit _ l _ _ s).trans (actsOn_enterFault l subset_rfl _ _ _ _)

/-- Below MISS_DEGLITCH the unit is SUSPECT and the item returns (R124). -/
theorem missItem_suspects (hu : (s.link l).unit it.address = some u)
    (h : min 15 (u.missCount + 1) < s.items.missDeglitch) : ∃ u', ((missItem l it s).link l).unit it.address = some u' ∧
      (u.suspected (min 15 (u.missCount + 1))).Flagged u' ∧ (missItem l it s).notices = s.notices ∧
      ((missItem l it s).link l).queue = ((s.link l).giveBack it).queue := by
  rw [missItem_below hu h, onLink_self, updateUnit_self]
  have hmapped := unit_mapUnit (f := UnitEntry.suspected (min 15 (u.missCount + 1))) (fun _ => rfl) hu
  obtain ⟨u', hu', hflag⟩ := (Link.returns_giveBack _ it).units.unit hmapped
  refine ⟨u', hu', hflag, by simp, ?_⟩
  rw [giveBack_queue, giveBack_queue]
  rfl

/-- At MISS_DEGLITCH the unit enters fault handling with its item (R125). -/
theorem missItem_faults (hu : (s.link l).unit it.address = some u)
    (h : s.items.missDeglitch ≤ min 15 (u.missCount + 1)) : ∃ u', ((missItem l it s).link l).unit it.address = some u' ∧
      ((u.counted (min 15 (u.missCount + 1))).faulted (s.items.faultMode l) s.backoffExpiry).Flagged u' ∧
      (s.items.faultMode l ≠ .report → ∀ c : Content, it.body = .content c → u'.owed c.kind = true) ∧
      (missItem l it s).notices = s.givenAll (faultNotices l it.address (s.items.faultMode l) .misses u) ∧
      ((missItem l it s).link l).queue =
        if s.items.faultMode l = .report then ((s.link l).giveBack it).queue else (s.link l).queue := by
  rw [missItem_reached hu h]
  have hcounted := unit_mapUnit (f := UnitEntry.counted (min 15 (u.missCount + 1))) (fun _ => rfl) hu
  have hnotices := enterFault_notices (s := updateUnit l it.address (UnitEntry.counted (min 15 (u.missCount + 1))) s)
    (l := l) (by rw [updateUnit_self]; exact hcounted) .misses (some it)
  have hlink := enterFault_link l it.address .misses (some it)
    (updateUnit l it.address (UnitEntry.counted (min 15 (u.missCount + 1))) s)
  have hexpiry (f : UnitEntry → UnitEntry) (s : State) : (updateUnit l it.address f s).backoffExpiry = s.backoffExpiry := by
    simp [State.backoffExpiry]
  rw [updateUnit_self, (updateUnit_keeps _ _ _ _).2.2.2.2.2.1, hexpiry] at hlink
  have hfaulted := unit_mapUnit (faulted_address (s.items.faultMode l) s.backoffExpiry) hcounted
  obtain ⟨u', hu', hflag, howed⟩ := unit_handBack hfaulted (s.items.faultMode l)
  refine ⟨u', by rw [hlink]; exact hu', hflag, howed, ?_, ?_⟩
  · rw [hnotices]
    simp [State.givenAll]
    rfl
  · rw [hlink, handBack_queue, giveBack_queue, giveBack_queue]
    rfl

end

/-! ## The obligation -/

/-- Settles O54: the miss is counted, and `missItem` acts on the state it is handed over in. -/
theorem missLeadsToFaultHandling : Obligations.MissLeadsToFaultHandling := by
  intro s l x it u c r k hx hn hp hbody hlength hu hstate hc entry n newer
  have htaken := takenIn_missedIn l s
  obtain ⟨-, hitems, -, hnotices⟩ := htaken.same
  have hlink := missedIn_up ((up_iff _).mpr hstate)
  have hu' : ((missedIn l s).link l).unit it.address = some u := (unit_takenIn htaken _).trans hu
  have hawaits : x.purpose.awaits = true := by
    rw [hp]
    obtain ⟨a, body⟩ := it
    cases body with
    | level code => exact absurd rfl (hbody code)
    | content _ => rfl
    | probe => rfl
  have hexec := exec_missed k r hx hn hawaits (by simp [hp]) hc (g := missItem l it) fun u => by
    simp only [missTransaction, hp]
  have hacts := actsOn_missItem l it (missedIn l s)
  obtain ⟨hmarks, hframe⟩ := htaken.acts hacts
  have hcontrol := missItem_control l it (missedIn l s)
  rw [hlink] at hcontrol
  have hqueue : (((missedIn l s).link l).giveBack it).queue =
      if newer = false ∧ entry.queue.length < 32 then entry.queue ++ [it] else entry.queue := by
    rw [giveBack_queue, hlink]
    rfl
  have hcount := count_missed hacts.counted (missCounter_not_notice l) hlength
  obtain ⟨hstate', htransaction, -⟩ := Link.of_control hcontrol
  by_cases hbelow : n < s.items.missDeglitch
  · obtain ⟨u', hunit, hflag, hquiet, hq⟩ := missItem_suspects hu' (by rwa [hitems])
    obtain ⟨_, _, _, rfl⟩ := hflag
    refine ⟨_, _, hexec, hmarks, hframe, hcount, (congrArg Link.chainIntact hcontrol :), htransaction, hunit, hstate',
      fun _ => ⟨rfl, rfl, hquiet.trans hnotices, hq.trans hqueue⟩, fun h => absurd hbelow (Nat.not_lt.mpr h)⟩
  · obtain ⟨u', hunit, hflag, howed, hgave, hq⟩ := missItem_faults hu' (by rw [hitems]; exact Nat.le_of_not_lt hbelow)
    rw [hitems, htaken.backoffExpiry] at hflag
    rw [hitems] at howed hq
    rw [hitems, htaken.givenAll] at hgave
    refine ⟨_, u', hexec, hmarks, hframe, hcount, (congrArg Link.chainIntact hcontrol :), htransaction, hunit, hstate',
      fun h => absurd h hbelow, fun _ => ⟨fun hmode => ?_, fun hmode => ?_, fun hmode => ?_⟩⟩
    · rw [hmode] at hflag howed hq hgave
      obtain ⟨_, _, _, rfl⟩ := hflag
      exact ⟨rfl, rfl, by rw [hq, hlink]; rfl, hgave, howed nofun⟩
    · rw [hmode] at hflag howed hq hgave
      obtain ⟨_, _, _, rfl⟩ := hflag
      exact ⟨rfl, rfl, by rw [hq, hlink]; rfl, rfl, rfl, hgave, howed nofun⟩
    · rw [hmode] at hflag hq hgave
      obtain ⟨_, _, _, rfl⟩ := hflag
      exact ⟨rfl, rfl, rfl, hgave.trans (givenAll_report l _ _ u s), hq.trans (by rw [if_pos rfl, hqueue])⟩

end Sys2Proof.Machine
end

section
/-! PROOFS. Back-off probes and wake probes missed (O55). -/

namespace Sys2Proof.Machine

/-! ## Sweeps and the end of a rousing -/

theorem Link.returns_sweep (sup : Supply) (k : Link) : k.Returns (k.sweep sup) := by
  have hserves : Link.Serves (fun _ _ => True) k (k.sweep sup) := Link.serves_sweep fun _ _ _ _ _ => trivial
  exact ⟨hserves.units.imp fun _ _ h => h.1, hserves.control⟩

section
variable {s : State} {l : LinkId} {a : Nat} {u : UnitEntry}

theorem finishRousing_cases (l : LinkId) (s : State) :
    finishRousing l s = s ∨ finishRousing l s = judgeQuiet l (sweepLink l (onLink l Link.awake s)) := by
  by_cases h : (s.link l).state = .rousing ∧ (s.link l).nextRested none = none
  · exact .inr (if_pos h)
  · exact .inl (if_neg h)

/-- What the end of a rousing leaves of a link: its units but for their owed flags, its transaction, and its chain-intact
latch. -/
theorem finishRousing_link (l : LinkId) (s : State) :
    SameUnits (s.link l).units ((finishRousing l s).link l).units ∧
      ((finishRousing l s).link l).transaction = (s.link l).transaction ∧
      ((finishRousing l s).link l).chainIntact = (s.link l).chainIntact := by
  rcases finishRousing_cases l s with h | h
  · exact h.symm ▸ ⟨.refl _, rfl, rfl⟩
  · obtain ⟨delay, hdelay⟩ := judgeQuiet_link l (sweepLink l (onLink l Link.awake s))
    have hswept := Link.returns_sweep ((onLink l Link.awake s).supply l) (s.link l).awake
    rw [h, hdelay, sweepLink_self, onLink_self]
    exact ⟨hswept.units, (congrArg Link.transaction hswept.control :), (congrArg Link.chainIntact hswept.control :)⟩

theorem afterWake_link (l : LinkId) (s : State) :
    SameUnits (s.link l).units ((afterWake l s).link l).units ∧
      ((afterWake l s).link l).transaction = (s.link l).transaction ∧
      ((afterWake l s).link l).chainIntact = (s.link l).chainIntact := by
  simpa [afterWake, advanceWake] using finishRousing_link l (advanceWake l none s)

/-- A rousing with no rested unit left is over (R134). -/
theorem afterWake_running (hstate : (s.link l).state = .rousing) (hall : ∀ v ∈ (s.link l).units, v.rested = false) :
    ((afterWake l s).link l).state = .running := by
  have hnext : ((advanceWake l none s).link l).nextRested none = none := by
    rw [nextRested_none, advanceWake, onLink_self, List.find?_eq_none.mpr fun v hv => by simp [hall v hv]]
    rfl
  exact (finishRousing_running (by simpa [advanceWake] using hstate) hnext).1

theorem actsOn_sweepLink (ps : Set Counter) (l : LinkId) (s : State) : ActsOn ps l s (sweepLink l s) :=
  actsOn_onLink ps l _ s

theorem actsOn_judgeQuiet (ps : Set Counter) (l : LinkId) (s : State) : ActsOn ps l s (judgeQuiet l s) :=
  actsOn_of_marks ps l (dirtyRises_of_dirty_eq (by simp)) (changesOnly_mono (by simp) (changesOnly_judgeQuiet l s))

theorem actsOn_finishRousing (ps : Set Counter) (l : LinkId) (s : State) : ActsOn ps l s (finishRousing l s) := by
  rcases finishRousing_cases l s with h | h
  · exact h.symm ▸ .refl ps l s
  · rw [h]
    exact ((actsOn_onLink ps l Link.awake s).trans (actsOn_sweepLink ps l _)).trans (actsOn_judgeQuiet ps l _)

theorem actsOn_advanceWake (ps : Set Counter) (l : LinkId) (except : Option Nat) (s : State) :
    ActsOn ps l s (advanceWake l except s) := actsOn_onLink ps l _ s

theorem actsOn_afterWake (ps : Set Counter) (l : LinkId) (s : State) : ActsOn ps l s (afterWake l s) :=
  (actsOn_advanceWake ps l none s).trans (actsOn_finishRousing ps l _)

/-! ## Counts -/

theorem length_missedIn (l : LinkId) (s : State) :
    (missedIn l s).status.counts.length = s.status.counts.length := by
  rw [missedIn, (clearTransaction_keeps l _).2.2.2.2.2.2.2.2.2.2.2.2.2.1, countMiss_counts, length_bump]
  simp

theorem count_missedIn_other {m : Counter} (h : m ≠ l.missCounter) : (missedIn l s).count m = s.count m := by
  have hcounts : (missedIn l s).status.counts = (bump l.missCounter s.ready).status.counts := by
    simp [missedIn, countMiss_counts]
  have hbumped := (counted_bump (ps := {l.missCounter}) rfl s.ready).others m h
  rw [State.count, hcounts, ← State.count, hbumped, State.count, State.count]
  simp

/-! ## A unit that has not answered at rousing -/

/-- The entry of a unit that has not answered at rousing, as it enters fault handling (R133). -/
def UnitEntry.unanswered (u : UnitEntry) : UnitEntry := { u.refresh with rested := false }

theorem flagged_unanswered (u : UnitEntry) : ({ u with rested := false } : UnitEntry).Flagged u.unanswered := by
  obtain ⟨seat, strip, headline, h⟩ := u.flagged_refresh
  exact ⟨seat, strip, headline, by rw [UnitEntry.unanswered, h]⟩

theorem mapUnit_mapUnit {f : UnitEntry → UnitEntry} (hf : ∀ u, (f u).address = u.address) (g : UnitEntry → UnitEntry)
    (k : Link) (a : Nat) : (k.mapUnit a f).mapUnit a g = k.mapUnit a fun u => g (f u) := by
  simp only [Link.mapUnit, List.map_map]
  congr 1
  refine List.map_congr_left fun u _ => ?_
  by_cases ha : u.address = a <;> simp [ha, hf]

theorem unanswered_address (u : UnitEntry) : u.unanswered.address = u.address := (flagged_unanswered u).address

theorem wakeMissed_link (l : LinkId) (a : Nat) (s : State) : (wakeMissed l a s).link l = (s.link l).mapUnit a fun u =>
    u.unanswered.faulted (s.items.faultMode l) s.backoffExpiry := by
  have hlink := enterFault_link l a .wake none (updateUnit l a UnitEntry.unanswered (bump l.wakeCounter s))
  have hexpiry : (updateUnit l a UnitEntry.unanswered (bump l.wakeCounter s)).backoffExpiry = s.backoffExpiry := by
    simp [State.backoffExpiry]
  have hmode : (updateUnit l a UnitEntry.unanswered (bump l.wakeCounter s)).items.faultMode l = s.items.faultMode l := by
    simp
  have hbumped : (bump l.wakeCounter s).link l = s.link l := by simp
  rw [updateUnit_self, hexpiry, hmode, hbumped, Link.handBack, mapUnit_mapUnit unanswered_address] at hlink
  exact hlink

theorem wakeMissed_notices (hu : (s.link l).unit a = some u) :
    (wakeMissed l a s).notices = s.givenAll (faultNotices l a (s.items.faultMode l) .wake u) := by
  have hunit : ((updateUnit l a UnitEntry.unanswered (bump l.wakeCounter s)).link l).unit a = some u.unanswered := by
    rw [updateUnit_self, show (bump l.wakeCounter s).link l = s.link l by simp]
    exact unit_mapUnit unanswered_address hu
  have hepisode : u.unanswered.episode = u.episode := by
    obtain ⟨_, _, _, h⟩ := flagged_unanswered u
    rw [h]
  have hfault (n : FaultMode) : faultNotices l a n .wake u.unanswered = faultNotices l a n .wake u := by
    unfold faultNotices
    rw [hepisode]
  refine (enterFault_notices hunit .wake none).trans ?_
  simp [hfault, State.givenAll]

theorem wakeCounter_not_notice (l : LinkId) : l.wakeCounter ∉ noticeCounters := by
  cases l <;> simp [noticeCounters, LinkId.wakeCounter]

/-- The counters a unit that has not answered at rousing counts in (R133, R137). -/
def wakeCounters (l : LinkId) : Set Counter := insert l.wakeCounter noticeCounters

/-- What becomes of a unit that has not answered, once it is counted. -/
theorem actsOn_fallsOut (l : LinkId) (a : Nat) (s : State) {ps : Set Counter} (h : noticeCounters ⊆ ps) :
    ActsOn ps l (bump l.wakeCounter s) (wakeMissed l a s) :=
  (actsOn_updateUnit ps l a _ _).trans (actsOn_enterFault l h a .wake none _)

theorem actsOn_wakeMissed (l : LinkId) (a : Nat) (s : State) : ActsOn (wakeCounters l) l s (wakeMissed l a s) :=
  (actsOn_bump (wakeCounters l) l (Set.mem_insert _ _) s).trans (actsOn_fallsOut l a s (Set.subset_insert _ _))

theorem count_wakeMissed (hlength : s.status.counts.length = 20) (l : LinkId) (a : Nat) :
    (wakeMissed l a s).count l.wakeCounter = oneMore (s.count l.wakeCounter) :=
  ((actsOn_fallsOut l a s subset_rfl).counted.others _ (wakeCounter_not_notice l)).trans (count_bump hlength _)

theorem rested_mapUnit {f : UnitEntry → UnitEntry} (hf : ∀ u, (f u).rested = false) {k : Link}
    (h : ∀ v ∈ k.units, v.rested = true → v.address = a) : ∀ v ∈ (k.mapUnit a f).units, v.rested = false := by
  intro v hv
  obtain ⟨w, hw, rfl⟩ := List.mem_map.mp hv
  by_cases ha : w.address = a
  · simp [ha, hf]
  · simpa [ha] using mt (h w hw) ha

/-- A unit that has not answered at rousing: where the link's rousing stands and what becomes of the unit (R133). -/
theorem wakeMissed_resolves (hu : (s.link l).unit a = some u) : ∃ u',
    ((afterWake l (wakeMissed l a s)).link l).unit a = some u' ∧
      (({ u with rested := false } : UnitEntry).faulted (s.items.faultMode l) s.backoffExpiry).Flagged u' ∧
      u'.rested = false ∧ ((afterWake l (wakeMissed l a s)).link l).transaction = (s.link l).transaction ∧
      ((afterWake l (wakeMissed l a s)).link l).chainIntact = (s.link l).chainIntact ∧
      (afterWake l (wakeMissed l a s)).notices = s.givenAll (faultNotices l a (s.items.faultMode l) .wake u) ∧
      ((s.link l).state = .rousing → (∀ v ∈ (s.link l).units, v.rested = true → v.address = a) →
        ((afterWake l (wakeMissed l a s)).link l).state = .running) := by
  obtain ⟨hunits, htransaction, hintact⟩ := afterWake_link l (wakeMissed l a s)
  rw [wakeMissed_link] at hunits htransaction hintact
  have hmapped := unit_mapUnit
    (f := fun u => u.unanswered.faulted (s.items.faultMode l) s.backoffExpiry)
    (fun u => (faulted_address _ _ _).trans (unanswered_address u)) hu
  obtain ⟨u', hu', hflag⟩ := hunits.unit hmapped
  have hfaulted (mode : FaultMode) (t : Time) :
      (({ u with rested := false } : UnitEntry).faulted mode t).Flagged (u.unanswered.faulted mode t) := by
    obtain ⟨seat, strip, headline, h⟩ := flagged_unanswered u
    refine ⟨seat, strip, headline, ?_⟩
    rw [h]
    cases mode <;> rfl
  have hrested (v : UnitEntry) : (v.unanswered.faulted (s.items.faultMode l) s.backoffExpiry).rested = false := by
    cases s.items.faultMode l <;> rfl
  have hflagged := (hfaulted (s.items.faultMode l) s.backoffExpiry).trans hflag
  refine ⟨u', hu', hflagged, ?_, htransaction, hintact, ?_, fun hstate hall => ?_⟩
  · obtain ⟨_, _, _, rfl⟩ := hflagged
    cases s.items.faultMode l <;> rfl
  · rw [(afterWake_keeps l _).2.2.2.2.2.2.2.2.2.2.2.1]
    exact wakeMissed_notices hu
  · refine afterWake_running (by rw [wakeMissed_link]; exact hstate) ?_
    rw [wakeMissed_link]
    exact rested_mapUnit hrested hall

/-! ## A missed back-off probe -/

theorem retryMs_eq (code : Nat) :
    retryMs code = ([1000, 2000, 5000, 10000, 20000, 30000, 60000] : List Nat).getD code 120000 := by
  rcases code with _ | _ | _ | _ | _ | _ | _ | code <;> rfl

theorem retryMax_eq (code : Nat) : retryMax code =
    ([none, some 1, some 2, some 3, some 5, some 8, some 12] : List (Option Nat)).getD code (some 20) := by
  rcases code with _ | _ | _ | _ | _ | _ | _ | code <;> rfl

/-- The retry count has come to the limit of a RETRY_LIMIT code (R128). -/
def AtRetryLimit (code n : Nat) : Prop := ∃ m, retryMax code = some m ∧ m ≤ n

theorem atRetryLimit_iff (code n : Nat) :
    ((retryMax code).any fun limit => decide (limit ≤ n)) = true ↔ AtRetryLimit code n := by
  simp [Option.any_eq_true, AtRetryLimit]

/-- A unit that fails at the retry limit (R128). -/
def UnitEntry.retired (n : Nat) (u : UnitEntry) : UnitEntry := { u with retryCount := n, state := .failed }

/-- A unit that backs off again (R128). -/
def UnitEntry.retried (n : Nat) (expiry : Time) (u : UnitEntry) : UnitEntry :=
  { u with retryCount := n, backoff := some expiry }

theorem missBackoff_fails (hu : (s.link l).unit a = some u)
    (h : AtRetryLimit s.items.retryLimit (min 255 (u.retryCount + 1))) : missBackoff l a s =
      raise (.unitFailed l a .retry .misses) (updateUnit l a (UnitEntry.retired (min 255 (u.retryCount + 1))) s) := by
  unfold missBackoff
  rw [hu]
  exact if_pos ((atRetryLimit_iff _ _).mpr h)

theorem missBackoff_retries (hu : (s.link l).unit a = some u)
    (h : ¬ AtRetryLimit s.items.retryLimit (min 255 (u.retryCount + 1))) : missBackoff l a s =
      updateUnit l a (UnitEntry.retried (min 255 (u.retryCount + 1)) s.backoffExpiry) s := by
  unfold missBackoff
  rw [hu]
  exact if_neg (mt (atRetryLimit_iff _ _).mp h)

/-- A missed back-off probe raises the retry count: its unit fails at the limit, and backs off again below it (R128). -/
theorem missBackoff_resolves (hu : (s.link l).unit a = some u) :
    ∃ u', ((missBackoff l a s).link l).unit a = some u' ∧ ((missBackoff l a s).link l).control = (s.link l).control ∧
      ((missBackoff l a s).link l).queue = (s.link l).queue ∧ u'.retryCount = min 255 (u.retryCount + 1) ∧
      (AtRetryLimit s.items.retryLimit (min 255 (u.retryCount + 1)) →
        u'.state = .failed ∧ (missBackoff l a s).notices = s.given (.unitFailed l a .retry .misses)) ∧
      (¬ AtRetryLimit s.items.retryLimit (min 255 (u.retryCount + 1)) →
        u'.state = u.state ∧ u'.backoff = some s.backoffExpiry ∧ (missBackoff l a s).notices = s.notices) := by
  by_cases h : AtRetryLimit s.items.retryLimit (min 255 (u.retryCount + 1))
  · have hlink : (missBackoff l a s).link l = (s.link l).mapUnit a (UnitEntry.retired (min 255 (u.retryCount + 1))) := by
      simp [missBackoff_fails hu h]
    have hunit := unit_mapUnit (f := UnitEntry.retired (min 255 (u.retryCount + 1))) (fun _ => rfl) hu
    refine ⟨u.retired _, by rw [hlink]; exact hunit, by rw [hlink]; rfl, by rw [hlink]; rfl, rfl,
      fun _ => ⟨rfl, ?_⟩, absurd h⟩
    rw [missBackoff_fails hu h, raise_notices]
    simp [State.given]
  · have hlink : (missBackoff l a s).link l =
        (s.link l).mapUnit a (UnitEntry.retried (min 255 (u.retryCount + 1)) s.backoffExpiry) := by
      simp [missBackoff_retries hu h]
    have hunit := unit_mapUnit (f := UnitEntry.retried (min 255 (u.retryCount + 1)) s.backoffExpiry) (fun _ => rfl) hu
    refine ⟨u.retried _ _, by rw [hlink]; exact hunit, by rw [hlink]; rfl, by rw [hlink]; rfl, rfl,
      (absurd · h), fun _ => ⟨rfl, rfl, ?_⟩⟩
    simp [missBackoff_retries hu h]

theorem actsOn_missBackoff (l : LinkId) (a : Nat) (s : State) : ActsOn noticeCounters l s (missBackoff l a s) := by
  unfold missBackoff
  split
  · exact .refl _ l s
  · dsimp only
    split
    · exact (actsOn_updateUnit _ l a _ s).trans (actsOn_raise l subset_rfl _ _)
    · exact actsOn_updateUnit _ l a _ s

end

/-! ## The obligation -/

theorem missCounter_not_wake (l : LinkId) : l.missCounter ∉ wakeCounters l := by
  cases l <;> simp [wakeCounters, noticeCounters, LinkId.missCounter, LinkId.wakeCounter]

theorem wakeCounter_ne_miss (l : LinkId) : l.wakeCounter ≠ l.missCounter := by cases l <;> nofun

/-- Settles O55: each miss is counted, and its handler acts on the state it is handed over in. -/
theorem missesAheadOfTheQueueAct : Obligations.MissesAheadOfTheQueueAct := by
  intro s l x a u c r k hx hn hlength hu hstate hc wait
  have htaken := takenIn_missedIn l s
  obtain ⟨-, hitems, -, hnotices⟩ := htaken.same
  have hlink := missedIn_up ((up_iff _).mpr hstate)
  have hmissed : ((missedIn l s).link l).unit a = some u := (unit_takenIn htaken _).trans hu
  have hwait : s.backoffExpiry = s.timebase + wait := by rw [State.backoffExpiry, ms, retryMs_eq]
  refine ⟨fun hp => ?_, fun hp => ?_⟩
  · intro n limit
    have hexec := exec_missed k r hx hn (by rw [hp]; rfl) (by simp [hp]) hc (g := missBackoff l a) fun u => by
      simp only [missTransaction, hp]
    have hacts := actsOn_missBackoff l a (missedIn l s)
    obtain ⟨hmarks, hframe⟩ := htaken.acts hacts
    obtain ⟨u', hunit, hcontrol, hqueue, hcount, hfails, hretries⟩ := missBackoff_resolves hmissed
    rw [hlink] at hcontrol hqueue
    rw [hitems] at hfails hretries
    have hlimit : AtRetryLimit s.items.retryLimit n ↔ ∃ m, limit = some m ∧ m ≤ n := by
      rw [AtRetryLimit, retryMax_eq]
    obtain ⟨hstate', htransaction, -⟩ := Link.of_control hcontrol
    refine ⟨_, u', hexec, hmarks, hframe, count_missed hacts.counted (missCounter_not_notice l) hlength,
      (congrArg Link.chainIntact hcontrol :), htransaction, hstate', hqueue, hunit, hcount, fun h => ?_, fun h => ?_⟩
    · obtain ⟨hfailed, hgave⟩ := hfails (hlimit.mpr h)
      exact ⟨hfailed, hgave.trans (htaken.givenAll [_])⟩
    · have hbelow : ¬ AtRetryLimit s.items.retryLimit n := fun hat => by
        obtain ⟨m, hm, hle⟩ := hlimit.mp hat
        exact Nat.not_lt.mpr hle (h m hm)
      obtain ⟨hstays, hbackoff, hquiet⟩ := hretries hbelow
      rw [htaken.backoffExpiry, hwait] at hbackoff
      exact ⟨hstays, hbackoff, hquiet.trans hnotices⟩
  · have hexec := exec_missed k r hx hn (by rw [hp]; rfl) (by simp [hp]) hc
      (g := fun s => afterWake l (wakeMissed l a s)) fun u => by simp only [missTransaction, hp]
    have hacts := (actsOn_wakeMissed l a (missedIn l s)).trans (actsOn_afterWake _ l _)
    obtain ⟨hmarks, hframe⟩ := htaken.acts hacts
    have hwake := count_wakeMissed ((length_missedIn l s).trans hlength) l a
    obtain ⟨u', hunit, hflag, hrested, htransaction, hintact, hgave, hover⟩ := wakeMissed_resolves hmissed
    rw [hitems, htaken.backoffExpiry, hwait] at hflag
    rw [hlink] at htransaction hintact hover
    rw [hitems, htaken.givenAll] at hgave
    refine ⟨_, u', hexec, hmarks, hframe, count_missed hacts.counted (missCounter_not_wake l) hlength, ?_, hintact,
      htransaction, hunit, hrested, fun hmode => ?_, fun hmode => ?_, fun hmode => ?_, hover⟩
    · exact ((actsOn_afterWake ∅ l _).counted.others _ nofun).trans
        (hwake.trans (by rw [count_missedIn_other (wakeCounter_ne_miss l)]))
    · rw [hmode] at hflag hgave
      obtain ⟨_, _, _, rfl⟩ := hflag
      exact ⟨rfl, hgave⟩
    · rw [hmode] at hflag hgave
      obtain ⟨_, _, _, rfl⟩ := hflag
      exact ⟨rfl, rfl, hgave⟩
    · rw [hmode] at hflag hgave
      obtain ⟨_, _, _, rfl⟩ := hflag
      exact ⟨rfl, rfl, rfl, hgave.trans (givenAll_report l a _ u s)⟩

end Sys2Proof.Machine
end

section
/-! PROOFS. Replies to back-off probes, wake probes and UNASSIGNED frames (O53). -/

namespace Sys2Proof.Machine

section
variable {s : State} {l : LinkId} {x : Transaction} {a : Nat} {u : UnitEntry}

/-! ## A back-off probe answered -/

/-- The entry of a unit that has recovered, at rest or ACTIVE (R128). -/
def UnitEntry.recovered (rests : Prop) [Decidable rests] (now : Time) (interval : Nat) (u : UnitEntry) : UnitEntry :=
  { (u.succeed now interval).refresh with
    retryCount := 0
    missCount := 0
    state := if rests then .resting else .active
    rested := if rests then true else u.rested }

theorem recovered_of_flagged {rests : Prop} [Decidable rests] {now : Time} {interval : Nat} {v : UnitEntry}
    (h : (u.recovered rests now interval).Flagged v) : v.retryCount = 0 ∧ v.missCount = 0 ∧ v.lastSuccess = now ∧
      v.probeDeadline = now + ms (interval * 1000) ∧ v.state = (if rests then .resting else .active) ∧
      v.rested = if rests then true else u.rested := by
  obtain ⟨_, _, _, rfl⟩ := h
  obtain ⟨_, _, _, hrefresh⟩ := (u.succeed now interval).flagged_refresh
  refine ⟨rfl, rfl, ?_, ?_, rfl, rfl⟩ <;> simp only [UnitEntry.recovered, hrefresh] <;> rfl

theorem recoverUnit_eq (hu : (s.link l).unit a = some u) : recoverUnit l a s =
    sweepLink l (raise (.unitRecovered l a u.retryCount) (updateUnit l a (UnitEntry.recovered
      ((s.link l).state = .resting ∧ u.page.canRest = true) s.timebase s.items.probeInterval) s)) := by
  unfold recoverUnit
  rw [hu]
  rfl

theorem recovered_address (rests : Prop) [Decidable rests] (now : Time) (interval : Nat) (u : UnitEntry) :
    (u.recovered rests now interval).address = u.address := refresh_address (u.succeed now interval)

theorem recoverUnit_resolves (hu : (s.link l).unit a = some u) : ∃ u', ((recoverUnit l a s).link l).unit a = some u' ∧
    (u.recovered ((s.link l).state = .resting ∧ u.page.canRest = true) s.timebase s.items.probeInterval).Flagged u' ∧
    ((recoverUnit l a s).link l).transaction = (s.link l).transaction ∧
    (recoverUnit l a s).notices = s.given (.unitRecovered l a u.retryCount) := by
  have hmapped := unit_mapUnit (recovered_address ((s.link l).state = .resting ∧ u.page.canRest = true) s.timebase
    s.items.probeInterval) hu
  rw [recoverUnit_eq hu, sweepLink_self, (raise_keeps _ _).2.2.2.2.2.2.2.2.2.2.2.2, updateUnit_self]
  generalize State.supply _ l = sup
  obtain ⟨hunits, hcontrol⟩ := Link.returns_sweep sup ((s.link l).mapUnit a (UnitEntry.recovered
    ((s.link l).state = .resting ∧ u.page.canRest = true) s.timebase s.items.probeInterval))
  obtain ⟨u', hu', hflag⟩ := hunits.unit hmapped
  refine ⟨u', hu', hflag, (congrArg Link.transaction hcontrol :), ?_⟩
  rw [(sweepLink_keeps l _).2.2.2.2.2.2.2.2.2.2.2.1, raise_notices]
  simp [State.given]

theorem actsOn_recoverUnit (l : LinkId) (a : Nat) (s : State) : ActsOn noticeCounters l s (recoverUnit l a s) := by
  unfold recoverUnit
  split
  · exact .refl _ l s
  · exact ((actsOn_updateUnit _ l a _ s).trans (actsOn_raise l subset_rfl _ _)).trans (actsOn_sweepLink _ l _)

/-! ## A wake probe answered in time -/

/-- The entry of a unit that has answered its wake probe in time (R133). -/
def UnitEntry.woken (busy : Bool) (now : Time) (interval : Nat) (u : UnitEntry) : UnitEntry :=
  { (u.succeed now interval).refresh with
    state := .active
    rested := false
    missCount := 0
    episode := u.episode && busy }

theorem woken_address (busy : Bool) (now : Time) (interval : Nat) (u : UnitEntry) :
    (u.woken busy now interval).address = u.address := refresh_address (u.succeed now interval)

theorem woken_of_flagged {busy : Bool} {now : Time} {interval : Nat} {v : UnitEntry}
    (h : (u.woken busy now interval).Flagged v) : v.rested = false ∧ v.state = .active ∧ v.missCount = 0 ∧
      v.lastSuccess = now ∧ v.episode = (u.episode && busy) := by
  obtain ⟨_, _, _, rfl⟩ := h
  obtain ⟨_, _, _, hrefresh⟩ := (u.succeed now interval).flagged_refresh
  refine ⟨rfl, rfl, rfl, ?_, rfl⟩
  simp only [UnitEntry.woken, hrefresh]
  rfl

theorem wakeUnit_link (l : LinkId) (a : Nat) (busy : Bool) (s : State) : (wakeUnit l a busy s).link l =
    (s.link l).mapUnit a (UnitEntry.woken busy s.timebase s.items.probeInterval) := updateUnit_self l a _ s

theorem wakeUnit_resolves (hu : (s.link l).unit a = some u) (busy : Bool) : ∃ u',
    ((afterWake l (wakeUnit l a busy s)).link l).unit a = some u' ∧
      (u.woken busy s.timebase s.items.probeInterval).Flagged u' ∧
      ((afterWake l (wakeUnit l a busy s)).link l).transaction = (s.link l).transaction ∧
      ((s.link l).state = .rousing → (∀ v ∈ (s.link l).units, v.rested = true → v.address = a) →
        ((afterWake l (wakeUnit l a busy s)).link l).state = .running) := by
  obtain ⟨hunits, htransaction, -⟩ := afterWake_link l (wakeUnit l a busy s)
  rw [wakeUnit_link] at hunits htransaction
  obtain ⟨u', hu', hflag⟩ := hunits.unit (unit_mapUnit (woken_address busy s.timebase s.items.probeInterval) hu)
  refine ⟨u', hu', hflag, htransaction, fun hstate hall => ?_⟩
  refine afterWake_running (by rw [wakeUnit_link]; exact hstate) ?_
  rw [wakeUnit_link]
  exact rested_mapUnit (fun _ => rfl) hall

theorem actsOn_wakeUnit (l : LinkId) (a : Nat) (busy : Bool) (s : State) :
    ActsOn ∅ l s (afterWake l (wakeUnit l a busy s)) :=
  (actsOn_updateUnit _ l a _ s).trans (actsOn_afterWake _ l _)

/-! ## A wake probe answered late -/

/-- The state in which a late reply resolves its unit: OK ends the report episode, and BUSY does not (R129, log 42). -/
def heardLate (l : LinkId) (a : Nat) (busy : Bool) (s : State) : State := if busy then s else endEpisode l a s

/-- An entry whose unit has been heard late. -/
def UnitEntry.heard (busy : Bool) (u : UnitEntry) : UnitEntry := { u with episode := u.episode && busy }

theorem heardLate_link (l : LinkId) (a : Nat) (busy : Bool) (s : State) :
    (heardLate l a busy s).link l = (s.link l).mapUnit a (UnitEntry.heard busy) := by
  cases busy with
  | true => simp [heardLate, Link.mapUnit, UnitEntry.heard]
  | false =>
    have hended : UnitEntry.heard false = fun u => { u with episode := false } := by
      funext u
      simp [UnitEntry.heard]
    rw [hended]
    exact updateUnit_self l a _ s

theorem heardLate_keeps (l : LinkId) (a : Nat) (busy : Bool) (s : State) :
    (heardLate l a busy s).items = s.items ∧ (heardLate l a busy s).timebase = s.timebase ∧
      (heardLate l a busy s).notices = s.notices ∧ (heardLate l a busy s).status.counts = s.status.counts := by
  cases busy <;> simp [heardLate]

theorem actsOn_lateReply (l : LinkId) (a : Nat) (busy : Bool) (s : State) :
    ActsOn (wakeCounters l) l s (afterWake l (wakeMissed l a (heardLate l a busy s))) := by
  have hheard : ActsOn (wakeCounters l) l s (heardLate l a busy s) := by
    cases busy
    · exact actsOn_updateUnit _ l a _ s
    · exact .refl _ l s
  exact (hheard.trans (actsOn_wakeMissed l a _)).trans (actsOn_afterWake _ l _)

theorem heard_only {busy : Bool} {k : Link} (h : ∀ v ∈ k.units, v.rested = true → v.address = a) :
    ∀ v ∈ (k.mapUnit a (UnitEntry.heard busy)).units, v.rested = true → v.address = a := by
  intro v hv hrested
  obtain ⟨w, hw, rfl⟩ := List.mem_map.mp hv
  by_cases ha : w.address = a
  · simp [ha, UnitEntry.heard]
  · simp only [beq_iff_eq, if_neg ha] at hrested ⊢
    exact h w hw hrested

/-- A late reply: the unit is resolved as not answering (R133). -/
theorem lateReply_resolves (hu : (s.link l).unit a = some u) (busy : Bool) : ∃ u',
    ((afterWake l (wakeMissed l a (heardLate l a busy s))).link l).unit a = some u' ∧
      (({ u.heard busy with rested := false } : UnitEntry).faulted (s.items.faultMode l) s.backoffExpiry).Flagged u' ∧
      u'.rested = false ∧
      ((afterWake l (wakeMissed l a (heardLate l a busy s))).link l).transaction = (s.link l).transaction ∧
      (afterWake l (wakeMissed l a (heardLate l a busy s))).notices =
        s.givenAll (faultNotices l a (s.items.faultMode l) .wake (u.heard busy)) ∧
      ((s.link l).state = .rousing → (∀ v ∈ (s.link l).units, v.rested = true → v.address = a) →
        ((afterWake l (wakeMissed l a (heardLate l a busy s))).link l).state = .running) := by
  have hlink := heardLate_link l a busy s
  obtain ⟨hitems, htime, hnotices, -⟩ := heardLate_keeps l a busy s
  have hunit : ((heardLate l a busy s).link l).unit a = some (u.heard busy) := by
    rw [hlink]
    exact unit_mapUnit (f := UnitEntry.heard busy) (fun _ => rfl) hu
  have hexpiry : (heardLate l a busy s).backoffExpiry = s.backoffExpiry := by
    rw [State.backoffExpiry, hitems, htime, State.backoffExpiry]
  obtain ⟨u', hu', hflag, hrested, htransaction, -, hgave, hover⟩ := wakeMissed_resolves hunit
  rw [hitems, hexpiry] at hflag
  rw [hlink] at htransaction hover
  rw [hitems, givenAll_append (first := []) hnotices hitems htime] at hgave
  exact ⟨u', hu', hflag, hrested, htransaction, hgave, fun hstate hall => hover hstate (heard_only hall)⟩

theorem count_lateReply (hlength : s.status.counts.length = 20) (l : LinkId) (a : Nat) (busy : Bool) :
    (afterWake l (wakeMissed l a (heardLate l a busy s))).count l.wakeCounter = oneMore (s.count l.wakeCounter) := by
  obtain ⟨-, -, -, hcounts⟩ := heardLate_keeps l a busy s
  rw [(actsOn_afterWake ∅ l _).counted.others _ nofun, count_wakeMissed (by rwa [hcounts]),
    State.count, hcounts, State.count]

/-! ## Replies handed over -/

theorem beganInTime_iff {k : Link} {expiry : Time} (h : k.wakeExpiry = some expiry) (began : Time) :
    beganInTime k began = true ↔ 0 < (expiry - began).toNat ∧ (expiry - began).toNat < 2 ^ 31 := by
  simp [beganInTime, h]

theorem exec_wakeProbeReply (h : s.items.softReset = false) (r : s.bus.resetAsserted = false)
    (hx : (s.link l).transaction = some x) (hn : (s.link l).reenumerate = false) (hp : x.purpose = .wakeProbe a)
    (busy : Bool) (began : Time) : exec (.wakeProbeReply l busy began) s = .next (afterWake l
      (if beganInTime (s.link l) began then wakeUnit l a busy (idled l s)
        else wakeMissed l a (heardLate l a busy (idled l s)))) := by
  refine exec_replied h r hx hn rfl (g := fun u => afterWake l
    (if beganInTime (s.link l) began then wakeUnit l a busy u else wakeMissed l a (heardLate l a busy u))) ?_
  simp only [hp, link_ready]
  rfl

theorem exec_unassignedReply (h : s.items.softReset = false) (r : s.bus.resetAsserted = false)
    (hx : (s.link l).transaction = some x) (hn : (s.link l).reenumerate = false) (hp : x.purpose = .unassigned a)
    {ending : ShowEnd} (he : ending ≠ .miss) : exec (.unassignedShowEnd l ending) s = .next (idled l s) := by
  refine exec_replied (g := id) h r hx hn rfl ?_
  cases ending with
  | miss => exact absurd rfl he
  | ok | busy => simp only [hp]

theorem exec_unassignedMiss (h : s.items.softReset = false) (r : s.bus.resetAsserted = false)
    (hx : (s.link l).transaction = some x) (hn : (s.link l).reenumerate = false) (hp : x.purpose = .unassigned a) :
    exec (.unassignedShowEnd l .miss) s = .next (missedIn l s) := by
  refine congrArg Host.Outcome.next ((onEvent_inFlight _ h r hx).trans ?_)
  simp only [hp, missTransaction]
  exact ended_runs (by rwa [reenumerate_countMiss, link_ready]) _

end

/-! ## The obligation -/

/-- Settles O53: each reply is handed to its handler on the idled link. -/
theorem repliesAheadOfTheQueueAct : Obligations.RepliesAheadOfTheQueueAct := by
  intro s l x a u r k hx hn hlength hu hstate
  have hlink : (idled l s).link l = { s.link l with transaction := none } := idled_link l s
  obtain ⟨-, hitems, htime, hnotices, hcounts, -⟩ := idled_keeps l s
  have htaken := takenIn_idled l s
  have hunit : ((idled l s).link l).unit a = some u := (unit_takenIn htaken a).trans hu
  refine ⟨fun busy hp => ?_, fun busy began expiry hp he => ?_, fun ending hp => ?_⟩
  · have hexec := exec_replied (c := .backoffProbeReply l busy) (g := recoverUnit l a) k r hx hn rfl (by simp only [hp])
    obtain ⟨u', hu', hflag, htransaction, hgave⟩ := recoverUnit_resolves hunit
    rw [hlink] at hflag htransaction
    rw [hitems, htime] at hflag
    obtain ⟨hretry, hmiss, hsuccess, hdeadline, hst, hrested⟩ := recovered_of_flagged hflag
    obtain ⟨hmarks, hframe⟩ := htaken.acts (actsOn_recoverUnit l a (idled l s))
    refine ⟨_, u', hexec, hmarks, hframe, htransaction, hu', hretry, hmiss, hsuccess, hdeadline,
      fun h => ?_, fun h => ?_, hgave.trans (htaken.givenAll [_])⟩
    · exact ⟨hst.trans (if_pos h), hrested.trans (if_pos h)⟩
    · exact ⟨hst.trans (if_neg h), hrested.trans (if_neg h)⟩
  · have hexec := exec_wakeProbeReply k r hx hn hp busy began
    by_cases htimely : beganInTime (s.link l) began = true
    · rw [if_pos htimely] at hexec
      have hacts := actsOn_wakeUnit l a busy (idled l s)
      obtain ⟨hmarks, hframe⟩ := htaken.acts hacts
      obtain ⟨u', hu', hflag, htransaction, hover⟩ := wakeUnit_resolves hunit busy
      rw [hlink] at htransaction hover
      rw [hitems, htime] at hflag
      obtain ⟨hrested, hactive, hmiss, hsuccess, hepisode⟩ := woken_of_flagged hflag
      refine ⟨_, u', hexec, hmarks, hframe, htransaction, hu', hrested,
        fun _ => ⟨hactive, hmiss, hsuccess, hepisode, by simp [hnotices], ?_⟩,
        fun h => absurd ((beganInTime_iff he began).mp htimely) h, hover⟩
      rw [hacts.counted.others _ nofun, State.count, hcounts, State.count]
    · rw [if_neg htimely] at hexec
      obtain ⟨hmarks, hframe⟩ := htaken.acts (actsOn_lateReply l a busy (idled l s))
      have hcount := count_lateReply (by rwa [hcounts]) l a busy
      obtain ⟨u', hu', hflag, hrested, htransaction, hgave, hover⟩ := lateReply_resolves hunit busy
      rw [hlink] at htransaction hover
      rw [hitems, htaken.backoffExpiry] at hflag
      rw [hitems, htaken.givenAll] at hgave
      refine ⟨_, u', hexec, hmarks, hframe, htransaction, hu', hrested,
        fun h => absurd ((beganInTime_iff he began).mpr h) htimely,
        fun _ => ⟨?_, fun hmode => ?_, fun hmode => ?_, fun hmode => ?_⟩, hover⟩
      · rw [hcount, State.count, hcounts, State.count]
      · rw [hmode] at hflag hgave
        obtain ⟨_, _, _, rfl⟩ := hflag
        exact ⟨rfl, rfl, rfl, hgave⟩
      · rw [hmode] at hflag hgave
        obtain ⟨_, _, _, rfl⟩ := hflag
        exact ⟨rfl, rfl, rfl, rfl, hgave⟩
      · rw [hmode] at hflag hgave
        obtain ⟨_, _, _, rfl⟩ := hflag
        refine ⟨rfl, rfl, rfl, hgave.trans ((givenAll_report l a _ _ s).trans ?_)⟩
        simp only [UnitEntry.heard, Bool.and_eq_true]
  · by_cases hmiss : ending = .miss
    · subst hmiss
      refine ⟨_, exec_unassignedMiss k r hx hn hp, absurd rfl, fun _ => ⟨missedIn_up ((up_iff _).mpr hstate),
        count_missedIn hlength l, changesOnly_mono (by simp) (takenIn_missedIn l s).frame⟩⟩
    · exact ⟨_, exec_unassignedReply k r hx hn hp hmiss, fun _ => ⟨hlink, changesOnly_idled l s⟩, (absurd · hmiss)⟩

end Sys2Proof.Machine
end

section
/-! PROOFS. The wake expiry (O47): the units not yet probed are resolved one after the other. -/

namespace Sys2Proof.Machine

/-! ## Units resolved one after the other -/

/-- The units of some addresses have not answered at rousing. -/
def missWakes (l : LinkId) (as : List Nat) (s : State) : State := as.foldl (fun s a => wakeMissed l a s) s

theorem actsOn_missWakes (l : LinkId) (as : List Nat) (s : State) : ActsOn (wakeCounters l) l s (missWakes l as s) :=
  List.foldlRecOn (motive := ActsOn (wakeCounters l) l s) as _ (.refl _ l s) fun _ h a _ =>
    h.trans (actsOn_wakeMissed l a _)

/-- The state a unit is left in by an entry into fault handling (R126, R127, R129). -/
def FaultMode.unitState : FaultMode → UnitState
  | .latch => .failed
  | .retry => .backoff
  | .report => .active

/-- An entry once the units of some addresses are resolved as not answering: one of them is rested no more and in the
state of the fault mode, and any other stands. -/
structure UnitEntry.Resolved (as : List Nat) (mode : FaultMode) (u v : UnitEntry) : Prop where
  address : v.address = u.address
  missed : u.address ∈ as → v.rested = false ∧ v.state = mode.unitState
  other : u.address ∉ as → v = u

theorem UnitEntry.Resolved.trans {a : Nat} {as : List Nat} {mode : FaultMode} {u v w : UnitEntry}
    (h : u.Resolved [a] mode v) (k : v.Resolved as mode w) : u.Resolved (a :: as) mode w := by
  refine ⟨k.address.trans h.address, fun hu => ?_, fun hu => ?_⟩
  · by_cases hv : v.address ∈ as
    · exact k.missed hv
    · rw [k.other hv]
      refine h.missed (List.mem_singleton.mpr ((List.mem_cons.mp hu).resolve_right ?_))
      rwa [← h.address]
  · rw [List.mem_cons, not_or] at hu
    have hstands : v = u := h.other (by simpa using hu.1)
    rw [k.other (by rw [hstands]; exact hu.2), hstands]

theorem faulted_state (mode : FaultMode) (expiry : Time) (u : UnitEntry) :
    (u.faulted mode expiry).state = mode.unitState := by cases mode <;> rfl

theorem faulted_rested (mode : FaultMode) (expiry : Time) (u : UnitEntry) :
    (u.faulted mode expiry).rested = u.rested := by cases mode <;> rfl

theorem missWakes_link (l : LinkId) (as : List Nat) (s : State) :
    ((missWakes l as s).link l).control = (s.link l).control ∧
      List.Forall₂ (UnitEntry.Resolved as (s.items.faultMode l)) (s.link l).units ((missWakes l as s).link l).units := by
  induction as generalizing s with
  | nil => exact ⟨rfl, forall₂_self (fun u => ⟨rfl, fun h => absurd h List.not_mem_nil, fun _ => rfl⟩) _⟩
  | cons a as ih =>
    have hfirst : List.Forall₂ (UnitEntry.Resolved [a] (s.items.faultMode l)) (s.link l).units
        ((wakeMissed l a s).link l).units := by
      rw [wakeMissed_link]
      refine forall₂_mapUnit _ a _ (fun u _ ha => ⟨?_, fun _ => ⟨?_, faulted_state _ _ _⟩, fun h => ?_⟩)
        fun u _ ha => ⟨rfl, fun h => absurd (List.mem_singleton.mp h) ha, fun _ => rfl⟩
      · exact (faulted_address _ _ _).trans (unanswered_address u)
      · exact faulted_rested _ _ _
      · exact absurd (List.mem_singleton.mpr ha) h
    obtain ⟨hcontrol, hrest⟩ := ih (wakeMissed l a s)
    rw [(wakeMissed_keeps l a s).2.2.2.2.2.1] at hrest
    refine ⟨hcontrol.trans (by rw [wakeMissed_link]; rfl), ?_⟩
    exact forall₂_trans (R := UnitEntry.Resolved [a] (s.items.faultMode l))
      (S := UnitEntry.Resolved as (s.items.faultMode l)) (fun _ _ _ => .trans) hfirst hrest

/-- Each unit counts (R133, R144). -/
theorem count_missWakes (l : LinkId) (as : List Nat) {s : State} (hlength : s.status.counts.length = 20)
    (hroom : s.count l.wakeCounter ≤ 65535) :
    (missWakes l as s).count l.wakeCounter = min 65535 (s.count l.wakeCounter + as.length) := by
  induction as generalizing s with
  | nil => simpa [missWakes] using hroom
  | cons a as ih =>
    have hfirst := count_wakeMissed hlength l a
    have hroom' : (wakeMissed l a s).count l.wakeCounter ≤ 65535 := by
      rw [hfirst, oneMore]
      split <;> omega
    refine (ih ((actsOn_wakeMissed l a s).length.trans hlength) hroom').trans ?_
    rw [hfirst, oneMore, List.length_cons]
    split <;> omega

/-! ## The expiry -/

/-- The address of the wake probe in flight, if one is. -/
def Link.probed (k : Link) : Option Nat :=
  match k.transaction with
  | some ⟨.wakeProbe a, _, _, _, _⟩ => some a
  | _ => none

/-- The rested units that no wake probe is in flight to. -/
def Link.unprobed (k : Link) : List UnitEntry := k.units.filter fun u => u.rested && decide (some u.address ≠ k.probed)

/-- The state in which the units not yet probed are resolved and the wake probe position stands behind them. -/
def wakesMissed (l : LinkId) (s : State) : State :=
  advanceWake l (s.link l).probed (missWakes l ((s.link l).unprobed.map UnitEntry.address) s)

theorem expireWake_eq (l : LinkId) (t : Time) (s : State) :
    expireWake l t s = finishRousing l (wakesMissed l (advanceTo t s)) := rfl

theorem exec_wakeExpiry {s : State} {l : LinkId} {expiry : Time} (r : s.bus.resetAsserted = false)
    (k : s.items.softReset = false) (hstate : (s.link l).state = .rousing) (h : (s.link l).wakeExpiry = some expiry) :
    exec (.wakeExpiry l) s = .next (finishRousing l (wakesMissed l (s.atExpiry expiry))) := by
  refine congrArg Host.Outcome.next ((onEvent_run _ k r).trans ?_)
  simp only [link_ready, hstate, h, if_true]
  exact expireWake_eq l expiry s.ready

theorem actsOn_wakesMissed (l : LinkId) (s : State) : ActsOn (wakeCounters l) l s (wakesMissed l s) :=
  (actsOn_missWakes l ((s.link l).unprobed.map UnitEntry.address) s).trans
    (actsOn_advanceWake _ l _ _)

theorem wakesMissed_units (l : LinkId) (s : State) :
    List.Forall₂ (UnitEntry.Resolved ((s.link l).unprobed.map UnitEntry.address) (s.items.faultMode l)) (s.link l).units
      ((wakesMissed l s).link l).units := by
  rw [wakesMissed, advanceWake, onLink_self]
  exact (missWakes_link l _ s).2

theorem count_wakesMissed {l : LinkId} {s : State} (hlength : s.status.counts.length = 20)
    (hroom : s.count l.wakeCounter ≤ 65535) :
    (wakesMissed l s).count l.wakeCounter = min 65535 (s.count l.wakeCounter + (s.link l).unprobed.length) := by
  have hcount := count_missWakes l ((s.link l).unprobed.map UnitEntry.address) hlength hroom
  rw [List.length_map] at hcount
  exact ((actsOn_advanceWake ∅ l _ _).counted.others _ nofun).trans hcount

/-- A unit left rested is the one that a wake probe is in flight to. -/
theorem probed_of_rested {l : LinkId} {s : State} {v : UnitEntry} (hv : v ∈ ((wakesMissed l s).link l).units)
    (hrested : v.rested = true) : some v.address = (s.link l).probed := by
  obtain ⟨u, hu, h⟩ := exists_of_forall₂ (wakesMissed_units l s) hv
  have hnot : u.address ∉ (s.link l).unprobed.map UnitEntry.address := fun hmem => by
    rw [(h.missed hmem).1] at hrested
    cases hrested
  obtain rfl := h.other hnot
  by_contra hne
  exact hnot (List.mem_map.mpr ⟨v, List.mem_filter.mpr ⟨hu, by simp [hrested, hne]⟩, rfl⟩)

/-- With no wake probe in flight the rousing is over (R134). -/
theorem wakesMissed_running {l : LinkId} {s : State} (hstate : (s.link l).state = .rousing)
    (h : (s.link l).probed = none) : ((finishRousing l (wakesMissed l s)).link l).state = .running ∧
      ((finishRousing l (wakesMissed l s)).link l).wakeExpiry = none ∧
      ((finishRousing l (wakesMissed l s)).link l).wakePosition = none := by
  have hcontrol := (missWakes_link l ((s.link l).unprobed.map UnitEntry.address) s).1
  have hrousing : ((wakesMissed l s).link l).state = .rousing := by
    rw [wakesMissed, advanceWake, onLink_self]
    exact (Link.of_control hcontrol).1.trans hstate
  have hnone : ((wakesMissed l s).link l).nextRested none = none := by
    rw [nextRested_none, Option.map_eq_none_iff, List.find?_eq_none]
    intro v hv hrested
    have hprobed := probed_of_rested hv hrested
    rw [h] at hprobed
    cases hprobed
  obtain ⟨hrunning, hexpiry, hposition, -⟩ := finishRousing_running hrousing hnone
  exact ⟨hrunning, hexpiry, hposition⟩

/-- Settles O47: the units are resolved at the deadline, and the sweep at the end changes owed flags only. -/
theorem wakeExpiryResolvesTheUnprobed : Obligations.WakeExpiryResolvesTheUnprobed := by
  intro s l expiry r k hstate he hlength hroom
  have hlink : (s.atExpiry expiry).link l = s.link l := atExpiry_link s expiry l
  obtain ⟨-, -, -, hitems, -, htime⟩ := atExpiry_keeps s expiry
  have hcounts : (s.atExpiry expiry).status.counts = s.status.counts := by simp [State.atExpiry]
  have hfinished := actsOn_finishRousing ∅ l (wakesMissed l (s.atExpiry expiry))
  have hacts := (actsOn_wakesMissed l (s.atExpiry expiry)).trans (actsOn_finishRousing _ l _)
  have hexpired : DirtyRises s (s.atExpiry expiry) := dirtyRises_trans (dirtyRises_ready s) (dirtyRises_advanceTo _ _)
  have hunits := wakesMissed_units l (s.atExpiry expiry)
  rw [hlink, hitems] at hunits
  obtain ⟨hsame, -⟩ := finishRousing_link l (wakesMissed l (s.atExpiry expiry))
  intro probed due
  refine ⟨_, exec_wakeExpiry r k hstate he, (hacts.frame .timebase (by simp)).trans htime,
    dirtyRises_trans hexpired hacts.marks, changesOnly_trans (changesOnly_mono (by simp) (changesOnly_atExpiry s expiry))
      (changesOnly_mono (by simp) hacts.frame), ?_, fun v hv hrested => ?_, fun v hv hdue => ?_, fun hp => ?_⟩
  · rw [hfinished.counted.others _ nofun, count_wakesMissed (by rwa [hcounts]) (by rwa [State.count, hcounts]), hlink,
      State.count, hcounts]
    rfl
  · obtain ⟨w, hw, _, _, _, rfl⟩ := exists_of_forall₂ hsame hv
    have hprobed := probed_of_rested hw hrested
    rw [hlink] at hprobed
    exact hprobed
  · obtain ⟨w, hw, _, _, _, rfl⟩ := exists_of_forall₂ hsame hv
    obtain ⟨u, -, hresolved⟩ := exists_of_forall₂ hunits hw
    obtain ⟨d, hd, ha⟩ := hdue
    have hmem : u.address ∈ (s.link l).unprobed.map UnitEntry.address :=
      List.mem_map.mpr ⟨d, hd, ha.trans hresolved.address⟩
    exact (hresolved.missed hmem).2
  · exact wakesMissed_running (s := s.atExpiry expiry) (l := l) (by rwa [hlink]) (by rw [hlink]; exact hp)

end Sys2Proof.Machine
end

section
/-! PROOFS. The next frame of a free link, in the order of R130 (O48). -/

namespace Sys2Proof.Machine

/-! ## Frames begun -/

/-- Whatever frame is in flight was begun now, and has a header. -/
def Link.Begun (now : Time) (k : Link) : Prop := ∀ x, k.transaction = some x → x.began = now ∧ 0 < x.frame.length

theorem begun_idle {k : Link} (h : k.transaction = none) (now : Time) : k.Begun now := by
  intro x hx
  rw [h] at hx
  cases hx

theorem begun_beginFrame (l : LinkId) (p : Purpose) (a : Nat) (kind : FrameKind) (payload : List Half) (s : State) :
    ((beginFrame l p a kind payload s).link l).Begun s.timebase := by
  rw [beginFrame_self]
  rintro x ⟨⟩
  exact ⟨rfl, Nat.succ_pos _⟩

/-- The direction output of a frame begun at a time: driven to the last word (R90, log 28). -/
theorem driving_of_begun {k : Link} {now : Time} (h : k.Begun now) {x : Transaction} (hx : k.transaction = some x)
    (t : Time) : k.driving t = true ↔
      x.purpose.awaits = false ∨ (t - now).toNat * 1000 < 32 * x.frame.length := by
  simp [Link.driving, hx, (h x hx).1]

theorem driving_now {k : Link} {now : Time} (h : k.Begun now) (hsome : k.transaction.isSome = true) :
    k.driving now = true := by
  obtain ⟨x, hx⟩ := Option.isSome_iff_exists.mp hsome
  refine (driving_of_begun h hx now).mpr (.inr ?_)
  have hlength := (h x hx).2
  have hzero : (now - now).toNat = 0 := by simp
  rw [hzero]
  omega

theorem frameOf_probe (a : Nat) : frameOf a .probe [] = [BitVec.ofNat 16 (a % 128 * 512 + 320)] := by
  simp [frameOf, half, place, frameCode, Nat.shiftLeft_eq]

theorem frameOf_level (code : Byte) : frameOf 127 .setLevel [half code.toNat] = [0xFF01#16, code.setWidth 16] := by
  simp [frameOf, half, place, frameCode]

/-! ## The head of the queue -/

section
variable {s : State} {l : LinkId}

theorem begun_beginItem (l : LinkId) (it : Item) (s : State) : ((beginItem l it s).link l).Begun s.timebase := by
  unfold beginItem
  split <;> exact begun_beginFrame l _ _ _ _ s

/-- A head taken out, and the sweep its removal may start, leave what controls the link (R115, R116). -/
theorem sweptHead_control (l : LinkId) (n : Nat) {f : Link → Link} (hf : ∀ k, (f k).control = k.control) (s : State) :
    ((sweepAfterRemoval l n (onLink l f s)).link l).control = (s.link l).control := by
  rw [sweepAfterRemoval_control]
  exact onLink_control hf l s l

theorem begun_sendHeads (n : Nat) (hidle : (s.link l).transaction = none) :
    ((sendHeads l n s).link l).Begun s.timebase := by
  induction n generalizing s with
  | zero => exact begun_idle hidle _
  | succ n ih =>
    unfold sendHeads
    dsimp only
    split
    · exact begun_idle hidle _
    · rename_i it rest _
      split
      · have hbegun := begun_beginItem l it
          (sweepAfterRemoval l (s.link l).queue.length (onLink l (fun k => { k with queue := rest }) s))
        simpa using hbegun
      · have hrest := ih (s := sweepAfterRemoval l (s.link l).queue.length
          (onLink l (fun k => k.owe it) (onLink l (fun k => { k with queue := rest }) s))) ?_
        · simpa using hrest
        · rw [(Link.of_control (sweptHead_control l _ (fun k => owe_control k it) _)).2.1, onLink_self]
          exact hidle

/-- A head that may be sent is taken out and sent. -/
theorem sendHead_sends {it : Item} {rest : List Item} (hqueue : (s.link l).queue = it :: rest)
    (hsend : (s.link l).sendable it = true) : sendHead l s =
      beginItem l it (sweepAfterRemoval l (rest.length + 1) (onLink l (fun k => { k with queue := rest }) s)) := by
  unfold sendHead
  rw [sendHeads, hqueue]
  exact if_pos hsend

theorem sendHead_empty (hqueue : (s.link l).queue = []) : sendHead l s = s := by
  unfold sendHead
  rw [sendHeads, hqueue]

/-- The frame of an item (R116). -/
def Item.frame (it : Item) (window : Nat) (now : Time) : Transaction :=
  match it.body with
  | .level code => ⟨.item it, 127, [0xFF01#16, code.setWidth 16], window, now⟩
  | .probe => ⟨.item it, it.address, [BitVec.ofNat 16 (it.address % 128 * 512 + 320)], window, now⟩
  | .content c => ⟨.item it, it.address, frameOf it.address .show (contentWords c), window, now⟩

theorem beginItem_self (l : LinkId) (it : Item) (s : State) : (beginItem l it s).link l =
    { s.link l with transaction := some (it.frame s.items.replyWindow s.timebase) } := by
  unfold beginItem Item.frame
  split <;> simp [*, frameOf_probe, frameOf_level]

/-- The head sent: its frame is in flight, LINK_x is dirty, and no sweep follows but at the threshold (R115, R116). -/
theorem sendHead_outcome {it : Item} {rest : List Item} (hqueue : (s.link l).queue = it :: rest)
    (hsend : (s.link l).sendable it = true) :
    ((sendHead l s).link l).transaction = some (it.frame s.items.replyWindow s.timebase) ∧
      (sendHead l s).isDirty (.status l.word) = true ∧
      (¬ (s.items.queueNearEmpty < rest.length + 1 ∧ rest.length ≤ s.items.queueNearEmpty) →
        ((sendHead l s).link l).queue = rest ∧ ((sendHead l s).link l).units = (s.link l).units) := by
  rw [sendHead_sends hqueue hsend]
  generalize htaken : onLink l (fun k : Link => { k with queue := rest }) s = v
  have hlink : v.link l = { s.link l with queue := rest } := by rw [← htaken, onLink_self]
  have hitems : v.items = s.items := by simp [← htaken]
  refine ⟨?_, ?_, fun hcalm => ?_⟩
  · rw [beginItem_self]
    simp [← htaken]
  · have hdirty : v.isDirty (.status l.word) = true := by
      rw [← htaken]
      refine isDirty_markStatusIf ?_ l.word _
      simp [Link.shown, hqueue]
    have hswept := dirtyRises_sweepAfterRemoval l (rest.length + 1) v _ hdirty
    simpa [State.isDirty] using hswept
  · have hstays : sweepAfterRemoval l (rest.length + 1) v = v := by
      unfold sweepAfterRemoval
      rw [hlink, hitems]
      exact if_neg hcalm
    rw [beginItem_self, hstays, hlink]
    exact ⟨rfl, rfl⟩

/-! ## The order -/

/-- The unit a link that is ROUSING probes next. -/
def Link.wakes (k : Link) : Option Nat := if k.state = .rousing then k.wakePosition else none

section
variable (hidle : (s.link l).transaction = none) (hup : (s.link l).state.up = true)
include hidle hup

/-- The frames of a free link, in the order of R130. -/
theorem nextFrame_free : nextFrame l s =
    match (s.link l).unassignedDue with
    | a :: rest => sendUnassigned l a rest s
    | [] =>
      if (s.link l).rouseDue then beginFrame l .rouse 127 .rouse [] s
      else if (s.link l).restDue then beginFrame l .rest 127 .rest [] s
      else match (s.link l).wakes with
        | some a => beginFrame l (.wakeProbe a) a .probe [] s
        | none =>
          match (s.link l).dueProbe s.timebase with
          | some a => sendBackoffProbe l a s
          | none => sendHead l s := by
  unfold nextFrame
  dsimp only
  rw [if_neg (by simp [hidle, hup])]
  rfl

/-- The frame a free link begins is begun now. -/
theorem begun_nextFrame : ((nextFrame l s).link l).Begun s.timebase := by
  rw [nextFrame_free hidle hup]
  split
  · rename_i a rest _
    unfold sendUnassigned
    dsimp only
    split
    · simpa using begun_beginFrame l (.unassigned a) a .show _ (s.putLink l { s.link l with unassignedDue := rest })
    · exact begun_idle (by simpa using hidle) _
  · split
    · exact begun_beginFrame l _ _ _ _ s
    · split
      · exact begun_beginFrame l _ _ _ _ s
      · split
        · exact begun_beginFrame l _ _ _ _ s
        · split
          · rename_i a _
            have hbegun := begun_beginFrame l (.backoffProbe a) a .probe []
              (updateUnit l a (fun u => { u with probeDue := none }) s)
            rwa [(updateUnit_keeps _ _ _ _).2.1] at hbegun
          · exact begun_sendHeads _ hidle

theorem nextFrame_unassigned {a : Nat} {rest : List Nat} (h : (s.link l).unassignedDue = a :: rest) :
    nextFrame l s = sendUnassigned l a rest s := by rw [nextFrame_free hidle hup, h]

variable (hnone : (s.link l).unassignedDue = [])
include hnone

theorem nextFrame_rouse (h : (s.link l).rouseDue = true) : nextFrame l s = beginFrame l .rouse 127 .rouse [] s := by
  rw [nextFrame_free hidle hup, hnone]
  exact if_pos h

variable (hrouse : (s.link l).rouseDue = false)
include hrouse

theorem nextFrame_rest (h : (s.link l).restDue = true) : nextFrame l s = beginFrame l .rest 127 .rest [] s := by
  rw [nextFrame_free hidle hup, hnone]
  simp [hrouse, h]

variable (hrest : (s.link l).restDue = false)
include hrest

theorem nextFrame_wake {a : Nat} (h : (s.link l).wakes = some a) :
    nextFrame l s = beginFrame l (.wakeProbe a) a .probe [] s := by
  rw [nextFrame_free hidle hup, hnone]
  simp [hrouse, hrest, h]

theorem nextFrame_backoff {a : Nat} (hwake : (s.link l).wakes = none) (h : (s.link l).dueProbe s.timebase = some a) :
    nextFrame l s = sendBackoffProbe l a s := by
  rw [nextFrame_free hidle hup, hnone]
  simp [hrouse, hrest, hwake, h]

theorem nextFrame_head (hwake : (s.link l).wakes = none) (h : (s.link l).dueProbe s.timebase = none) :
    nextFrame l s = sendHead l s := by
  rw [nextFrame_free hidle hup, hnone]
  simp [hrouse, hrest, hwake, h]

end

theorem sendUnassigned_link {a : Nat} {u : UnitEntry} (hu : (s.link l).unit a = some u) (rest : List Nat) :
    (sendUnassigned l a rest s).link l = { s.link l with
      unassignedDue := rest
      transaction := some ⟨.unassigned a, a, frameOf a .show (contentWords (unassignedContent u)), s.items.replyWindow,
        s.timebase⟩ } := by
  have hunit : ((s.putLink l { s.link l with unassignedDue := rest }).link l).unit a = some u := by
    rw [putLink_self]
    exact hu
  rw [sendUnassigned, hunit]
  simp

theorem sendBackoffProbe_link (l : LinkId) (a : Nat) (s : State) : (sendBackoffProbe l a s).link l = { s.link l with
    transaction := some ⟨.backoffProbe a, a, [BitVec.ofNat 16 (a % 128 * 512 + 320)], s.items.replyWindow, s.timebase⟩
    units := (s.link l).units.map fun u => if u.address = a then { u with probeDue := none } else u } := by
  rw [sendBackoffProbe, beginFrame_self, updateUnit_self, frameOf_probe]
  simp [Link.mapUnit]

theorem changesOnly_nextFrame (l : LinkId) (s : State) : ChangesOnly [.link l, .dirty] s (nextFrame l s) := by
  intro p hp; cases p <;> simp_all [Part.same]

end

/-- Settles O48: one frame after the other in the order of `nextFrame_free`. -/
theorem nextFrameFollowsTheOrder : Obligations.NextFrameFollowsTheOrder := by
  intro s l r k entry window probe wake hfree hstate
  have hlink : s.ready.link l = entry := link_ready s l
  have htime : s.ready.timebase = s.timebase := by simp
  have hitems : s.ready.items = s.items := by simp
  have hidle : (s.ready.link l).transaction = none := hlink ▸ hfree
  have hup : (s.ready.link l).state.up = true := hlink ▸ (up_iff _).mpr hstate
  have hexec : exec (.nextFrameSelect l) s = .next (nextFrame l s.ready) :=
    congrArg Host.Outcome.next (onEvent_run _ k r)
  have hframe := changesOnly_nextFrame l s.ready
  have hbegun := begun_nextFrame hidle hup
  have hsent (p : Purpose) (a : Nat) (kind : FrameKind) (payload : List Half) :
      (beginFrame l p a kind payload s.ready).link l =
        { entry with transaction := some ⟨p, a, frameOf a kind payload, window, s.timebase⟩ } := by
    rw [beginFrame_self, hlink, hitems, htime]
  have hwakes : (s.ready.link l).wakes = wake := by rw [hlink]; rfl
  rw [htime] at hbegun
  rw [← hlink]
  refine ⟨_, hexec, hframe, ?_, fun h => ?_, fun x now hx => driving_of_begun hbegun hx now, fun a rest u hdue hu => ?_,
    fun hdue => ⟨fun hrouse => ?_, fun hrouse hrest => ?_, fun hrouse hrest => ⟨fun a hwake => ?_, fun hwake =>
      ⟨fun a hprobe => ?_, fun hprobe hqueue => ?_, fun it rest hprobe hqueue hsend => ?_⟩⟩⟩⟩
  · rw [Link.driving, hidle]
  · rw [(hframe .timebase (by simp)).trans htime]
    exact driving_now hbegun h
  · rw [nextFrame_unassigned hidle hup hdue, sendUnassigned_link hu, hitems, htime]
  · rw [nextFrame_rouse hidle hup hdue hrouse, hsent, hlink]
    rfl
  · rw [nextFrame_rest hidle hup hdue hrouse hrest, hsent, hlink]
    rfl
  · rw [nextFrame_wake hidle hup hdue hrouse hrest (hwakes.trans hwake), hsent, hlink, frameOf_probe]
  · rw [nextFrame_backoff hidle hup hdue hrouse hrest (hwakes.trans hwake) (htime ▸ hprobe),
      sendBackoffProbe_link, hitems, htime]
  · rw [nextFrame_head hidle hup hdue hrouse hrest (hwakes.trans hwake) (htime ▸ hprobe), sendHead_empty hqueue]
  · have hout := sendHead_outcome hqueue hsend
    rw [hitems, htime] at hout
    rw [nextFrame_head hidle hup hdue hrouse hrest (hwakes.trans hwake) (htime ▸ hprobe), hqueue]
    exact hout

end Sys2Proof.Machine
end
